-- ==== Sys2Proof/Word.lean ====
section
/-!
DEFINITION. The plain types of the TH-64: bytes of the links, superframe stamps, and the index types of
seats, displays, booking slots and names. Their ranges are those of Table 6-1, Table 4-1 and Table 0-3.
-/

namespace Sys2Proof

/-- One byte of a frame or of a cell (chapter 12). -/
abbrev Byte := BitVec 8

/-- The superframe stamp, a 32-bit count that wraps (Table 4-1). -/
abbrev Stamp := BitVec 32

/-- The log's sequence number, 0..65535, wrapping (R185). -/
abbrev SeqNo := BitVec 16

/-- A seat number 0..63 (Table 6-1). -/
abbrev Seat := Fin 64

/-- A display number 0..3 (R136). -/
abbrev DisplayNo := Fin 4

/-- One of the four inputs of a display; the value n stands for input n + 1 of the manual (R141). -/
abbrev InputNo := Fin 4

/-- A booking slot 0..15 (R160). -/
abbrev SlotNo := Fin 16

/-- A Name Table index 0..127 (R121). -/
abbrev NameNo := Fin 128

/-- A code slot 0..23 of the IR Code Store (Table 8-1). -/
abbrev CodeSlot := Fin 24

/-- An input of the Voice Gate: 0..63 the seats, 64 the floor bus, 65 the far send (R106, R107). -/
abbrev MeterNo := Fin 66

/-- A string of character codes (00_scope, section 5). -/
abbrev Text := List Byte

end Sys2Proof
end

