-- ==== Sys2Proof/Config.lean ====
section
/-!
DEFINITION. The free values: what the spec leaves open and the model does not choose. Each is a constant
with no body, so no proof can lean on a value of it.
-/

namespace Sys2Proof

/-- How far into the rest of the present frame, in cycles of REFCLK, an execution falls, which no rule fixes:
the instant at which the idle emitter takes an entry that a command queued (R149 says "at once", and the
execution may fall anywhere), and at which STATUS reads the time left (R153). It is used modulo the cycles that
the frame has left. DESIGN CHOICE, notes/assumptions/18.md and 22.md; applied to `State.draws`. -/
opaque Config.instant : Nat → Nat

/-- Which of the 254 bytes that code no bank STATUS sends for "no pending bank": Table 12-6 gives no coding for an absent
bank, and an absent field is distinct from every value (R89, 00 section 8). DESIGN CHOICE,
notes/assumptions/21.md. -/
opaque Config.noPendingBank : Fin 254

end Sys2Proof
end

