-- ==== Sys2Proof/Syntax.lean ====
section
/-!
DEFINITION. The commands of the TH-64: one constructor of `Instr` for each row of spec/opcode_table.json,
with the row's operands. The parameters of a command cell are the numbers of its fields as received
(Tables 12-5 and 12-7): a value outside its range is still an operand, since the owning block refuses it
(R204, R220). `none` stands for parameters that do not have the command's form (R204).
-/

namespace Sys2Proof

/-- The three links (00_scope, Table 3-1). -/
inductive Link
  | chainA | chainB | trunk
  deriving DecidableEq, Repr

/-- The level of the ALERT pin at a sample (R222): below 0.8 V, between 0.8 V and 2.0 V, above 2.0 V. -/
inductive AlertLevel
  | low | between | high
  deriving DecidableEq, Repr

/-- The eight tables reached through the cursor, in the order of their codes (Table 11-2, R220). -/
inductive TableName
  | seat | name | gain0 | gain1 | nom | booking | idle | display
  deriving DecidableEq, Repr

/-- The fields of a Floor Setup record as received (12.2, 12 bytes). `limit` 0 means absent. -/
structure SetupFields where
  mode : Nat
  maxOpen : Nat
  autoAdvance : Bool
  limit : Nat
  lead : Nat
  action : Nat
  threshold : Nat
  hold : Nat
  deriving DecidableEq, Repr

/-- The fields of a SEAT entry as received (Table 12-7). -/
structure SeatFields where
  role : Nat
  name : Nat
  exempt : Bool
  deriving DecidableEq, Repr

/-- One entry of a display plan as received: used, and the input byte (Table 12-7). -/
structure PlanFields where
  used : Bool
  input : Nat
  deriving DecidableEq, Repr

/-- The fixed part of a booking as received (Table 12-7, PUT form, 33 bytes). -/
structure BookingFields where
  id : Nat
  start : Nat
  finish : Nat
  lead : Nat
  grace : Nat
  endWarn : Nat
  weekly : Bool
  bank : Nat
  chair : Nat
  title : Nat
  plan : Vector PlanFields 4
  setup : SetupFields
  deriving DecidableEq, Repr

/-- The fields of the IDLE entry as received (Table 12-7). -/
structure IdleFields where
  enabled : Bool
  setup : SetupFields
  bank : Nat
  deriving DecidableEq, Repr

/-- The fields of a DISPLAY entry as received (Table 12-7). -/
structure PresetFields where
  period : Nat
  high : Nat
  warmUp : Nat
  coolDown : Nat
  deriving DecidableEq, Repr

/-- A command cell as the Command FIFO holds it (R199, Table 12-4): tag, command code and body. `body` is
`none` when the body length is above 504 (R219). Byte 3 and the fill are ignored (R219, R218). -/
structure CommandCell where
  tag : Byte
  code : Byte
  body : Option (List Byte)
  deriving DecidableEq, Repr

/-- The commands: the rows of spec/opcode_table.json. -/
inductive Instr
  /-- RESET held low for this many nanoseconds (R222). -/
  | resetPin (lowNs : Nat)
  /-- The incoming frame that partners the last outgoing frame of a link, as the bytes received (R6, R215). -/
  | incomingFrame (link : Link) (bytes : List Byte)
  /-- The next outgoing frame of all three links (R4, R5). -/
  | outgoingFrame
  | answerSent
  | noticeSent
  /-- `limitsFirst`: whether the counts of the timers, with their matches, are taken before the capture (R84, R105). -/
  | superframeStart (limitsFirst : Bool)
  | speakingWarning (seat : Seat)
  | speakingLimitClose (seat : Seat)
  | speakingLimitNotify (seat : Seat)
  | minuteBoundary
  | superframeEnd
  | chainLock (link : Link)
  | chainUnlock (link : Link)
  | alertSample (level : AlertLevel)
  | refusedTimerExpiry (seat : Seat)
  | messageExpiry (seat : Seat)
  | voiceEvaluation
  | presenceEnd (seat : Seat)
  | quietTimeout
  | warmExpiry (display : DisplayNo)
  | coolExpiry (display : DisplayNo)
  /-- `instant`: cycles of REFCLK into the present frame (R150, R222). -/
  | irTransmissionStart (instant : Nat)
  | irTransmissionComplete
  | commandCellArrival
  | unknownCommand (tag code : Byte)
  /-- Table and index (R206). -/
  | select (tag : Byte) (params : Option (TableName × Nat))
  | get (tag : Byte) (params : Option Unit)
  | putSeat (tag : Byte) (params : Option SeatFields)
  | putName (tag : Byte) (params : Option Text)
  | putGain (tag : Byte) (params : Option Nat)
  | putNom (tag : Byte) (params : Option Nat)
  | putBooking (tag : Byte) (params : Option BookingFields)
  | putIdle (tag : Byte) (params : Option IdleFields)
  | putDisplay (tag : Byte) (params : Option PresetFields)
  /-- Booking slot (R163). -/
  | listClearAssign (tag : Byte) (params : Option Nat)
  /-- Code slot, repeat count, repeat gap (R138). -/
  | listClearIrcode (tag : Byte) (params : Option (Nat × Nat × Nat))
  /-- Booking slot and items of seat and name index (R163). -/
  | listAddAssign (tag : Byte) (params : Option (Nat × List (Nat × Nat)))
  /-- Code slot and pairs of mark and space (R139). -/
  | listAddIrcode (tag : Byte) (params : Option (Nat × List (Nat × Nat)))
  /-- Booking slot and offset (R164). -/
  | listGetAssign (tag : Byte) (params : Option (Nat × Nat))
  /-- Code slot and offset (R140). -/
  | listGetIrcode (tag : Byte) (params : Option (Nat × Nat))
  | status (tag : Byte) (params : Option Unit)
  | statusSeat (tag : Byte) (seat : Nat)
  | restart (tag : Byte) (params : Option Unit)
  | seatOpen (tag : Byte) (seat : Option Nat)
  | seatClose (tag : Byte) (seat : Option Nat)
  | grantNext (tag : Byte) (params : Option Unit)
  | queueClear (tag : Byte) (params : Option Unit)
  | floorSet (tag : Byte) (setup : Option SetupFields)
  | priorityOn (tag : Byte) (params : Option Unit)
  | priorityOff (tag : Byte) (params : Option Unit)
  | bankSelect (tag : Byte) (bank : Option Nat)
  | clipRead (tag : Byte) (params : Option Unit)
  /-- First meter and count (R108). -/
  | meterRead (tag : Byte) (params : Option (Nat × Nat))
  /-- Target (255 ALL), duration in s, text (R127). -/
  | seatMessage (tag : Byte) (params : Option (Nat × Nat × Text))
  /-- Target (255 ALL) (R128). -/
  | messageClear (tag : Byte) (target : Option Nat)
  /-- Display and input (0 absent) (R142). -/
  | displayPowerOn (tag : Byte) (params : Option (Nat × Nat))
  /-- Display and input, which is ignored (R142). -/
  | displayPowerOff (tag : Byte) (params : Option (Nat × Nat))
  /-- Display and input (R142). -/
  | displayInput (tag : Byte) (params : Option (Nat × Nat))
  /-- Day, hour, minute, second (R158). -/
  | clockSet (tag : Byte) (params : Option (Nat × Nat × Nat × Nat))
  | clockGet (tag : Byte) (params : Option Unit)
  | commit (tag : Byte) (slot : Option Nat)
  /-- Slot and minutes (R177). -/
  | extend (tag : Byte) (params : Option (Nat × Nat))
  | endNow (tag : Byte) (slot : Option Nat)
  | cancel (tag : Byte) (slot : Option Nat)
  | logRead (tag : Byte) (params : Option Unit)
  /-- Mask byte and trigger level (R191). -/
  | noticeSet (tag : Byte) (params : Option (Nat × Nat))
  deriving DecidableEq, Repr

end Sys2Proof
end

