-- ==== Sys2Proof/Machine/State.lean ====
section
/-!
DEFINITION. The state of the TH-64, block by block (00_scope, Table 0-1), and its value after RESET. All of
it is plain data. INVENTORY.md lists every item with the rule that names it. The updates `State.with…`
replace one block each; Sys2Proof/Laws/State.lean holds their lemmas.
-/

namespace Sys2Proof.Machine

/-! ### Links -/

/-- The lock of one link (R7). `sfBad`: an incoming frame of the superframe under way was bad (R6).
`change`: the superframe just ended calls for a change of lock state that no CHAIN_LOCK or CHAIN_UNLOCK
has taken yet (notes/assumptions/6.md). -/
structure LinkState where
  locked : Bool
  goodRun : Nat
  badRun : Nat
  sfBad : Bool
  change : Bool
  deriving DecidableEq, Repr

/-- The three links (R7). -/
structure Links where
  chainA : LinkState
  chainB : LinkState
  trunk : LinkState
  deriving DecidableEq, Repr

/-- The samples last received and taken (R85, R93): one per seat, the far-end return, the announce channel. -/
structure AudioIn where
  mic : Vector Int 64
  far : Int
  announce : Int
  deriving DecidableEq, Repr

/-! ### Seat units -/

/-- The presence state of a seat (R11); `fading m` is FADING(m + 1). -/
inductive Presence
  | absent | joining1 | joining2 | present
  | fading (m : Fin 7)
  deriving DecidableEq, Repr

/-- One filtered button: level, run count 0..2, run stamp (R14). -/
structure Button where
  pressed : Bool
  run : Nat
  stamp : Stamp
  deriving DecidableEq, Repr

/-- What the Chain Port keeps of one seat (R11, R14, R17, R19). -/
structure SeatUnit where
  presence : Presence
  mic : Button
  priority : Button
  next : Button
  volume : Nat
  refused : Nat
  deriving DecidableEq, Repr

/-- The role of a Seat Table entry, and an effective role (R22, R29). -/
inductive Role
  | delegate | chair | listenOnly
  deriving DecidableEq, Repr

/-- A Seat Table entry (Table 1-2). -/
structure SeatEntry where
  role : Role
  name : Option NameNo
  exempt : Bool
  deriving DecidableEq, Repr

/-! ### Floor -/

/-- The mode of a Floor Setup (Table 2-1). -/
inductive Mode
  | direct | queued | overrideMode | voice
  deriving DecidableEq, Repr

/-- The limit action of a Floor Setup (Table 2-1). -/
inductive LimitAction
  | close | notify
  deriving DecidableEq, Repr

/-- A Floor Setup record, every field in its range (Table 2-1). Limit and lead are in seconds, hold in ms. -/
structure FloorSetup where
  mode : Mode
  maxOpen : Nat
  autoAdvance : Bool
  limit : Option Nat
  lead : Nat
  action : LimitAction
  threshold : Nat
  hold : Nat
  deriving DecidableEq, Repr

/-- The floor state (R26). -/
inductive FloorState
  | closed | running | hold | alert
  deriving DecidableEq, Repr

/-- How an Open List entry opened (R31), in the order of R54. -/
inductive How
  | press | grant | auto | voice | command | restore
  deriving DecidableEq, Repr

/-- A timer record (R72) with its compares (R75), all in ms. `owed`, the model's own: the count of the present
superframe's start, with its checks, is still to be taken (R84, notes/assumptions/15.md). -/
structure Timer where
  elapsed : Nat
  running : Bool
  owed : Bool
  warned : Bool
  overtime : Bool
  warn : Option Nat
  limit : Option Nat
  deriving DecidableEq, Repr

/-- An entry of the Open List or of the Hold Shadow (R31, R59). `chair`: its role class. -/
structure Entry where
  seat : Seat
  chair : Bool
  how : How
  timer : Timer
  deriving DecidableEq, Repr

/-- An entry of the Request Queue (R32). -/
structure Request where
  seat : Seat
  stamp : Stamp
  deriving DecidableEq, Repr

/-- The current meeting (R26, R50, R171): none, the idle meeting, or a booking named by its slot, its id and
its chair seat. -/
inductive Meeting
  | none
  | idle
  | booking (slot : SlotNo) (id : Nat) (chair : Option Seat)
  deriving DecidableEq, Repr

/-- The Floor Controller (R26 to R32, R56, R59). The arming and the chair holders are sets, held as strictly
ascending lists (notes/assumptions/30.md). The mic state of a seat is the view `micState`. -/
structure Floor where
  phase : FloorState
  setup : FloorSetup
  meeting : Meeting
  openList : List Entry
  queue : List Request
  shadow : List Entry
  armed : List Seat
  holders : List Seat
  remote : Bool
  deriving DecidableEq, Repr

/-- The ALERT filter (R67) and the last read level of the pin (R222); `true` is active. -/
structure AlertFilter where
  level : Bool
  run : Nat
  pin : Bool
  deriving DecidableEq, Repr

/-! ### Audio -/

/-- The Mixing Engine: gain banks (R88), active and pending bank (R89), NOM Table (R92), the values captured at
the superframe start (R86), clip counters (R98). -/
structure Mixer where
  bank0 : Vector Nat 65
  bank1 : Vector Nat 65
  active : Fin 2
  pending : Option (Fin 2)
  nom : Vector Nat 8
  capGains : Vector Nat 65
  capSeats : List Seat
  capFactor : Option Nat
  clipFloor : Nat
  clipFar : Nat
  deriving DecidableEq, Repr

/-- A voice filter (R109). -/
structure VoiceFilter where
  present : Bool
  run : Nat
  runStamp : Stamp
  hold : Nat
  start : Stamp
  deriving DecidableEq, Repr

/-- The Voice Gate: filters (R109), peaks being formed and completed (R106), meters (R107), the copies of the
threshold and the hold (R111). -/
structure Gate where
  filters : Vector VoiceFilter 64
  forming : Vector Nat 66
  lastPeak : Vector Nat 66
  meters : Vector Nat 66
  threshold : Nat
  hold : Nat
  deriving DecidableEq, Repr

/-! ### Screens -/

/-- A message slot's contents: the text and the ms left, or until cleared (R126). -/
structure Message where
  text : Text
  left : Option Nat
  deriving DecidableEq, Repr

/-- A shown image: two lines of 24 positions, each a character or unknown (R120). -/
structure Shown where
  line1 : Vector (Option Byte) 24
  line2 : Vector (Option Byte) 24
  deriving DecidableEq, Repr

/-- The Screen Composer: Name Table (R121), message slots (R126), shown images (R120). -/
structure Screens where
  names : Vector Text 128
  messages : Vector (Option Message) 64
  shown : Vector Shown 64
  deriving DecidableEq, Repr

/-! ### Displays and infrared -/

/-- A display preset (R136): carrier period in 0.1 µs, high time in percent, warm-up and cool-down in s. -/
structure Preset where
  period : Nat
  high : Nat
  warmUp : Nat
  coolDown : Nat
  deriving DecidableEq, Repr

/-- A code list (R137): pairs of mark and space in µs, repeat count, repeat gap in ms. -/
structure CodeList where
  pairs : List (Nat × Nat)
  times : Nat
  gap : Nat
  deriving DecidableEq, Repr

/-- The six codes of a display (Table 8-1). -/
inductive IrCode
  | powerOn | powerOff
  | input (n : InputNo)
  deriving DecidableEq, Repr

/-- An entry of the IR Send Queue (R148). -/
structure IrEntry where
  display : DisplayNo
  code : IrCode
  deriving DecidableEq, Repr

/-- The transmission in flight (R149): its entry, the copied carrier period and high time, and `ends`, the
instant of its end in cycles of REFCLK from the start of the present frame (notes/assumptions/18.md). -/
structure InFlight where
  entry : IrEntry
  period : Nat
  high : Nat
  ends : Nat
  deriving DecidableEq, Repr

/-- The state of a display (R141). -/
inductive DisplayState
  | off | warming | on | cooling
  deriving DecidableEq, Repr

/-- The phase of a display (R141), in the order of their codes in R220. -/
inductive DisplayPhase
  | sending | timing | stopping | steady
  deriving DecidableEq, Repr

/-- The record of one display (R141). -/
structure DisplayRecord where
  state : DisplayState
  phase : Option DisplayPhase
  timer : Nat
  selected : Option InputNo
  pending : Option InputNo
  pendingOn : Bool
  deriving DecidableEq, Repr

/-- The Display Sequencer and the IR Emitter. `now`, the model's own: the instant of the present frame, in cycles
of REFCLK, that has been reached (notes/assumptions/18.md). -/
structure Displays where
  presets : Vector Preset 4
  codes : Vector CodeList 24
  records : Vector DisplayRecord 4
  queue : List IrEntry
  inFlight : Option InFlight
  now : Nat
  deriving DecidableEq, Repr

/-! ### Clock and bookings -/

/-- A room time (Table 4-2). -/
structure RoomTime where
  day : Nat
  hour : Nat
  minute : Nat
  second : Nat
  ms : Nat
  deriving DecidableEq, Repr

/-- The Room Clock (R156). -/
structure Clock where
  time : RoomTime
  valid : Bool
  deriving DecidableEq, Repr

/-- One entry of a display plan (Table 9-2). -/
structure PlanEntry where
  used : Bool
  input : InputNo
  deriving DecidableEq, Repr

/-- The fixed part of a booking, every field in its range (Table 9-2). -/
structure Fixed where
  id : Nat
  start : Nat
  finish : Nat
  lead : Nat
  grace : Nat
  endWarn : Nat
  weekly : Bool
  bank : Fin 2
  chair : Option Seat
  title : Option NameNo
  plan : Vector PlanEntry 4
  setup : FloorSetup
  deriving DecidableEq, Repr

/-- An item of an assignment list (R162). -/
structure Item where
  seat : Seat
  name : NameNo
  deriving DecidableEq, Repr

/-- The states of a committed booking (Table 9-1). -/
inductive Stage
  | pending | lead | active | ending | done
  deriving DecidableEq, Repr

/-- A booking slot (R160): FREE, DRAFT, or a committed booking with its booked end and current end. -/
inductive Slot
  | free
  | draft (fixed : Fixed) (items : List Item)
  | committed (stage : Stage) (fixed : Fixed) (items : List Item) (booked current : Nat)
  deriving DecidableEq, Repr

/-- The Idle Setup (R180). -/
structure IdleSetup where
  enabled : Bool
  setup : FloorSetup
  bank : Fin 2
  deriving DecidableEq, Repr

/-- The Booking Scheduler. -/
structure Scheduler where
  slots : Vector Slot 16
  idle : IdleSetup
  deriving DecidableEq, Repr

/-! ### Log and notices -/

/-- Reasons of CANCEL, in the order of Table 10-1. -/
inductive CancelReason
  | press | command | lost | config
  deriving DecidableEq, Repr

/-- Reasons of MIC_CLOSE, in the order of Table 10-1. -/
inductive CloseReason
  | press | command | overridden | limit | lost | config | meeting | alert | setup | voiceHold
  | restoreFull
  deriving DecidableEq, Repr

/-- Causes of MEETING_START, in the order of Table 10-1. -/
inductive StartCause
  | scheduled | late | idle
  deriving DecidableEq, Repr

/-- Causes of MEETING_END, in the order of Table 10-1. -/
inductive EndCause
  | scheduled | endNow | cancel | clock | idle
  deriving DecidableEq, Repr

/-- The kind of a record with its detail (Table 10-1), in the table's order. -/
inductive LogEvent
  | request (position : Nat)
  | cancel (reason : CancelReason)
  | micOpen (how : How)
  | micClose (reason : CloseReason)
  | queueCleared (removed : Nat)
  | warned (secondsLeft : Nat)
  | overtime (limitSeconds : Nat)
  | holdStart (moved : Nat)
  | holdEnd (restored : Nat)
  | alertOn (closed : Nat)
  | alertOff
  | meetingStart (cause : StartCause)
  | meetingEnd (cause : EndCause)
  | bookingMissed (slot : SlotNo)
  | seatJoin
  | seatLost
  | chainLock (link : Link)
  | chainUnlock (link : Link)
  | clockSet (weekMinute : Nat)
  | displayNocode (slot : CodeSlot)
  deriving DecidableEq, Repr

/-- A record of the Speech Log (R186). -/
structure LogRecord where
  seq : SeqNo
  time : RoomTime
  event : LogEvent
  seat : Option Seat
  booking : Option Nat
  deriving DecidableEq, Repr

/-- The Speech Log (R185): the records oldest first, how many of the newest are unread, the next sequence
number. The read position is the ring's length less the unread count. -/
structure SpeechLog where
  ring : List LogRecord
  unread : Nat
  nextSeq : SeqNo
  deriving DecidableEq, Repr

/-- The five notice sources, as the summary or as the mask (R190, R191). -/
structure Sources where
  log : Bool
  clip : Bool
  link : Bool
  display : Bool
  clock : Bool
  deriving DecidableEq, Repr

/-- The Notice Unit (R190 to R194); `mask` is true where a source is enabled. -/
structure Notices where
  summary : Sources
  mask : Sources
  trigger : Nat
  pending : Bool
  quiet : Nat
  deriving DecidableEq, Repr

/-! ### Command Port -/

/-- The answer codes, in the order of their codes (Table 11-1, Table 12-4). -/
inductive AnswerCode
  | done | busy | unknown | range | state | occupied | conflict | space | empty
  deriving DecidableEq, Repr

/-- An answer (R203): the tag and the code of its command, the answer code, and the result as the bytes of
the body. -/
structure Answer where
  tag : Byte
  code : Byte
  answer : AnswerCode
  result : List Byte
  deriving DecidableEq, Repr

/-- The contents of a notice cell (R195). -/
structure Notice where
  summary : Sources
  unread : Nat
  newest : Option SeqNo
  deriving DecidableEq, Repr

/-- What an upstream management slot carries (R195). -/
inductive UpCell
  | empty
  | answer (a : Answer)
  | notice (n : Notice)
  deriving DecidableEq, Repr

/-- The cursor (R206). -/
structure Cursor where
  table : TableName
  index : Nat
  deriving DecidableEq, Repr

/-- The Command Port (R200, R202, R206). `arrived`: the management cell of the last good trunk frame, not yet
offered to the FIFO. `slot`: the upstream slot of the coming frame, if ANSWER_SENT or NOTICE_SENT has
filled it. -/
structure Port where
  fifo : List CommandCell
  answers : List Answer
  cursor : Cursor
  arrived : Option (List Byte)
  slot : Option UpCell
  deriving DecidableEq, Repr

/-! ### Frames sent -/

/-- The LED states, in the order of their codes (Table 12-3). -/
inductive Led
  | off | on | request | warn | over | held | armed | refused | alert
  deriving DecidableEq, Repr

/-- A screen fragment (R130): line 1 or 2, start column, runs of a character and a count. -/
structure Fragment where
  line : Nat
  start : Nat
  runs : List (Byte × Nat)
  deriving DecidableEq, Repr

/-- A seat order (R18), without its check, which its bytes add. -/
structure SeatOrder where
  led : Led
  mute : Bool
  fragment : Option Fragment
  deriving DecidableEq, Repr

/-- An outgoing chain frame (R4): its index, the 32 loudspeaker samples and the seat order. -/
structure ChainFrame where
  index : Fin 32
  samples : Vector Int 32
  order : SeatOrder
  deriving DecidableEq, Repr

/-- An outgoing trunk frame (R5): its index, the floor bus and far send samples and the management cell. -/
structure TrunkFrame where
  index : Fin 32
  floorBus : Int
  farSend : Int
  cell : UpCell
  deriving DecidableEq, Repr

/-- The frames last sent on the three links. -/
structure Sent where
  chainA : Option ChainFrame
  chainB : Option ChainFrame
  trunk : Option TrunkFrame
  deriving DecidableEq, Repr

/-! ### Time, and events not yet taken -/

/-- The superframe stamp (Table 4-1) and the index of the next outgoing frame (R4, R215). -/
structure TimeBase where
  stamp : Stamp
  frame : Fin 32
  deriving DecidableEq, Repr

/-- A voice evaluation that has come about (R111): the superframe's stamp and the copies it uses. -/
structure VoiceDue where
  stamp : Stamp
  threshold : Nat
  hold : Nat
  deriving DecidableEq, Repr

/-- A report of the Voice Gate (R113, R114): the seat, and whether its presence started or ended. -/
structure VoiceReport where
  seat : Seat
  started : Bool
  deriving DecidableEq, Repr

/-- The model's own record of internal events that have come about and are not yet taken
(notes/assumptions/6.md): the minute boundary with its week minute (R156), REFUSED timers, message slots and
display timers whose last count is due, the quiet count's step (R193), the voice evaluation (R111) and
the reports still to be handed over (R113). -/
structure Due where
  boundary : Option Nat
  refused : List Seat
  messages : List Seat
  displays : List DisplayNo
  quiet : Bool
  voice : Option VoiceDue
  reports : List VoiceReport
  deriving DecidableEq, Repr

/-- The state of the TH-64, and the commands that are waiting. -/
structure State where
  time : TimeBase
  links : Links
  audio : AudioIn
  seats : Vector SeatUnit 64
  seatTable : Vector SeatEntry 64
  floor : Floor
  alert : AlertFilter
  mixer : Mixer
  gate : Gate
  screens : Screens
  displays : Displays
  clock : Clock
  sched : Scheduler
  log : SpeechLog
  notices : Notices
  port : Port
  sent : Sent
  due : Due
  draws : Nat
  pending : List Instr
  deriving DecidableEq, Repr

/-- The reasons for which a step stops with a fault. There are none: the spec gives the part no fault, and
every command has an effect in every state. -/
inductive Fault
  deriving DecidableEq, Repr

/-- The reasons for which a command has no meaning. -/
inductive Refusal
  /-- Raised by `exec` for a row that has no meaning yet; safe. No arm of `exec` raises it. -/
  | notModelled (mnemonic : String)
  deriving DecidableEq, Repr

/-! ### Updates, one per block -/

def State.withTime (s : State) (x : TimeBase) : State := { s with time := x }
def State.withLinks (s : State) (x : Links) : State := { s with links := x }
def State.withAudio (s : State) (x : AudioIn) : State := { s with audio := x }
def State.withSeats (s : State) (x : Vector SeatUnit 64) : State := { s with seats := x }
def State.withSeatTable (s : State) (x : Vector SeatEntry 64) : State := { s with seatTable := x }
def State.withFloor (s : State) (x : Floor) : State := { s with floor := x }
def State.withAlert (s : State) (x : AlertFilter) : State := { s with alert := x }
def State.withMixer (s : State) (x : Mixer) : State := { s with mixer := x }
def State.withGate (s : State) (x : Gate) : State := { s with gate := x }
def State.withScreens (s : State) (x : Screens) : State := { s with screens := x }
def State.withDisplays (s : State) (x : Displays) : State := { s with displays := x }
def State.withClock (s : State) (x : Clock) : State := { s with clock := x }
def State.withSched (s : State) (x : Scheduler) : State := { s with sched := x }
def State.withLog (s : State) (x : SpeechLog) : State := { s with log := x }
def State.withNotices (s : State) (x : Notices) : State := { s with notices := x }
def State.withPort (s : State) (x : Port) : State := { s with port := x }
def State.withSent (s : State) (x : Sent) : State := { s with sent := x }
def State.withDue (s : State) (x : Due) : State := { s with due := x }
def State.withDraws (s : State) (x : Nat) : State := { s with draws := x }

/-! ### Reset values -/

/-- An unlocked link with both counts 0 (R7). -/
def LinkState.reset : LinkState :=
  { locked := false, goodRun := 0, badRun := 0, sfBad := false, change := false }

/-- A released button with run count 0 (R14); the run stamp is then meaningless, DESIGN CHOICE 0
(notes/assumptions/5.md). -/
def Button.released : Button := { pressed := false, run := 0, stamp := 0 }

/-- A seat after RESET (R11, R14, R17, R19). -/
def SeatUnit.reset : SeatUnit :=
  { presence := .absent, mic := .released, priority := .released, next := .released, volume := 0,
    refused := 0 }

/-- A Seat Table entry after RESET (Table 1-2). -/
def SeatEntry.reset : SeatEntry := { role := .delegate, name := none, exempt := false }

/-- The Floor Setup of the Idle Setup after RESET (R180, R55). -/
def FloorSetup.reset : FloorSetup :=
  { mode := .direct, maxOpen := 4, autoAdvance := true, limit := none, lead := 30,
    action := .close, threshold := 16384, hold := 800 }

/-- The floor after RESET: the idle meeting runs (R55). -/
def Floor.reset : Floor :=
  { phase := .running, setup := .reset, meeting := .idle, openList := [], queue := [],
    shadow := [], armed := [], holders := [], remote := false }

/-- Table 5-2. -/
def nomReset : Vector Nat 8 := #v[32768, 23170, 18919, 16384, 14654, 13377, 12385, 11585]

/-- The Mixing Engine after RESET (R86, R88, R89, R92, R98). -/
def Mixer.reset : Mixer :=
  { bank0 := Vector.replicate 65 16384, bank1 := Vector.replicate 65 16384, active := 0,
    pending := none, nom := nomReset, capGains := Vector.replicate 65 16384, capSeats := [],
    capFactor := none, clipFloor := 0, clipFar := 0 }

/-- A voice filter at rest (R109); its stamps are then meaningless, DESIGN CHOICE 0
(notes/assumptions/5.md). -/
def VoiceFilter.rest : VoiceFilter :=
  { present := false, run := 0, runStamp := 0, hold := 0, start := 0 }

/-- The Voice Gate after RESET (R106, R107, R110, R119). -/
def Gate.reset : Gate :=
  { filters := Vector.replicate 64 .rest, forming := Vector.replicate 66 0,
    lastPeak := Vector.replicate 66 0, meters := Vector.replicate 66 0, threshold := 16384,
    hold := 800 }

/-- A shown image of which every position is unknown (R120). -/
def Shown.unknown : Shown :=
  { line1 := Vector.replicate 24 none, line2 := Vector.replicate 24 none }

/-- A display preset after RESET (R136). -/
def Preset.reset : Preset := { period := 263, high := 33, warmUp := 10, coolDown := 30 }

/-- A code list after RESET (R137). -/
def CodeList.reset : CodeList := { pairs := [], times := 1, gap := 0 }

/-- A display record after RESET and after RESTART (R141). -/
def DisplayRecord.reset : DisplayRecord :=
  { state := .off, phase := none, timer := 0, selected := none, pending := none,
    pendingOn := false }

/-- Monday 00:00:00.000 (R156). -/
def RoomTime.zero : RoomTime := { day := 0, hour := 0, minute := 0, second := 0, ms := 0 }

/-- The Idle Setup after RESET (R180). -/
def IdleSetup.reset : IdleSetup := { enabled := true, setup := .reset, bank := 0 }

/-- No source, and every source (R190, R191). -/
def Sources.none : Sources :=
  { log := false, clip := false, link := false, display := false, clock := false }

/-- Every source. -/
def Sources.all : Sources :=
  { log := true, clip := true, link := true, display := true, clock := true }

/-- The Notice Unit after RESET (R190, R191, R193, R194). -/
def Notices.reset : Notices :=
  { summary := { Sources.none with clock := true }, mask := .all, trigger := 1, pending := true,
    quiet := 0 }

/-- The Command Port after RESET (R200, R202, R206). -/
def Port.reset : Port :=
  { fifo := [], answers := [], cursor := { table := .seat, index := 0 }, arrived := none,
    slot := none }

/-- No internal event is due. -/
def Due.none : Due :=
  { boundary := Option.none, refused := [], messages := [], displays := [], quiet := false,
    voice := Option.none, reports := [] }

/-- The machine right after RESET: superframe 0 is under way and its frame 0 is the next to be sent
(R222, notes/assumptions/4.md). -/
def State.reset : State :=
  { time := { stamp := 0, frame := 0 }
    links := { chainA := .reset, chainB := .reset, trunk := .reset }
    audio := { mic := Vector.replicate 64 0, far := 0, announce := 0 }
    seats := Vector.replicate 64 .reset
    seatTable := Vector.replicate 64 .reset
    floor := .reset
    alert := { level := false, run := 0, pin := false }
    mixer := .reset
    gate := .reset
    screens := { names := Vector.replicate 128 [], messages := Vector.replicate 64 none,
                 shown := Vector.replicate 64 .unknown }
    displays := { presets := Vector.replicate 4 .reset, codes := Vector.replicate 24 .reset,
                  records := Vector.replicate 4 .reset, queue := [], inFlight := none
                  now := 625 }
    clock := { time := .zero, valid := false }
    sched := { slots := Vector.replicate 16 .free, idle := .reset }
    log := { ring := [], unread := 0, nextSeq := 0 }
    notices := .reset
    port := .reset
    sent := { chainA := none, chainB := none, trunk := none }
    due := .none
    draws := 0
    pending := [] }

end Sys2Proof.Machine
end

