-- ==== Sys2Proof/Machine/Flags.lean ====
section
/-!
DEFINITION. Views: what the spec gives a name and derives from other state. The mic state of a seat (R30), its
effective role (R29), whether a delegate slot is free (R33), the LED state and the speaker mute of its order
(R19, R20, R53), and the named sources of the notice summary (R190).
-/

namespace Sys2Proof.Machine

/-- Entry `i` of a table. -/
def look {α : Type} {k : Nat} (v : Vector α k) (i : Fin k) : α := v[i.val]

/-- A table with entry `i` replaced. -/
def upd {α : Type} {k : Nat} (v : Vector α k) (i : Fin k) (x : α) : Vector α k :=
  v.set i.val x i.isLt

/-- Every seat, ascending. -/
def allSeats : List Seat := List.finRange 64

/-- The mic state of a seat (R30). -/
inductive MicState
  | off | waiting | opened | held | armed
  deriving DecidableEq, Repr

/-- Whether a seat has an entry in a list of entries (R31, R59). -/
def hasEntry (l : List Entry) (n : Seat) : Bool := l.any (fun e => decide (e.seat = n))

/-- Whether a seat has an entry in the Request Queue (R32). -/
def hasRequest (l : List Request) (n : Seat) : Bool := l.any (fun e => decide (e.seat = n))

/-- The mic state of a seat, read from the collections and the arming (R30). -/
def micState (f : Floor) (n : Seat) : MicState :=
  if hasEntry f.openList n then .opened
  else if hasRequest f.queue n then .waiting
  else if hasEntry f.shadow n then .held
  else if f.armed.contains n then .armed
  else .off

/-- The effective role of a seat under a meeting, given its Seat Table role (R29). -/
def roleUnder (m : Meeting) (n : Seat) (role : Role) : Role :=
  match m with
  | .booking _ _ (some c) => if n = c then .chair else if role = .chair then .delegate else role
  | _ => role

/-- The effective role of a seat (R29). -/
def effectiveRole (s : State) (n : Seat) : Role :=
  roleUnder s.floor.meeting n (look s.seatTable n).role

/-- "Delegates" as a number: the delegate entries of the Open List (R33). -/
def delegates (f : Floor) : Nat := (f.openList.filter (fun e => !e.chair)).length

/-- A delegate slot is free (R33). -/
def slotFree (f : Floor) : Bool := decide (f.phase = .running) && decide (delegates f < f.setup.maxOpen)

/-- A seat takes part in the meeting: PRESENT or FADING (section 1.3). -/
def takesPart (p : Presence) : Bool :=
  match p with
  | .present => true
  | .fading _ => true
  | _ => false

/-- The presence state of a seat. -/
def presenceOf (s : State) (n : Seat) : Presence := (look s.seats n).presence

/-- The age of a stamp at a present stamp, modulo 2^32 (R1). -/
def age (now stamp : Stamp) : Nat := (now - stamp).toNat

/-- The hold holder set is not empty (R56). -/
def holdersSome (f : Floor) : Bool := f.remote || !f.holders.isEmpty

/-- The timer record of a seat's Open List entry, if it has one (R72). -/
def openTimer (f : Floor) (n : Seat) : Option Timer :=
  (f.openList.find? (fun e => decide (e.seat = n))).map Entry.timer

/-- The LED state that the Floor Controller gives for a seat (R53). -/
def floorLed (f : Floor) (n : Seat) : Led :=
  match micState f n with
  | .off => .off
  | .waiting => .request
  | .held => .held
  | .armed => .armed
  | .opened =>
    match openTimer f n with
    | some t => if t.overtime then .over else if t.warned then .warn else .on
    | none => .on

/-- The LED state of R19 for a seat now: OFF for a seat that is ABSENT or JOINING (R18, R211). -/
def ledOf (s : State) (n : Seat) : Led :=
  if takesPart (presenceOf s n) then
    if s.floor.phase = .alert then .alert
    else if 0 < (look s.seats n).refused then .refused
    else floorLed s.floor n
  else .off

/-- The speaker mute flag of a seat's order (R18, R20). -/
def muteOf (s : State) (n : Seat) : Bool :=
  takesPart (presenceOf s n) && decide (micState s.floor n = .opened) &&
    decide (s.floor.phase ≠ .alert)

/-- A seat is in the filtered set of the Voice Gate (R110). -/
def inFilteredSet (s : State) (n : Seat) : Bool :=
  decide (s.floor.setup.mode = .voice) && decide (effectiveRole s n = .delegate) &&
    (match micState s.floor n with
     | .armed => true
     | .opened => true
     | .held => true
     | _ => false)

/-- The chain of a seat (Table 6-1). -/
def chainOf (n : Seat) : Link := if n.val < 32 then .chainA else .chainB

/-- The seat at a position of a chain (Table 6-1). -/
def seatAt (link : Link) (k : Fin 32) : Seat :=
  match link with
  | .chainA => ⟨k.val, by omega⟩
  | _ => ⟨k.val + 32, by omega⟩

/-- The state of one link. -/
def linkState (l : Links) (link : Link) : LinkState :=
  match link with
  | .chainA => l.chainA
  | .chainB => l.chainB
  | .trunk => l.trunk

/-- The links with one link's state replaced. -/
def setLink (l : Links) (link : Link) (x : LinkState) : Links :=
  match link with
  | .chainA => { l with chainA := x }
  | .chainB => { l with chainB := x }
  | .trunk => { l with trunk := x }

/-- The booking id that a record carries: the id of the current meeting, 0 for the idle meeting, absent when
none is current (R186). -/
def meetingId (m : Meeting) : Option Nat :=
  match m with
  | .none => none
  | .idle => some 0
  | .booking _ id _ => some id

/-- The week minute of a room time (00_scope, 4.1). -/
def weekMinute (t : RoomTime) : Nat := t.day * 1440 + t.hour * 60 + t.minute

/-- The room time in ms from the start of the week (R125, R175). -/
def weekMs (t : RoomTime) : Nat := weekMinute t * 60000 + t.second * 1000 + t.ms

/-- The assignment list of a slot; a FREE slot's has length 0 (R162, R164). -/
def slotItems (x : Slot) : List Item :=
  match x with
  | .free => []
  | .draft _ items => items
  | .committed _ _ items _ _ => items

/-- The fixed part of a slot that is not FREE (R160). -/
def slotFixed (x : Slot) : Option Fixed :=
  match x with
  | .free => none
  | .draft f _ => some f
  | .committed _ f _ _ _ => some f

/-- The Assignment Pool items in use (R162). -/
def poolInUse (c : Scheduler) : Nat := (c.slots.toList.map (fun x => (slotItems x).length)).sum

/-- The code slot of a display's code (Table 8-1). -/
def codeSlot (d : DisplayNo) (c : IrCode) : CodeSlot :=
  match c with
  | .powerOn => ⟨6 * d.val, by omega⟩
  | .powerOff => ⟨6 * d.val + 1, by omega⟩
  | .input n => ⟨6 * d.val + n.val + 2, by omega⟩

/-- The in-flight code slot (R137). -/
def inFlightSlot (x : Displays) : Option CodeSlot :=
  x.inFlight.map (fun f => codeSlot f.entry.display f.entry.code)

end Sys2Proof.Machine
end

