-- ==== Sys2Proof/Machine/Ops.lean ====
section
/-!
DEFINITION. The named operations that several blocks share: appending a record to the Speech Log with all that
follows at the Notice Unit (R187, R192), the rise of a notice source (R190, R194), the REFUSED indication
(R19), placing an answer (R201, R202), and the sets kept as ascending lists. The part has no exception, so
there is none to take (INVENTORY.md, Faults).
-/

namespace Sys2Proof.Machine

/-- What a meaning answers. -/
abbrev Result := Host.Outcome State Fault Refusal

/-! ### Sets as strictly ascending lists (notes/assumptions/30.md) -/

/-- A set of seats with one seat added. -/
def insertSeat (n : Seat) : List Seat → List Seat
  | [] => [n]
  | m :: l => if n < m then n :: m :: l else if n = m then m :: l else m :: insertSeat n l

/-- A set of seats with one seat taken out. -/
def eraseSeat (n : Seat) (l : List Seat) : List Seat := l.filter (fun m => decide (m ≠ n))

/-! ### Records and notices -/

/-- The ring after one append: the oldest record is overwritten when 256 are held (R187). -/
def pushRecord (ring : List LogRecord) (r : LogRecord) : List LogRecord :=
  if ring.length < 256 then ring ++ [r] else ring.drop 1 ++ [r]

/-- The Notice Unit's part of an append: LOG is set, the quiet count restarts, and the notice becomes pending
when LOG is enabled and the unread count rises to the trigger level (R187, R190, R192, R193). `before` is the
unread count before the append. -/
def noticeAppend (before : Nat) (x : Notices) : Notices :=
  { x with
    summary := { x.summary with log := true }
    pending := x.pending || (x.mask.log && decide (before < 256) && decide (before + 1 = x.trigger))
    quiet := 0 }

/-- Append one record with a given booking id (R186, R187). -/
def appendWith (event : LogEvent) (seat : Option Seat) (booking : Option Nat) (s : State) : State :=
  let r : LogRecord :=
    { seq := s.log.nextSeq, time := s.clock.time, event := event, seat := seat, booking := booking }
  (s.withLog
    { ring := pushRecord s.log.ring r
      unread := if s.log.unread < 256 then s.log.unread + 1 else s.log.unread
      nextSeq := s.log.nextSeq + 1 }).withNotices (noticeAppend s.log.unread s.notices)

/-- Append one record with the booking id of the current meeting (R54, R186). -/
def record (event : LogEvent) (seat : Option Seat) (s : State) : State :=
  appendWith event seat (meetingId s.floor.meeting) s

/-- The LINK source is set; its rise makes the notice pending if it is enabled (R190, R194). -/
def raiseLink (x : Notices) : Notices :=
  { x with summary := { x.summary with link := true }
           pending := x.pending || (!x.summary.link && x.mask.link) }

/-- The DISPLAY source is set; its rise makes the notice pending if it is enabled (R190, R194). -/
def raiseDisplay (x : Notices) : Notices :=
  { x with summary := { x.summary with display := true }
           pending := x.pending || (!x.summary.display && x.mask.display) }

/-- The CLIP source is set; its rise makes the notice pending if it is enabled (R98, R190, R194). -/
def raiseClip (x : Notices) : Notices :=
  { x with summary := { x.summary with clip := true }
           pending := x.pending || (!x.summary.clip && x.mask.clip) }

/-! ### Seats -/

/-- A seat unit replaced. -/
def setSeat (n : Seat) (u : SeatUnit) (s : State) : State := s.withSeats (upd s.seats n u)

/-- A refusal: the seat's REFUSED timer is set to 500 (R19). -/
def refuse (n : Seat) (s : State) : State := setSeat n { look s.seats n with refused := 500 } s

/-! ### Answers -/

/-- An answer joins the tail of the Answer FIFO (R201 step 4, R202). -/
def placeAnswer (a : Answer) (s : State) : State :=
  s.withPort { s.port with answers := s.port.answers ++ [a] }

/-- What the owner of a command gives back: the new state, the answer code and the result (R201 step 3). -/
structure Reply where
  state : State
  code : AnswerCode
  result : List Byte
  deriving DecidableEq, Repr

/-- A command carried out with no result. -/
def done (s : State) : Reply := { state := s, code := .done, result := [] }

/-- A command refused: nothing changes and there is no result (R203). -/
def refusal (c : AnswerCode) (s : State) : Reply := { state := s, code := c, result := [] }

end Sys2Proof.Machine
end

