-- ==== Sys2Proof/Machine/Displays.lean ====
section
/-!
DEFINITION. The Display Sequencer and the IR Emitter (chapter 8): requests, completions and expiries by display
state, the IR Send Queue, transmissions and the level of the IRE pins. The emitter's time is counted in cycles
of REFCLK, 625 to a frame, 20 to a microsecond (R150, R222; notes/assumptions/18.md).
-/

namespace Sys2Proof.Machine

/-- The record of a display. -/
def displayRecord (s : State) (d : DisplayNo) : DisplayRecord := look s.displays.records d

/-- A display record replaced. -/
def setRecord (d : DisplayNo) (r : DisplayRecord) (s : State) : State :=
  s.withDisplays { s.displays with records := upd s.displays.records d r }

/-- An entry joins the tail of the IR Send Queue (R148). -/
def queueCode (d : DisplayNo) (c : IrCode) (s : State) : State :=
  s.withDisplays { s.displays with queue := s.displays.queue ++ [{ display := d, code := c }] }

/-- The display's waiting entry, if any, is removed from the queue (R144, R145). -/
def unqueue (d : DisplayNo) (s : State) : State :=
  s.withDisplays
    { s.displays with queue := s.displays.queue.filter (fun e => decide (e.display ≠ d)) }

/-- An INPUT entry of a display takes another input and keeps its place (R145). -/
def replaceInput (d : DisplayNo) (n : InputNo) (e : IrEntry) : IrEntry :=
  if e.display = d then
    match e.code with
    | .input _ => { e with code := .input n }
    | _ => e
  else e

/-- The display has a waiting INPUT entry (R145). -/
def hasInputWaiting (d : DisplayNo) (q : List IrEntry) : Bool :=
  q.any (fun e => decide (e.display = d) &&
    (match e.code with
     | .input _ => true
     | _ => false))

/-! ### Requests -/

/-- The pending input is set to the input given, if any. -/
def withPendingInput (i : Option InputNo) (r : DisplayRecord) : DisplayRecord :=
  match i with
  | some n => { r with pending := some n }
  | none => r

/-- INPUT n in ON, STEADY: the waiting INPUT entry takes it, or it is queued (R145). -/
def steadyInput (d : DisplayNo) (n : InputNo) (s : State) : State :=
  if hasInputWaiting d s.displays.queue then
    s.withDisplays { s.displays with queue := s.displays.queue.map (replaceInput d n) }
  else queueCode d (.input n) s

/-- A POWER ON request from OFF (R143). -/
def startUp (d : DisplayNo) (i : Option InputNo) (s : State) : State :=
  queueCode d .powerOn
    (setRecord d
      { withPendingInput i (displayRecord s d) with state := .warming, phase := some .sending } s)

/-- What a POWER ON request does to the record and the queue (Table 8-2, R143 to R147). -/
def handleOn (d : DisplayNo) (i : Option InputNo) (s : State) : State :=
  let r := displayRecord s d
  match r.state, r.phase with
  | .off, _ => startUp d i s
  | .cooling, _ => setRecord d { withPendingInput i r with pendingOn := true } s
  | _, some .stopping => setRecord d { withPendingInput i r with pendingOn := true } s
  | .warming, _ => setRecord d (withPendingInput i r) s
  | .on, _ =>
    match i with
    | some n => steadyInput d n s
    | none => s

/-- POWER OFF of a display that is up: its waiting entry goes, POWER_OFF is queued, STOPPING (R144, R145). -/
def stopDisplay (d : DisplayNo) (s : State) : State :=
  queueCode d .powerOff
    (setRecord d { displayRecord s d with timer := 0, phase := some .stopping } (unqueue d s))

/-- What a POWER OFF request does to the record and the queue (Table 8-2, R143 to R147). -/
def handleOff (d : DisplayNo) (s : State) : State :=
  let r := displayRecord s d
  match r.state, r.phase with
  | .off, _ => s
  | .cooling, _ => setRecord d { r with pendingOn := false } s
  | _, some .stopping => setRecord d { r with pendingOn := false } s
  | .warming, _ => stopDisplay d s
  | .on, _ => stopDisplay d s

/-- What an INPUT request does to the record and the queue (Table 8-2, R143 to R147). -/
def handleInput (d : DisplayNo) (n : InputNo) (s : State) : State :=
  let r := displayRecord s d
  match r.state, r.phase with
  | .on, some .stopping => setRecord d { r with pending := some n } s
  | .on, _ => steadyInput d n s
  | _, _ => setRecord d { r with pending := some n } s

/-! ### Expiries and completions -/

/-- Warm expiry: ON, STEADY, and the pending input's code is queued (R144). -/
def warmExpired (d : DisplayNo) (s : State) : State :=
  let r := displayRecord s d
  let t := setRecord d { r with state := .on, phase := some .steady, timer := 0, pending := none } s
  match r.pending with
  | some n => queueCode d (.input n) t
  | none => t

/-- Cool expiry: OFF, and a pending-on starts the display again (R147). -/
def coolExpired (d : DisplayNo) (s : State) : State :=
  let r := displayRecord s d
  let t := setRecord d { r with state := .off, phase := none, timer := 0, pendingOn := false } s
  if r.pendingOn then startUp d none t else t

/-- POWER_ON completes in SENDING: the warm-up timer starts; a warm-up time of 0 expires at once (R144,
R146). -/
def powerOnComplete (d : DisplayNo) (s : State) : State :=
  let r := displayRecord s d
  let ms := (look s.displays.presets d).warmUp * 1000
  let t := setRecord d { r with phase := some .timing, timer := ms } s
  if ms = 0 then warmExpired d t else t

/-- POWER_OFF completes in STOPPING: COOLING, the selected input unknown, the cool-down timer starts; a cool-down
time of 0 expires at once (R146). -/
def powerOffComplete (d : DisplayNo) (s : State) : State :=
  let r := displayRecord s d
  let ms := (look s.displays.presets d).coolDown * 1000
  let t := setRecord d { r with state := .cooling, phase := none, selected := none, timer := ms } s
  if ms = 0 then coolExpired d t else t

/-- A completion handed over by the emitter (Table 8-2, R144 to R146). -/
def completion (e : IrEntry) (s : State) : State :=
  let d := e.display
  let r := displayRecord s d
  match e.code, r.state, r.phase with
  | .powerOn, .warming, some .sending => powerOnComplete d s
  | .powerOff, _, some .stopping => powerOffComplete d s
  | .input n, .on, _ => setRecord d { r with selected := some n } s
  | _, _, _ => s

/-! ### The emitter -/

/-- The cycles of REFCLK in one frame (R222). -/
def frameCycles : Nat := 625

/-- The sum of the mark and space times of a list, in µs (R150). -/
def pairsTime (l : List (Nat × Nat)) : Nat := (l.map (fun p => p.1 + p.2)).sum

/-- The transmission time of a code list, in µs (R150). -/
def transmissionTime (c : CodeList) : Nat := c.times * pairsTime c.pairs + (c.times - 1) * c.gap * 1000

/-- An empty code: DISPLAY_NOCODE and the DISPLAY source, and the transmission is complete at once (R152). -/
def emptyCode (e : IrEntry) (s : State) : State :=
  let t := record (.displayNocode (codeSlot e.display e.code)) none s
  completion e (t.withNotices (raiseDisplay t.notices))

/-- A transmission begins at an instant of the present frame, with the preset copied (R149, R150). -/
def beginTransmission (instant : Nat) (e : IrEntry) (s : State) : State :=
  let p := look s.displays.presets e.display
  s.withDisplays
    { s.displays with
      inFlight := some
        { entry := e, period := p.period, high := p.high
          ends := instant + 20 * transmissionTime (look s.displays.codes (codeSlot e.display e.code)) } }

/-- An instant of the present frame has been reached (notes/assumptions/18.md). -/
def reach (instant : Nat) (s : State) : State :=
  s.withDisplays { s.displays with now := max s.displays.now instant }

/-- The idle emitter takes the head of the queue at an instant: it begins the transmission, or takes an empty
code and the next head (R149, R152). The count bounds the empty codes that one moment can take
(notes/assumptions/20.md). -/
def takeHead : Nat → Nat → State → State
  | 0, _, s => s
  | k + 1, instant, s =>
    match s.displays.inFlight, s.displays.queue with
    | none, e :: rest =>
      let t := s.withDisplays { s.displays with queue := rest }
      if (look t.displays.codes (codeSlot e.display e.code)).pairs.isEmpty then
        takeHead k instant (emptyCode e t)
      else beginTransmission instant e t
    | _, _ => s

/-- The emitter runs from an instant on (R149). -/
def runEmitter (instant : Nat) (s : State) : State :=
  takeHead (s.displays.queue.length + 16) instant (reach instant s)

/-- The emitter is idle and an entry waits (R149). -/
def mayTake (s : State) : Bool := s.displays.inFlight.isNone && !s.displays.queue.isEmpty

/-- The instant at which an execution falls: free within what the present frame has left, and the frame boundary
itself when that has been reached (R150, R222, notes/assumptions/18.md). -/
def freeInstant (s : State) : Nat :=
  s.displays.now + Config.instant s.draws % (frameCycles + 1 - s.displays.now)

/-- The idle emitter takes a waiting entry at once (R149). -/
def emit (s : State) : State :=
  if mayTake s then runEmitter (freeInstant s) (s.withDraws (s.draws + 1)) else s

/-- A POWER ON request, and what the idle emitter takes at once (R143 to R147, R149). -/
def requestOn (d : DisplayNo) (i : Option InputNo) (s : State) : State := emit (handleOn d i s)

/-- A POWER OFF request, and what the idle emitter takes at once (R143 to R147, R149). -/
def requestOff (d : DisplayNo) (s : State) : State := emit (handleOff d s)

/-- An INPUT request, and what the idle emitter takes at once (R143 to R147, R149). -/
def requestInput (d : DisplayNo) (n : InputNo) (s : State) : State := emit (handleInput d n s)

/-- The transmission in flight ends: the emitter is idle, hands the completion over, and takes the next head at
that instant (R149, R150). -/
def finishTransmission (s : State) : State :=
  match s.displays.inFlight with
  | none => s
  | some f =>
    runEmitter f.ends (completion f.entry (s.withDisplays { s.displays with inFlight := none }))

/-- The transmission in flight ends within the present frame; an end at the very boundary falls in the next one
(R150, section 8.8). -/
def endsThisFrame (s : State) : Bool :=
  match s.displays.inFlight with
  | some f => decide (f.ends < frameCycles)
  | none => false

/-- Every completion that falls within the present frame, in turn (R149, R150). -/
def finishAll : Nat → State → State
  | 0, s => s
  | k + 1, s => if endsThisFrame s then finishAll k (finishTransmission s) else s

/-- All that the emitter still owes to the frame that ends (R149, R150). -/
def settleEmitter (s : State) : State := finishAll 32 (emit s)

/-- The end of the present frame has been reached (notes/assumptions/18.md). -/
def reachBoundary (s : State) : State := reach frameCycles s

/-- The frame boundary passes: the end of the transmission in flight is counted from the new frame. -/
def passFrame (s : State) : State :=
  s.withDisplays
    { s.displays with
      now := 0
      inFlight := s.displays.inFlight.map (fun f => { f with ends := f.ends - frameCycles }) }

/-! ### The pins -/

/-- The high part of a carrier period in 0.1 µs (R151). -/
def highPart (period high : Nat) : Nat := (period * high + 50) / 100

/-- Whether the pin is high at a time within one frame of a code, in 0.1 µs from its start (R151). -/
def frameLevel (period high : Nat) : List (Nat × Nat) → Nat → Bool
  | [], _ => false
  | (mark, space) :: rest, t =>
    if t < 10 * mark then decide (t % period < highPart period high)
    else if t < 10 * (mark + space) then false
    else frameLevel period high rest (t - 10 * (mark + space))

/-- Whether the pin is high at a time from the start of a transmission, in 0.1 µs: frames with the repeat gap
between them (R150, R151). -/
def transmissionLevel (c : CodeList) (period high t : Nat) : Bool :=
  let turn := 10 * (pairsTime c.pairs + c.gap * 1000)
  decide (t < 10 * transmissionTime c) && frameLevel period high c.pairs (t % turn)

/-- The level of the pin of a display at an instant of the present frame, in cycles of REFCLK: low but for the
marks of its own transmission in flight (R151). -/
def pinHigh (s : State) (d : DisplayNo) (instant : Nat) : Bool :=
  match s.displays.inFlight with
  | none => false
  | some f =>
    let c := look s.displays.codes (codeSlot f.entry.display f.entry.code)
    decide (f.entry.display = d) && decide (instant < f.ends) &&
      decide (f.ends - instant ≤ 20 * transmissionTime c) &&
      transmissionLevel c f.period f.high ((20 * transmissionTime c - (f.ends - instant)) / 2)

end Sys2Proof.Machine
end

