-- ==== Sys2Proof/Machine/Operands.lean ====
section
/-!
DEFINITION. The operand forms: from the numbers that a cell carries to the values an owner accepts, `none`
where the owner answers `RANGE` (R23, R28, R88, R92, R136, R161, R180, R220).
-/

namespace Sys2Proof.Machine

/-- A number as an index below `k`, if it is one. -/
def index? (k n : Nat) : Option (Fin k) := if h : n < k then some ⟨n, h⟩ else none

/-- A field that holds an index below `k` or 255 for absent (R220). The outer `none`: out of range. -/
def optIndex? (k n : Nat) : Option (Option (Fin k)) :=
  if n = 255 then some none else (index? k n).map some

/-- Mode codes (Table 12-6). -/
def mode? (n : Nat) : Option Mode :=
  match n with
  | 0 => some .direct
  | 1 => some .queued
  | 2 => some .overrideMode
  | 3 => some .voice
  | _ => none

/-- Limit action codes (Table 12-6). -/
def action? (n : Nat) : Option LimitAction :=
  match n with
  | 0 => some .close
  | 1 => some .notify
  | _ => none

/-- Role codes (Table 12-6). -/
def role? (n : Nat) : Option Role :=
  match n with
  | 0 => some .delegate
  | 1 => some .chair
  | 2 => some .listenOnly
  | _ => none

/-- A speaking limit field: 0 for absent, else 10..3600 s (Table 2-1, 12.2). -/
def limit? (n : Nat) : Option (Option Nat) :=
  if n = 0 then some none else if 10 ≤ n ∧ n ≤ 3600 then some (some n) else none

/-- A Floor Setup record checked field by field against Table 2-1 (R28). -/
def setup? (f : SetupFields) : Option FloorSetup :=
  match mode? f.mode, limit? f.limit, action? f.action with
  | some mode, some limit, some action =>
    if 1 ≤ f.maxOpen ∧ f.maxOpen ≤ 6 ∧ f.lead ≤ 255 ∧ f.threshold ≤ 524287 ∧ 50 ≤ f.hold ∧
        f.hold ≤ 5000 then
      some { mode := mode, maxOpen := f.maxOpen, autoAdvance := f.autoAdvance, limit := limit,
             lead := f.lead, action := action, threshold := f.threshold, hold := f.hold }
    else none
  | _, _, _ => none

/-- A SEAT entry's values, but for the third-CHAIR check (R23). -/
def seatEntry? (f : SeatFields) : Option SeatEntry :=
  match role? f.role, optIndex? 128 f.name with
  | some role, some name => some { role := role, name := name, exempt := f.exempt }
  | _, _ => none

/-- An input 1..4 (R141). -/
def input? (n : Nat) : Option InputNo :=
  if h : 1 ≤ n ∧ n ≤ 4 then some ⟨n - 1, by omega⟩ else none

/-- An input 1..4, or 0 for absent (R220). The outer `none`: out of range. -/
def optInput? (n : Nat) : Option (Option InputNo) :=
  if n = 0 then some none else (input? n).map some

/-- One entry of a display plan; its input is 1..4 whether used or not (R161). -/
def plan? (p : PlanFields) : Option PlanEntry :=
  (input? p.input).map (fun n => { used := p.used, input := n })

/-- All four entries of a display plan (R161). -/
def plans? (v : Vector PlanFields 4) : Option (Vector PlanEntry 4) :=
  match plan? v[0], plan? v[1], plan? v[2], plan? v[3] with
  | some a, some b, some c, some d => some #v[a, b, c, d]
  | _, _, _, _ => none

/-- A booking's fixed part checked against Table 9-2 (R161). -/
def fixed? (f : BookingFields) : Option Fixed :=
  match index? 2 f.bank, optIndex? 64 f.chair, optIndex? 128 f.title, plans? f.plan, setup? f.setup with
  | some bank, some chair, some title, some plan, some setup =>
    if 1 ≤ f.id ∧ f.id ≤ 65535 ∧ f.start ≤ 10079 ∧ f.finish ≤ 10080 ∧ f.lead ≤ 30 ∧
        f.grace ≤ 60 ∧ f.endWarn ≤ 30 then
      some { id := f.id, start := f.start, finish := f.finish, lead := f.lead, grace := f.grace,
             endWarn := f.endWarn, weekly := f.weekly, bank := bank, chair := chair,
             title := title, plan := plan, setup := setup }
    else none
  | _, _, _, _, _ => none

/-- An Idle Setup record (R180). -/
def idle? (f : IdleFields) : Option IdleSetup :=
  match setup? f.setup, index? 2 f.bank with
  | some setup, some bank => some { enabled := f.enabled, setup := setup, bank := bank }
  | _, _ => none

/-- A display preset in its ranges (R136). -/
def preset? (f : PresetFields) : Option Preset :=
  if 100 ≤ f.period ∧ f.period ≤ 1000 ∧ 10 ≤ f.high ∧ f.high ≤ 50 ∧ f.warmUp ≤ 120 ∧
      f.coolDown ≤ 300 then
    some { period := f.period, high := f.high, warmUp := f.warmUp, coolDown := f.coolDown }
  else none

/-- One item of an assignment list: seat 0..63, name index 0..127; 255 is the number 255 (R163, R220). -/
def item? (p : Nat × Nat) : Option Item :=
  match index? 64 p.1, index? 128 p.2 with
  | some seat, some name => some { seat := seat, name := name }
  | _, _ => none

/-- Every item, or none if one is out of range (R163). -/
def items? : List (Nat × Nat) → Option (List Item)
  | [] => some []
  | p :: l =>
    match item? p, items? l with
    | some x, some xs => some (x :: xs)
    | _, _ => none

/-- The target of a message: `none` for ALL (255), or one seat (R127, R128, R220). The outer `none`: a
number above 63. -/
def target? (n : Nat) : Option (Option Seat) := optIndex? 64 n

/-- A character code as stored: outside 0x20..0x7E it becomes "?" (R121, R127). -/
def printable (b : Byte) : Byte := if 0x20 ≤ b.toNat ∧ b.toNat ≤ 0x7E then b else 0x3F

/-- A trigger level is 1, 4, 16 or 64 (R191). -/
def triggerOk (n : Nat) : Bool := [1, 4, 16, 64].contains n

/-- The NOTICE SET mask in bits 0..4: LOG, CLIP, LINK, DISPLAY, CLOCK (R220). -/
def maskOf (n : Nat) : Sources :=
  { log := n.testBit 0, clip := n.testBit 1, link := n.testBit 2, display := n.testBit 3,
    clock := n.testBit 4 }

end Sys2Proof.Machine
end

