-- ==== Sys2Proof/Machine/Lists.lean ====
section
/-!
DEFINITION. The collections of the Floor Controller: how an entry leaves the Open List, the Hold Shadow or the
Request Queue, how a request joins in its order, and the arming, each with its record (R30, R31, R32, R46,
R54, R59).
-/

namespace Sys2Proof.Machine

/-- The entries of a list but those of one seat; the others keep their order (R31, R59). -/
def dropSeat (n : Seat) (l : List Entry) : List Entry := l.filter (fun e => decide (e.seat ≠ n))

/-- The requests but those of one seat; the entries behind move up (R32). -/
def dropRequest (n : Seat) (l : List Request) : List Request :=
  l.filter (fun e => decide (e.seat ≠ n))

/-- An entry leaves the Open List with MIC_CLOSE; the seat is OFF and its timer record is gone (R31). -/
def closeOpen (reason : CloseReason) (n : Seat) (s : State) : State :=
  if hasEntry s.floor.openList n then
    record (.micClose reason) (some n)
      (s.withFloor { s.floor with openList := dropSeat n s.floor.openList })
  else s

/-- An entry leaves the Open List at the end of its voice presence and the seat becomes ARMED (R42, R64). -/
def closeVoiceHold (n : Seat) (s : State) : State :=
  if hasEntry s.floor.openList n then
    record (.micClose .voiceHold) (some n)
      (s.withFloor { s.floor with openList := dropSeat n s.floor.openList
                                  armed := insertSeat n s.floor.armed })
  else s

/-- An entry leaves the Hold Shadow with MIC_CLOSE; its timer record is discarded and the seat is OFF (R59). -/
def closeShadow (reason : CloseReason) (n : Seat) (s : State) : State :=
  if hasEntry s.floor.shadow n then
    record (.micClose reason) (some n)
      (s.withFloor { s.floor with shadow := dropSeat n s.floor.shadow })
  else s

/-- A waiting seat leaves the queue singly with CANCEL and is OFF (R32). -/
def leaveQueue (reason : CancelReason) (n : Seat) (s : State) : State :=
  if hasRequest s.floor.queue n then
    record (.cancel reason) (some n)
      (s.withFloor { s.floor with queue := dropRequest n s.floor.queue })
  else s

/-- A seat becomes ARMED; no record (R38). -/
def arm (n : Seat) (s : State) : State :=
  s.withFloor { s.floor with armed := insertSeat n s.floor.armed }

/-- An ARMED seat becomes OFF; no record (R38). -/
def disarm (n : Seat) (s : State) : State :=
  s.withFloor { s.floor with armed := eraseSeat n s.floor.armed }

/-- Whether request `a` orders before request `b` at the present stamp: earlier stamp, that is larger age, or
equal stamps and the lower seat (R1, R32). -/
def ordersBefore (now : Stamp) (a b : Request) : Bool :=
  decide (age now b.stamp < age now a.stamp) ||
    (decide (age now a.stamp = age now b.stamp) && decide (a.seat < b.seat))

/-- The queue with a request placed before every entry that orders after it (R32). DESIGN CHOICE: in a queue that
a wrapped age has left out of order (R1) the request stands before the first entry that orders after it
(notes/assumptions/37.md). -/
def insertRequest (now : Stamp) (r : Request) : List Request → List Request
  | [] => [r]
  | e :: l => if ordersBefore now r e then r :: e :: l else e :: insertRequest now r l

/-- The position of a seat in the queue, counted from 1 at the head; 0 when it is not there (R32). -/
def queuePosition (n : Seat) : List Request → Nat
  | [] => 0
  | e :: l => if e.seat = n then 1 else if hasRequest l n then queuePosition n l + 1 else 0

/-- A seat joins the Request Queue in its order, with REQUEST and its position (R32). -/
def joinQueue (n : Seat) (stamp : Stamp) (s : State) : State :=
  let q := insertRequest s.time.stamp { seat := n, stamp := stamp } s.floor.queue
  record (.request (queuePosition n q)) (some n) (s.withFloor { s.floor with queue := q })

/-- The Request Queue is emptied as a whole, with QUEUE_CLEARED if it held a seat (R46). -/
def clearQueue (s : State) : State :=
  if s.floor.queue.isEmpty then s
  else record (.queueCleared s.floor.queue.length) none (s.withFloor { s.floor with queue := [] })

/-- The arming is cleared; no record (R30). -/
def clearArming (s : State) : State := s.withFloor { s.floor with armed := [] }

/-- Every listed seat leaves the Open List, in the order given. -/
def closeOpenSeats (reason : CloseReason) (l : List Seat) (s : State) : State :=
  l.foldl (fun t n => closeOpen reason n t) s

/-- Every listed seat leaves the Hold Shadow, in the order given. -/
def closeShadowSeats (reason : CloseReason) (l : List Seat) (s : State) : State :=
  l.foldl (fun t n => closeShadow reason n t) s

/-- The seats of a list of entries, in its order. -/
def seatsOf (l : List Entry) : List Seat := l.map Entry.seat

/-- The delegate entries' seats, in Open List order (R33). -/
def delegateSeats (f : Floor) : List Seat := seatsOf (f.openList.filter (fun e => !e.chair))

/-- The holder set is emptied with HOLD_END detail 0, if it has a member (R66, R68 step 4). -/
def clearHolders (s : State) : State :=
  if holdersSome s.floor then
    record (.holdEnd 0) none (s.withFloor { s.floor with holders := [], remote := false })
  else s

end Sys2Proof.Machine
end

