-- ==== Sys2Proof/Machine/Timers.lean ====
section
/-!
DEFINITION. The Speaking Timers (chapter 4): compares, counting, the warning and limit matches, recomputation.
-/

namespace Sys2Proof.Machine

/-- The compares of a timer: warn point and limit point in ms (R75). -/
def comparesOf (f : FloorSetup) (chair exempt : Bool) : Option Nat × Option Nat :=
  if chair || exempt then (none, none)
  else
    match f.limit with
    | none => (none, none)
    | some l => (some ((l - f.lead) * 1000), some (l * 1000))

/-- A new timer record (R72). -/
def newTimer (c : Option Nat × Option Nat) : Timer :=
  { elapsed := 0, running := true, owed := false, warned := false, overtime := false, warn := c.1
    limit := c.2 }

/-- One count of a RUNNING timer: it holds at 5,999,999 (R73). -/
def countTimer (t : Timer) : Timer :=
  { t with elapsed := if t.elapsed < 5999999 then t.elapsed + 1 else t.elapsed, owed := false }

/-- A point has been reached (R76). -/
def reached (elapsed : Nat) (point : Option Nat) : Bool :=
  match point with
  | some p => decide (p ≤ elapsed)
  | none => false

/-- The warning matches (R76, 1). -/
def warnDue (t : Timer) : Bool := t.running && !t.warned && reached t.elapsed t.warn

/-- The limit matches (R76, 2). -/
def limitDue (t : Timer) : Bool := t.running && !t.overtime && reached t.elapsed t.limit

/-- Milliseconds as whole seconds, rounded up. -/
def secondsUp (ms : Nat) : Nat := (ms + 999) / 1000

/-- The entries with one seat's timer record changed. -/
def modifyTimer (n : Seat) (f : Timer → Timer) (l : List Entry) : List Entry :=
  l.map (fun e => if e.seat = n then { e with timer := f e.timer } else e)

/-- The Open List with one seat's timer record changed. -/
def modifyOpenTimer (n : Seat) (f : Timer → Timer) (s : State) : State :=
  s.withFloor { s.floor with openList := modifyTimer n f s.floor.openList }

/-- The warning test of a check: on a match, warned becomes yes and WARNED is appended with the seconds left to
the limit (R76, R77). -/
def checkWarning (n : Seat) (s : State) : State :=
  match openTimer s.floor n with
  | some t =>
    if warnDue t then
      record (.warned (secondsUp (t.limit.getD 0 - t.elapsed))) (some n)
        (modifyOpenTimer n (fun u => { u with warned := true }) s)
    else s
  | none => s

/-- The limit match under CLOSE: the entry closes with LIMIT (R78). -/
def limitClose (n : Seat) (s : State) : State :=
  match openTimer s.floor n with
  | some t => if limitDue t then closeOpen .limit n s else s
  | none => s

/-- The limit match under NOTIFY: overtime becomes yes and OVERTIME is appended with the speaking limit in
seconds (R79). -/
def limitNotify (n : Seat) (s : State) : State :=
  match openTimer s.floor n with
  | some t =>
    if limitDue t then
      record (.overtime (t.limit.getD 0 / 1000)) (some n)
        (modifyOpenTimer n (fun u => { u with overtime := true }) s)
    else s
  | none => s

/-- The limit test of a check, by the limit action that stands now (R75, R76). -/
def checkLimit (n : Seat) (s : State) : State :=
  match s.floor.setup.action with
  | .close => limitClose n s
  | .notify => limitNotify n s

/-- One check of a seat's timer: the warning first, then the limit (R76). -/
def checkTimer (n : Seat) (s : State) : State := checkLimit n (checkWarning n s)

/-- The checks of several timers, in the order given (R76, R80). -/
def checkTimers (l : List Seat) (s : State) : State := l.foldl (fun t n => checkTimer n t) s

/-- A timer's new compares and the flags brought into line with them (R80). -/
def realign (f : FloorSetup) (c : Option Nat × Option Nat) (t : Timer) : Timer :=
  { t with
    warn := c.1
    limit := c.2
    warned := t.warned && reached t.elapsed c.1
    overtime := t.overtime && decide (f.action = .notify) && reached t.elapsed c.2 }

/-- An entry's timer recomputed by R75 and R80. -/
def realignEntry (f : FloorSetup) (table : Vector SeatEntry 64) (e : Entry) : Entry :=
  { e with timer := realign f (comparesOf f e.chair (look table e.seat).exempt) e.timer }

/-- A recomputation of every timer, with the matches it brings; PAUSED timers take none (R80). -/
def recomputeAll (s : State) : State :=
  let f := s.floor
  let t := s.withFloor
    { f with openList := f.openList.map (realignEntry f.setup s.seatTable)
             shadow := f.shadow.map (realignEntry f.setup s.seatTable) }
  checkTimers (seatsOf t.floor.openList) t

/-- A recomputation of one seat's timer, with its matches (R24, R80). -/
def recomputeSeat (n : Seat) (s : State) : State :=
  let f := s.floor
  let fix := fun e : Entry => if e.seat = n then realignEntry f.setup s.seatTable e else e
  checkTimer n (s.withFloor { f with openList := f.openList.map fix, shadow := f.shadow.map fix })

/-- A superframe starts: every RUNNING timer owes its count (R73, R84). -/
def oweCount (t : Timer) : Timer := { t with owed := t.running }

/-- Every RUNNING timer of the Open List owes its count of this superframe's start (R73). -/
def oweCounts (s : State) : State :=
  s.withFloor
    { s.floor with
      openList := s.floor.openList.map (fun e => { e with timer := oweCount e.timer }) }

/-- The owed count of a timer brings a match (R76). -/
def owesMatch (t : Timer) : Bool := t.owed && (warnDue (countTimer t) || limitDue (countTimer t))

/-- The seat whose match is to be taken next: the oldest entry whose owed count brings one (R76). -/
def nextMatch (f : Floor) : Option Seat := (f.openList.find? (fun e => owesMatch e.timer)).map Entry.seat

end Sys2Proof.Machine
end

