-- ==== Sys2Proof/Machine/Floor.lean ====
section
/-!
DEFINITION. The Floor Controller (chapters 2 and 3): joining the Open List, auto-advance and voice admission,
button events, holds, setup changes, meeting signals, seat loss, and the alert.
-/

namespace Sys2Proof.Machine

/-! ### Opening -/

/-- A seat joins the tail of the Open List: it leaves the queue without CANCEL and the arming, MIC_OPEN is
appended, and its new timer is checked (R31, R32, R72, R76). -/
def joinOpen (how : How) (n : Seat) (s : State) : State :=
  let chair := decide (effectiveRole s n = .chair)
  let e : Entry :=
    { seat := n, chair := chair, how := how
      timer := newTimer (comparesOf s.floor.setup chair (look s.seatTable n).exempt) }
  checkTimer n
    (record (.micOpen how) (some n)
      (s.withFloor
        { s.floor with
          openList := s.floor.openList ++ [e]
          queue := dropRequest n s.floor.queue
          armed := eraseSeat n s.floor.armed }))

/-! ### The Voice Gate's part -/

/-- Filters of seats outside the filtered set come to rest (R110). -/
def restFilters (s : State) : State :=
  s.withGate
    { s.gate with
      filters := Vector.ofFn (fun n => if inFilteredSet s n then look s.gate.filters n else .rest) }

/-- The better of two candidates: the earlier voice-start stamp; the first, which has the lower seat number,
on equal stamps (R115). -/
def betterCandidate (s : State) (best : Option Seat) (n : Seat) : Option Seat :=
  match best with
  | none => some n
  | some b =>
    if age s.time.stamp (look s.gate.filters b).start < age s.time.stamp (look s.gate.filters n).start
    then some n else some b

/-- The candidate that the Voice Gate names: among the ARMED seats with voice present (R115). -/
def candidate (s : State) : Option Seat :=
  (allSeats.filter (fun n => decide (micState s.floor n = .armed) &&
    (look s.gate.filters n).present)).foldl (betterCandidate s) none

/-! ### Auto-advance and voice admission -/

/-- One step of auto-advance or of voice admission, if its conditions hold (R40, R42). -/
def advanceOnce (s : State) : Option State :=
  if slotFree s.floor then
    match s.floor.setup.mode with
    | .direct => s.floor.queue.head?.map (fun r => joinOpen .auto r.seat s)
    | .queued =>
      if s.floor.setup.autoAdvance then s.floor.queue.head?.map (fun r => joinOpen .auto r.seat s)
      else none
    | .overrideMode => none
    | .voice => (candidate s).map (fun n => joinOpen .voice n s)
  else none

/-- The step repeated until a condition fails (R40, R42). Each step takes a seat out of the queue or out of
the arming, so as many steps as these hold seats always suffice. -/
def advanceUpTo : Nat → State → State
  | 0, s => s
  | k + 1, s =>
    match advanceOnce s with
    | some t => advanceUpTo k t
    | none => s

/-- The end of every event, command and signal at the floor: auto-advance or voice admission (R40, R42), and
the filters of seats that have left the filtered set come to rest (R110). -/
def afterFloor (s : State) : State :=
  restFilters (advanceUpTo (s.floor.queue.length + s.floor.armed.length) s)

/-! ### Leaving -/

/-- A seat is taken out of whatever part it has on the floor (R23, R44, R51, R52). -/
def takeOut (close : CloseReason) (cancel : CancelReason) (n : Seat) (s : State) : State :=
  match micState s.floor n with
  | .opened => closeOpen close n s
  | .waiting => leaveQueue cancel n s
  | .held => closeShadow close n s
  | .armed => disarm n s
  | .off => s

/-! ### Holds -/

/-- An entry moved to the Hold Shadow: its timer is PAUSED, and a count not yet taken is withheld (R58, R74,
R84). -/
def pauseEntry (e : Entry) : Entry := { e with timer := { e.timer with running := false, owed := false } }

/-- An entry restored from the Hold Shadow: how RESTORE, its timer RUNNING again (R63, R74). -/
def resumeEntry (e : Entry) : Entry :=
  { e with how := .restore, timer := { e.timer with running := true } }

/-- Hold start (R58). `seat`: the chair whose press started it, or none for PRIORITY ON. -/
def holdStart (seat : Option Seat) (s : State) : State :=
  let moved := s.floor.openList.filter (fun e => !e.chair)
  record (.holdStart moved.length) seat
    (s.withFloor
      { s.floor with
        openList := s.floor.openList.filter (fun e => e.chair)
        shadow := moved.map pauseEntry
        phase := .hold })

/-- One entry leaves the head of the Hold Shadow and joins the tail of the Open List (R63, step 1). -/
def restoreEntry (s : State) (e : Entry) : State :=
  record (.micOpen .restore) (some e.seat)
    (s.withFloor
      { s.floor with
        shadow := dropSeat e.seat s.floor.shadow
        openList := s.floor.openList ++ [resumeEntry e] })

/-- The check of one restored entry against the Voice Gate (R64). -/
def voiceCheck (s : State) (n : Seat) : State :=
  if (look s.gate.filters n).present then s else closeVoiceHold n s

/-- Hold end (R63, R64, R81): the restore up to max open, RESTORE_FULL for the rest, RUNNING and HOLD_END, the
timer checks, the voice checks, then auto-advance and voice admission. -/
def holdEnd (s : State) : State :=
  let room := s.floor.setup.maxOpen - delegates s.floor
  let back := s.floor.shadow.take room
  let s1 := back.foldl restoreEntry s
  let s2 := closeShadowSeats .restoreFull (seatsOf (s.floor.shadow.drop room)) s1
  let s3 := record (.holdEnd back.length) none (s2.withFloor { s2.floor with phase := .running })
  let s4 := checkTimers (seatsOf back) s3
  let s5 := if s4.floor.setup.mode = .voice then (seatsOf back).foldl voiceCheck s4 else s4
  afterFloor s5

/-- The hold ends when the holder set has become empty in HOLD (R56). -/
def endHoldIfFree (s : State) : State :=
  if s.floor.phase = .hold ∧ holdersSome s.floor = false then holdEnd s else s

/-- A seat leaves the holder set, if it is a member (R60). -/
def leaveHolders (n : Seat) (s : State) : State :=
  if s.floor.holders.contains n then
    endHoldIfFree (s.withFloor { s.floor with holders := eraseSeat n s.floor.holders })
  else s

/-! ### Presses -/

/-- A press or request that joins the queue, or is refused when it holds 24 seats (R35, R36, R62). -/
def pressQueue (n : Seat) (stamp : Stamp) (s : State) : State :=
  if s.floor.queue.length < 24 then joinQueue n stamp s else refuse n s

/-- OVERRIDE: the oldest delegate entry closes when the delegates equal max open, and the seat opens (R37). -/
def overrideOpen (how : How) (n : Seat) (s : State) : State :=
  let t := if delegates s.floor = s.floor.setup.maxOpen then
      closeOpenSeats .overridden ((delegateSeats s.floor).take 1) s else s
  joinOpen how n t

/-- A delegate's MIC press with the floor RUNNING (R35 to R38). A mic state that the mode does not have is left
as it is (notes/assumptions/14.md). -/
def delegatePress (n : Seat) (stamp : Stamp) (s : State) : State :=
  match s.floor.setup.mode, micState s.floor n with
  | .direct, .off => if slotFree s.floor then joinOpen .press n s else pressQueue n stamp s
  | .direct, .waiting => leaveQueue .press n s
  | .direct, .opened => closeOpen .press n s
  | .queued, .off => pressQueue n stamp s
  | .queued, .waiting => leaveQueue .press n s
  | .queued, .opened => closeOpen .press n s
  | .overrideMode, .off => overrideOpen .press n s
  | .overrideMode, .opened => closeOpen .press n s
  | .voice, .off => arm n s
  | .voice, .armed => disarm n s
  | .voice, .opened => closeOpen .press n s
  | _, _ => s

/-- A delegate's MIC press in HOLD (R62). -/
def delegatePressHold (n : Seat) (stamp : Stamp) (s : State) : State :=
  match s.floor.setup.mode, micState s.floor n with
  | .direct, .off => pressQueue n stamp s
  | .queued, .off => pressQueue n stamp s
  | .overrideMode, .off => refuse n s
  | .voice, .off => refuse n s
  | .direct, .waiting => leaveQueue .press n s
  | .queued, .waiting => leaveQueue .press n s
  | .voice, .armed => disarm n s
  | _, .held => closeShadow .press n s
  | _, _ => s

/-- A chair's MIC press with the floor RUNNING or in HOLD: it toggles the chair's own microphone (R39, R65). -/
def chairPress (n : Seat) (s : State) : State :=
  if hasEntry s.floor.openList n then closeOpen .press n s else joinOpen .press n s

/-- The head of the queue opens with how GRANT, if a slot is free and the queue is not empty (R41, R45). -/
def grant (s : State) : Option State :=
  if slotFree s.floor then s.floor.queue.head?.map (fun r => joinOpen .grant r.seat s) else none

/-- A chair's PRIORITY press with the floor RUNNING or in HOLD (R57). -/
def priorityPress (n : Seat) (s : State) : State :=
  let t := s.withFloor { s.floor with holders := insertSeat n s.floor.holders }
  if s.floor.phase = .running then holdStart (some n) t else t

/-- The three buttons of a seat (R16). -/
inductive ButtonName
  | mic | priority | next
  deriving DecidableEq, Repr

/-- A press event with the floor RUNNING (R34, R39, R41, R57). -/
def pressRunning (b : ButtonName) (n : Seat) (stamp : Stamp) (s : State) : State :=
  match b, effectiveRole s n with
  | .mic, .delegate => delegatePress n stamp s
  | .mic, .chair => chairPress n s
  | .next, .chair => (grant s).getD (refuse n s)
  | .priority, .chair => priorityPress n s
  | _, _ => refuse n s

/-- A press event in HOLD (R57, R62, R65). -/
def pressHold (b : ButtonName) (n : Seat) (stamp : Stamp) (s : State) : State :=
  match b, effectiveRole s n with
  | .mic, .delegate => delegatePressHold n stamp s
  | .mic, .chair => chairPress n s
  | .priority, .chair => priorityPress n s
  | _, _ => refuse n s

/-- A press event (R34, R57, R62, R65, R69). -/
def pressEffect (b : ButtonName) (n : Seat) (stamp : Stamp) (s : State) : State :=
  match s.floor.phase with
  | .closed => refuse n s
  | .alert => refuse n s
  | .running => pressRunning b n stamp s
  | .hold => pressHold b n stamp s

/-- A release event: only a chair's PRIORITY release has an effect (R34, R60). -/
def releaseEffect (b : ButtonName) (n : Seat) (s : State) : State :=
  if b = .priority ∧ effectiveRole s n = .chair then leaveHolders n s else s

/-- A button event taken whole by the Floor Controller (R34, R40, R42). `edge`: true for a press. -/
def buttonEvent (b : ButtonName) (edge : Bool) (n : Seat) (stamp : Stamp) (s : State) : State :=
  afterFloor (if edge then pressEffect b n stamp s else releaseEffect b n s)

/-! ### Setup changes -/

/-- What a change of mode empties before the new record is stored (R48). -/
def emptyForMode (s : State) : State :=
  let s1 := closeOpenSeats .setup (delegateSeats s.floor) s
  let s2 := clearArming (clearQueue s1)
  if s2.floor.phase = .hold then closeShadowSeats .setup (seatsOf s2.floor.shadow) s2 else s2

/-- A smaller max open with the floor RUNNING closes the oldest delegate entries (R49). -/
def trimOpen (s : State) : State :=
  if s.floor.phase = .running then
    closeOpenSeats .setup
      ((delegateSeats s.floor).take (delegates s.floor - s.floor.setup.maxOpen)) s
  else s

/-- A setup change: the new record replaces the running Floor Setup while the meeting continues (R48, R49). -/
def setupChange (f : FloorSetup) (s : State) : State :=
  let stored :=
    if f.mode = s.floor.setup.mode then
      trimOpen (s.withFloor { s.floor with setup := f })
    else
      let t := emptyForMode s
      t.withFloor { t.floor with setup := f }
  afterFloor (recomputeAll stored)

/-! ### Meetings -/

/-- Every entry of the Open List and then of the Hold Shadow leaves (R50 step 1, R68 step 1). -/
def closeEverything (reason : CloseReason) (s : State) : State :=
  let t := closeOpenSeats reason (seatsOf s.floor.openList) s
  closeShadowSeats reason (seatsOf t.floor.shadow) t

/-- Every message slot is emptied (R126, R128, step 5 of R50). -/
def emptyMessages (s : State) : State :=
  s.withScreens { s.screens with messages := Vector.replicate 64 none }

/-- The running Floor Setup that a signal leaves: that of the meeting that follows; with none the copy stays
(R27). -/
def setupAfter (next : Meeting) (f old : FloorSetup) : FloorSetup :=
  match next with
  | .none => old
  | _ => f

/-- A meeting start or meeting end signal, naming the meeting that follows and its Floor Setup (R50, R66,
R69). -/
def meetingSignal (next : Meeting) (f : FloorSetup) (s : State) : State :=
  let s1 := closeEverything .meeting s
  let s2 := clearHolders (clearArming (clearQueue s1))
  let phase : FloorState :=
    if s2.floor.phase = .alert then .alert
    else match next with
      | .none => .closed
      | _ => .running
  afterFloor
    (emptyMessages
      (s2.withFloor { s2.floor with meeting := next
                                    setup := setupAfter next f s2.floor.setup
                                    phase := phase }))

/-! ### Seat loss -/

/-- A seat is lost: it leaves its list or is disarmed with reason LOST, then the holder set, then auto-advance
and voice admission apply (R51, R60). -/
def floorSeatLost (n : Seat) (s : State) : State :=
  afterFloor (leaveHolders n (takeOut .lost .lost n s))

/-! ### The alert -/

/-- The alert entry (R68). -/
def alertEntry (s : State) : State :=
  let closed := s.floor.openList.length + s.floor.shadow.length
  let s1 := closeEverything .alert s
  let s2 := clearHolders (clearArming (clearQueue s1))
  restFilters (record (.alertOn closed) none (s2.withFloor { s2.floor with phase := .alert }))

/-- The alert exit (R70). -/
def alertExit (s : State) : State :=
  let t := record .alertOff none s
  let phase : FloorState :=
    match t.floor.meeting with
    | .none => .closed
    | _ => .running
  afterFloor (t.withFloor { t.floor with phase := phase })

/-- The count that a seat's timer owes, taken whole: the count, its checks, and the auto-advance and voice
admission that follow (R73, R76, R84). -/
def takeCount (n : Seat) (s : State) : State :=
  match openTimer s.floor n with
  | some t => if t.owed then afterFloor (checkTimer n (modifyOpenTimer n countTimer s)) else s
  | none => s

/-- Every count owed, one timer at a time in Open List order (R76). -/
def takeCounts (s : State) : State := (seatsOf s.floor.openList).foldl (fun t n => takeCount n t) s

end Sys2Proof.Machine
end

