-- ==== Sys2Proof/Machine/Mixer.lean ====
section
/-!
DEFINITION. The Mixing Engine (chapter 5): the capture at a superframe start, the arithmetic of one frame, the
seat feeds, the clip counters, and the bank requests. Samples are integers in -524288..524287; products and
sums are exact.
-/

namespace Sys2Proof.Machine

/-- Divide by a positive divisor and round half up (R3). -/
def roundHalfUp (x d : Int) : Int := (x + d / 2) / d

/-- Saturate to the sample range (00_scope, section 5; R97). -/
def saturate (x : Int) : Int := max (-524288) (min 524287 x)

/-! ### Capture -/

/-- The active bank (R89). -/
def activeBank (m : Mixer) : Vector Nat 65 := if m.active = 0 then m.bank0 else m.bank1

/-- The contribution set, ascending: the seats in the Open List that are PRESENT or FADING (R86, R87). -/
def contributionSet (s : State) : List Seat :=
  allSeats.filter (fun n => hasEntry s.floor.openList n && takesPart (presenceOf s n))

/-- The NOM factor for n contributing seats; none for n = 0 (R86, R92). -/
def nomFactor (m : Mixer) (n : Nat) : Option Nat :=
  if n = 0 then none else m.nom.toList[n - 1]?

/-- The pending bank becomes the active bank (R86 step 1, R89). -/
def landBank (m : Mixer) : Mixer := { m with active := m.pending.getD m.active, pending := none }

/-- The five values captured at a superframe start, in their order (R86). -/
def capture (s : State) : State :=
  let m := landBank s.mixer
  let c := contributionSet s
  s.withMixer
    { m with capGains := activeBank m, capSeats := c, capFactor := nomFactor m c.length }

/-- A bank request (R89). -/
def bankRequest (b : Fin 2) (s : State) : State :=
  s.withMixer { s.mixer with pending := some b }

/-! ### One frame -/

/-- Stage 1: the microphone sample of a seat, 0 while its chain is UNLOCKED (R8, R93). -/
def micSample (s : State) (n : Seat) : Int :=
  if (linkState s.links (chainOf n)).locked then look s.audio.mic n else 0

/-- The far-end return sample, 0 while the trunk is UNLOCKED (R9, R93). -/
def farSample (s : State) : Int := if s.links.trunk.locked then s.audio.far else 0

/-- The announce sample, 0 while the trunk is UNLOCKED (R9, R93). -/
def announceSample (s : State) : Int := if s.links.trunk.locked then s.audio.announce else 0

/-- The captured gain code of a seat (R88). -/
def seatGain (m : Mixer) (n : Seat) : Nat := look m.capGains ⟨n.val, by omega⟩

/-- Stage 2: the exact product sum P (R94). -/
def productSum (s : State) : Int :=
  (s.mixer.capSeats.map (fun n => micSample s n * (seatGain s.mixer n : Int))).sum

/-- Stage 3: the room mix S (R95). -/
def roomMix (s : State) : Int :=
  match s.mixer.capFactor with
  | none => 0
  | some a => roundHalfUp (productSum s * (a : Int)) 536870912

/-- Stage 4: the far contribution R (R96). -/
def farPart (s : State) : Int :=
  roundHalfUp (farSample s * ((look s.mixer.capGains (64 : Fin 65) : Nat) : Int)) 16384

/-- The floor bus F (R97, R102). -/
def floorBus (s : State) : Int :=
  if s.floor.phase = .alert then announceSample s else saturate (roomMix s + farPart s)

/-- The far send E (R97, R102). -/
def farSend (s : State) : Int :=
  if s.floor.phase = .alert then 0 else saturate (roomMix s)

/-- The feed of a listening seat (R101). -/
def listenFeed (bus : Int) (volume : Nat) : Int := (bus * ((17 * volume : Nat) : Int) + 128) / 256

/-- The feed of a seat (R100, R102). -/
def seatFeed (s : State) (n : Seat) : Int :=
  if presenceOf s n = .absent then 0
  else if s.floor.phase = .alert then announceSample s
  else if micState s.floor n = .opened then 0
  else listenFeed (floorBus s) (look s.seats n).volume

/-- Whether the computation is a floor clip (R97, R102). -/
def floorClips (s : State) : Bool :=
  decide (s.floor.phase ≠ .alert) && decide (saturate (roomMix s + farPart s) ≠ roomMix s + farPart s)

/-- Whether the computation is a far clip (R97, R102). -/
def farClips (s : State) : Bool :=
  decide (s.floor.phase ≠ .alert) && decide (saturate (roomMix s) ≠ roomMix s)

/-- A clip counter after one computation; it holds at 65535 (R98). -/
def countClip (n : Nat) (clip : Bool) : Nat := if clip && decide (n < 65535) then n + 1 else n

/-- The clips of one computation are counted and may set the CLIP source (R98). -/
def countClips (s : State) : State :=
  let t := s.withMixer
    { s.mixer with clipFloor := countClip s.mixer.clipFloor (floorClips s)
                   clipFar := countClip s.mixer.clipFar (farClips s) }
  if floorClips s || farClips s then t.withNotices (raiseClip t.notices) else t

end Sys2Proof.Machine
end

