-- ==== Sys2Proof/Machine/Bookings.lean ====
section
/-!
DEFINITION. The Room Clock and the Booking Scheduler (chapter 9): the advance of the room time, windows, the
placing of bookings, meeting starts and ends, the checks of COMMIT, EXTEND, END NOW and CANCEL, clock jumps,
and the effect of a PUT to the Idle Setup.
-/

namespace Sys2Proof.Machine

/-! ### The room clock -/

/-- The room time one ms later (R156). -/
def advanceTime (t : RoomTime) : RoomTime :=
  if t.ms < 999 then { t with ms := t.ms + 1 }
  else if t.second < 59 then { t with ms := 0, second := t.second + 1 }
  else if t.minute < 59 then { t with ms := 0, second := 0, minute := t.minute + 1 }
  else if t.hour < 23 then { t with ms := 0, second := 0, minute := 0, hour := t.hour + 1 }
  else { day := if t.day < 6 then t.day + 1 else 0, hour := 0, minute := 0, second := 0, ms := 0 }

/-- The week minute against which a command or RESTART places bookings: while a minute boundary has come about
and is not yet taken, the minute before it (R184, notes/assumptions/17.md). -/
def presentMinute (s : State) : Nat :=
  match s.due.boundary with
  | some m => (m + 10079) % 10080
  | none => weekMinute s.clock.time

/-! ### Windows -/

/-- Whether a minute lies outside the occupancy window (R165, R167). -/
def outsideWindow (f : Fixed) (current t : Nat) : Bool :=
  decide (t + f.lead < f.start) || decide (current + f.grace ≤ t)

/-- The due state of a booking at a week minute; none for outside (R167). -/
def dueStage (f : Fixed) (current t : Nat) : Option Stage :=
  if outsideWindow f current t then none
  else if t < f.start then some .lead
  else if t < current then
    if f.endWarn = 0 ∨ t + f.endWarn < current then some .active else some .ending
  else some .done

/-- The reserved window, from and to (R165). -/
def reservedWindow (f : Fixed) (booked current : Nat) : Nat × Nat :=
  (f.start - f.lead, max booked current + f.grace)

/-- Two windows overlap (R165). -/
def overlaps (v w : Nat × Nat) : Bool := decide (v.1 < w.2) && decide (w.1 < v.2)

/-- Every slot, ascending. -/
def allSlots : List SlotNo := List.finRange 16

/-- A window overlaps the reserved window of a committed booking other than slot `k` (R166, R177). -/
def windowTaken (c : Scheduler) (k : SlotNo) (w : Nat × Nat) : Bool :=
  allSlots.any (fun j => decide (j ≠ k) &&
    (match look c.slots j with
     | .committed _ f _ booked current => overlaps w (reservedWindow f booked current)
     | _ => false))

/-- Another slot that is not FREE has this id (R166). -/
def idTaken (c : Scheduler) (k : SlotNo) (id : Nat) : Bool :=
  allSlots.any (fun j => decide (j ≠ k) &&
    (match slotFixed (look c.slots j) with
     | some f => decide (f.id = id)
     | none => false))

/-! ### Slots and requests -/

/-- A slot's contents replaced. -/
def setSlot (k : SlotNo) (x : Slot) (s : State) : State :=
  s.withSched { s.sched with slots := upd s.sched.slots k x }

/-- Every display, ascending. -/
def allDisplays : List DisplayNo := List.finRange 4

/-- The displays that a plan uses, ascending (R142). -/
def plannedDisplays (f : Fixed) : List DisplayNo :=
  allDisplays.filter (fun d => (look f.plan d).used)

/-- POWER ON with the plan's input for each planned display (R169). -/
def powerOnPlan (f : Fixed) (s : State) : State :=
  (plannedDisplays f).foldl (fun t d => requestOn d (some (look f.plan d).input) t) s

/-- POWER OFF for each planned display (R168). -/
def powerOffPlan (f : Fixed) (s : State) : State :=
  (plannedDisplays f).foldl (fun t d => requestOff d t) s

/-! ### Meeting start and end -/

/-- A meeting start of a booking (R171). -/
def meetingStart (k : SlotNo) (f : Fixed) (cause : StartCause) (s : State) : State :=
  appendWith (.meetingStart cause) f.chair (some f.id)
    (bankRequest f.bank (meetingSignal (.booking k f.id f.chair) f.setup s))

/-- The meeting that follows a booking (R171, R172). -/
def followingMeeting (i : IdleSetup) : Meeting := if i.enabled then .idle else .none

/-- A meeting end of a booking (R172). -/
def meetingEnd (f : Fixed) (cause : EndCause) (s : State) : State :=
  appendWith (.meetingEnd cause) none (some f.id)
    (bankRequest s.sched.idle.bank
      (meetingSignal (followingMeeting s.sched.idle) s.sched.idle.setup s))

/-- A finish that is not a CANCEL (R168). -/
def finishBooking (k : SlotNo) (f : Fixed) (items : List Item) (booked : Nat) (s : State) : State :=
  setSlot k (if f.weekly then .committed .pending f items booked booked else .free) (powerOffPlan f s)

/-! ### Placing -/

/-- The causes that the signals of a placing carry (R173). -/
structure Causes where
  starts : StartCause
  ends : EndCause
  deriving DecidableEq, Repr

/-- The meeting is on: ACTIVE or ENDING. -/
def Stage.meets (x : Stage) : Bool :=
  match x with
  | .active => true
  | .ending => true
  | _ => false

/-- The step of R169 into a due state inside the window. -/
def placeInside (k : SlotNo) (c : Causes) (stage due : Stage) (f : Fixed) (items : List Item)
    (booked current : Nat) (s : State) : State :=
  let set := setSlot k (.committed due f items booked current)
  match stage with
  | .pending =>
    match due with
    | .done => set s
    | .pending => s
    | .lead => set (powerOnPlan f s)
    | .active => meetingStart k f c.starts (set (powerOnPlan f s))
    | .ending => meetingStart k f c.starts (set (powerOnPlan f s))
  | _ =>
    if stage.meets && !due.meets then meetingEnd f c.ends (set s)
    else if !stage.meets && due.meets then meetingStart k f c.starts (set s)
    else set s

/-- The step of R169 for a booking that is due outside its window. -/
def placeOutside (k : SlotNo) (c : Causes) (stage : Stage) (f : Fixed) (items : List Item)
    (booked : Nat) (s : State) : State :=
  match stage with
  | .pending => s
  | .lead => finishBooking k f items booked s
  | .done => finishBooking k f items booked s
  | .active => finishBooking k f items booked (meetingEnd f c.ends s)
  | .ending => finishBooking k f items booked (meetingEnd f c.ends s)

/-- Placing the booking of a slot at a week minute (R169). A slot that holds no committed booking, or whose
state equals its due state, is left as it is. -/
def place (c : Causes) (t : Nat) (k : SlotNo) (s : State) : State :=
  match look s.sched.slots k with
  | .committed stage f items booked current =>
    match dueStage f current t with
    | none => placeOutside k c stage f items booked s
    | some due => if due = stage then s else placeInside k c stage due f items booked current s
  | _ => s

/-- Placing several slots, in the order given. -/
def placeAll (c : Causes) (t : Nat) (l : List SlotNo) (s : State) : State :=
  l.foldl (fun u k => place c t k u) s

/-- The slot is in LEAD, ACTIVE, ENDING or DONE. -/
def inProgress (x : Slot) : Bool :=
  match x with
  | .committed stage _ _ _ _ => decide (stage ≠ .pending)
  | _ => false

/-- The slot is PENDING. -/
def isPending (x : Slot) : Bool :=
  match x with
  | .committed stage _ _ _ _ => decide (stage = .pending)
  | _ => false

/-- The slots in progress; R165 admits at most one. -/
def progressSlots (s : State) : List SlotNo :=
  allSlots.filter (fun k => inProgress (look s.sched.slots k))

/-- The PENDING slots, ascending. -/
def pendingSlots (s : State) : List SlotNo :=
  allSlots.filter (fun k => isPending (look s.sched.slots k))

/-- The slot's window start is this minute (R170 step 2). -/
def startsAt (t : Nat) (x : Slot) : Bool :=
  match x with
  | .committed _ f _ _ _ => decide (f.start = t + f.lead)
  | _ => false

/-- A minute boundary with a valid clock (R170). The PENDING slots of step 2 are those that were PENDING before
step 1, since a booking renewed in step 1 is not placed again (R168). -/
def placeBoundary (t : Nat) (s : State) : State :=
  let entering := (pendingSlots s).filter (fun k => startsAt t (look s.sched.slots k))
  placeAll ⟨.scheduled, .scheduled⟩ t entering
    (placeAll ⟨.scheduled, .scheduled⟩ t (progressSlots s) s)

/-- The minute boundary that has come about is taken; while the clock is invalid it places nothing (R157,
R170). -/
def takeBoundary (s : State) : State :=
  match s.due.boundary with
  | none => s
  | some t =>
    let u := s.withDue { s.due with boundary := none }
    if u.clock.valid then placeBoundary t u else u

/-! ### Commands on a slot -/

/-- COMMIT of a slot below 16 (R166). -/
def commitSlot (k : SlotNo) (s : State) : Reply :=
  match look s.sched.slots k with
  | .draft f items =>
    if f.start < f.lead ∨ 10080 < f.finish + f.grace ∨ f.finish < f.start + 5 ∨
        f.start + 720 < f.finish then refusal .range s
    else if idTaken s.sched k f.id then refusal .conflict s
    else if windowTaken s.sched k (reservedWindow f f.finish f.finish) then refusal .conflict s
    else
      let t := setSlot k (.committed .pending f items f.finish f.finish) s
      done (if s.clock.valid then place ⟨.late, .clock⟩ (presentMinute s) k t else t)
  | _ => refusal .state s

/-- EXTEND with its operands in range (R177). -/
def extendSlot (k : SlotNo) (minutes : Nat) (s : State) : Reply :=
  match look s.sched.slots k with
  | .committed stage f items booked current =>
    if stage = .done then refusal .state s
    else if f.start + 720 < current + minutes ∨ 10080 < current + minutes + f.grace then
      refusal .range s
    else if windowTaken s.sched k (reservedWindow f booked (current + minutes)) then
      refusal .conflict s
    else
      let t := setSlot k (.committed stage f items booked (current + minutes)) s
      done (if stage = .pending then t else place ⟨.late, .clock⟩ (presentMinute s) k t)
  | _ => refusal .state s

/-- END NOW of a slot below 16 (R178). -/
def endNowSlot (k : SlotNo) (s : State) : Reply :=
  match look s.sched.slots k with
  | .committed stage f items booked _ =>
    if stage.meets then
      done (place ⟨.late, .endNow⟩ (presentMinute s) k
        (setSlot k (.committed stage f items booked (presentMinute s)) s))
    else refusal .state s
  | _ => refusal .state s

/-- CANCEL of a slot below 16 (R179). -/
def cancelSlot (k : SlotNo) (s : State) : Reply :=
  match look s.sched.slots k with
  | .free => refusal .state s
  | .draft _ _ => done (setSlot k .free s)
  | .committed stage f _ _ _ =>
    match stage with
    | .pending => done (setSlot k .free s)
    | .lead => done (setSlot k .free (powerOffPlan f s))
    | .done => done (setSlot k .free (powerOffPlan f s))
    | .active => done (setSlot k .free (powerOffPlan f (meetingEnd f .cancel s)))
    | .ending => done (setSlot k .free (powerOffPlan f (meetingEnd f .cancel s)))

/-! ### CLOCK SET -/

/-- The ms of one week. -/
def weekLength : Nat := 604800000

/-- How far one time of the week lies after another, in ms (R175). -/
def weekDistance (old new : Nat) : Nat := (new + weekLength - old) % weekLength

/-- The jump is forward (R175). -/
def forwardJump (old new : Nat) : Bool :=
  decide (1 ≤ weekDistance old new) && decide (weekDistance old new ≤ 302399999)

/-- The minute boundary of a week minute is swept by a forward jump (R175). -/
def swept (old new minute : Nat) : Bool :=
  forwardJump old new && decide (1 ≤ weekDistance old (minute * 60000)) &&
    decide (weekDistance old (minute * 60000) ≤ weekDistance old new)

/-- A missed booking (R176). -/
def missBooking (k : SlotNo) (f : Fixed) (items : List Item) (booked : Nat) (s : State) : State :=
  setSlot k (if f.weekly then .committed .pending f items booked booked else .free)
    (appendWith (.bookingMissed k) none (some f.id) s)

/-- Step 2 of R175 for one booking that was PENDING before: the missed test, or the placing. `old`: the room
time before, absent when the clock was not valid. -/
def placeOrMiss (old : Option Nat) (new t : Nat) (s : State) (k : SlotNo) : State :=
  match look s.sched.slots k with
  | .committed _ f items booked current =>
    let missed := match old with
      | some o => swept o new (f.start - f.lead) && outsideWindow f current t
      | none => false
    if missed then missBooking k f items booked s else place ⟨.late, .clock⟩ t k s
  | _ => s

/-- The room time that CLOCK SET gives (R158). -/
def setTime (day hour minute second : Nat) : RoomTime :=
  { day := day, hour := hour, minute := minute, second := second, ms := 0 }

/-- Steps 1 and 2 of CLOCK SET: the time, the valid flag, the CLOCK source and the record (R158). A minute
boundary that the old time had reached and that is not taken does not come (R184). -/
def setClock (time : RoomTime) (s : State) : State :=
  let t := (s.withClock { time := time, valid := true }).withDue { s.due with boundary := none }
  record (.clockSet (weekMinute time)) none
    (t.withNotices { t.notices with summary := { t.notices.summary with clock := false } })

/-- CLOCK SET with its operands in range (R158, R175). DESIGN CHOICE: the old room time is the advanced one even
while a minute boundary waits, which is then neither taken nor swept (R184, notes/assumptions/17.md). -/
def clockJump (time : RoomTime) (s : State) : State :=
  let old := if s.clock.valid then some (weekMs s.clock.time) else none
  let before := pendingSlots s
  let s1 := setClock time s
  let s2 := placeAll ⟨.late, .clock⟩ (weekMinute time) (progressSlots s1) s1
  before.foldl (placeOrMiss old (weekMs time) (weekMinute time)) s2

/-! ### The Idle Setup -/

/-- The current meeting is a booking. -/
def bookingCurrent (m : Meeting) : Bool :=
  match m with
  | .booking _ _ _ => true
  | _ => false

/-- The running idle meeting takes a new Floor Setup (R181, R69). -/
def idleSetupChange (f : FloorSetup) (s : State) : State :=
  if s.floor.phase = .alert then s.withFloor { s.floor with setup := f } else setupChange f s

/-- The effect of an accepted PUT to the Idle Setup, after storing (R181). -/
def idleEffect (old new : IdleSetup) (s : State) : State :=
  if bookingCurrent s.floor.meeting then s
  else
    match old.enabled, new.enabled with
    | false, false => s
    | false, true =>
      appendWith (.meetingStart .idle) none (some 0)
        (bankRequest new.bank (meetingSignal .idle new.setup s))
    | true, false =>
      appendWith (.meetingEnd .idle) none (some 0)
        (bankRequest new.bank (meetingSignal .none new.setup s))
    | true, true =>
      let t := idleSetupChange new.setup s
      if new.bank = old.bank then t else bankRequest new.bank t

/-- An accepted PUT to the Idle Setup (R181). -/
def storeIdle (new : IdleSetup) (s : State) : State :=
  idleEffect s.sched.idle new (s.withSched { s.sched with idle := new })

/-! ### RESTART -/

/-- A booking in progress becomes PENDING with its ends kept (R182). -/
def backToPending (x : Slot) : Slot :=
  match x with
  | .committed _ f items booked current => .committed .pending f items booked current
  | other => other

/-- The Booking Scheduler's part of RESTART (R182). -/
def restartBookings (s : State) : State :=
  let t := s.withSched { s.sched with slots := s.sched.slots.map backToPending }
  if t.clock.valid then placeAll ⟨.late, .clock⟩ (presentMinute t) (pendingSlots t) t else t

end Sys2Proof.Machine
end

