-- ==== Sys2Proof/WellFormed.lean ====
section
/-!
DEFINITION. When a command is well formed: its operands are values that the cell's fields, the frame or
the pin can carry (Tables 12-1, 12-5, 12-7). A value that a field carries but the owning block refuses is
well formed (R220). The meanings are total and do not need well-formedness.
-/

namespace Sys2Proof

/-- A number that a one-byte field carries. -/
def isByte (n : Nat) : Bool := decide (n < 256)

/-- A number that a two-byte field carries. -/
def isWord (n : Nat) : Bool := decide (n < 65536)

/-- A Floor Setup record's fields fit their 12 bytes (12.2). -/
def SetupFields.wf (f : SetupFields) : Bool :=
  isByte f.mode && isByte f.maxOpen && isWord f.limit && isByte f.lead && isByte f.action &&
    decide (f.threshold < 16777216) && isWord f.hold

/-- A SEAT entry's fields fit their bytes. -/
def SeatFields.wf (f : SeatFields) : Bool := isByte f.role && isByte f.name

/-- A booking's fixed part fits its 33 bytes. -/
def BookingFields.wf (f : BookingFields) : Bool :=
  isWord f.id && isWord f.start && isWord f.finish && isByte f.lead && isByte f.grace &&
    isByte f.endWarn && isByte f.bank && isByte f.chair && isByte f.title &&
    f.plan.toList.all (fun p => isByte p.input) && f.setup.wf

/-- An IDLE entry's fields fit their 14 bytes. -/
def IdleFields.wf (f : IdleFields) : Bool := f.setup.wf && isByte f.bank

/-- A DISPLAY entry's fields fit their 6 bytes. -/
def PresetFields.wf (f : PresetFields) : Bool :=
  isWord f.period && isByte f.high && isByte f.warmUp && isWord f.coolDown

/-- The command codes of Table 12-5. -/
def knownCodes : List Byte :=
  [0x01, 0x02, 0x03, 0x04, 0x05, 0x06, 0x08, 0x09, 0x10, 0x11, 0x12, 0x13, 0x14, 0x15, 0x16, 0x20,
   0x21, 0x22, 0x28, 0x29, 0x30, 0x31, 0x38, 0x39, 0x40, 0x41, 0x42, 0x43, 0x48, 0x49]

/-- Whether the part knows a command code (R201 step 1, Table 12-5). -/
def isKnown (code : Byte) : Bool := knownCodes.contains code

/-- A frame holds at most the bytes of its link's frame period (Table 12-1). -/
def frameFits (link : Link) (bytes : List Byte) : Bool :=
  match link with
  | .trunk => decide (bytes.length ≤ 520)
  | _ => decide (bytes.length ≤ 86)

/-- A command cell as the port can hold it: its body has at most 504 bytes (Table 12-4). -/
def CommandCell.wf (c : CommandCell) : Bool :=
  c.body.all (fun b => decide (b.length ≤ 504))

/-- Both numbers of a pair of one-byte fields. -/
def bytePair (p : Nat × Nat) : Bool := isByte p.1 && isByte p.2

/-- Whether the operands are values that the fields can carry. -/
def Instr.wf : Instr → Bool
  | .resetPin _ => true
  | .incomingFrame link bytes => frameFits link bytes
  | .outgoingFrame => true
  | .answerSent => true
  | .noticeSent => true
  | .superframeStart _ => true
  | .speakingWarning _ => true
  | .speakingLimitClose _ => true
  | .speakingLimitNotify _ => true
  | .minuteBoundary => true
  | .superframeEnd => true
  | .chainLock _ => true
  | .chainUnlock _ => true
  | .alertSample _ => true
  | .refusedTimerExpiry _ => true
  | .messageExpiry _ => true
  | .voiceEvaluation => true
  | .presenceEnd _ => true
  | .quietTimeout => true
  | .warmExpiry _ => true
  | .coolExpiry _ => true
  | .irTransmissionStart instant => decide (instant ≤ 625)
  | .irTransmissionComplete => true
  | .commandCellArrival => true
  | .unknownCommand _ code => !isKnown code
  | .select _ p => p.all (fun q => isByte q.2)
  | .get _ _ => true
  | .putSeat _ p => p.all SeatFields.wf
  | .putName _ p => p.all (fun t => decide (t.length ≤ 255))
  | .putGain _ p => p.all isWord
  | .putNom _ p => p.all isWord
  | .putBooking _ p => p.all BookingFields.wf
  | .putIdle _ p => p.all IdleFields.wf
  | .putDisplay _ p => p.all PresetFields.wf
  | .listClearAssign _ p => p.all isByte
  | .listClearIrcode _ p => p.all (fun q => isByte q.1 && bytePair q.2)
  | .listAddAssign _ p =>
      p.all (fun q => isByte q.1 && decide (q.2.length ≤ 250) && q.2.all bytePair)
  | .listAddIrcode _ p =>
      p.all (fun q => isByte q.1 && decide (q.2.length ≤ 125) &&
        q.2.all (fun m => isWord m.1 && isWord m.2))
  | .listGetAssign _ p => p.all bytePair
  | .listGetIrcode _ p => p.all bytePair
  | .status _ _ => true
  | .statusSeat _ seat => isByte seat
  | .restart _ _ => true
  | .seatOpen _ p => p.all isByte
  | .seatClose _ p => p.all isByte
  | .grantNext _ _ => true
  | .queueClear _ _ => true
  | .floorSet _ p => p.all SetupFields.wf
  | .priorityOn _ _ => true
  | .priorityOff _ _ => true
  | .bankSelect _ p => p.all isByte
  | .clipRead _ _ => true
  | .meterRead _ p => p.all bytePair
  | .seatMessage _ p => p.all (fun q => isByte q.1 && isByte q.2.1 && decide (q.2.2.length ≤ 255))
  | .messageClear _ p => p.all isByte
  | .displayPowerOn _ p => p.all bytePair
  | .displayPowerOff _ p => p.all bytePair
  | .displayInput _ p => p.all bytePair
  | .clockSet _ p => p.all (fun q => bytePair (q.1, q.2.1) && bytePair q.2.2)
  | .clockGet _ _ => true
  | .commit _ p => p.all isByte
  | .extend _ p => p.all bytePair
  | .endNow _ p => p.all isByte
  | .cancel _ p => p.all isByte
  | .logRead _ _ => true
  | .noticeSet _ p => p.all bytePair

end Sys2Proof
end

