-- ==== Sys2Proof/Decode.lean ====
section
/-!
DEFINITION. Decoding. The rows of spec/opcode_table.json give no bits, so no word spells a command and
`decodeTableWord` answers none. The TH-64 does decode its command cells: `commandOf` reads the command that
a cell of the Command FIFO carries (Tables 12-5, 12-6, 12-7; R204, R219, R220). It is total: parameters
without the command's form give `none` as the operand, and a code the part does not know gives
`unknownCommand`.
-/

namespace Sys2Proof

/-- The command that a word spells: none, for no row of the table gives bits (notes/assumptions/2.md). -/
def decodeTableWord (_nbits _w : Nat) : Option Instr := none

/-- A two-byte number, most significant byte first (chapter 12). -/
def be16 (hi lo : Byte) : Nat := hi.toNat * 256 + lo.toNat

/-- A three-byte number, most significant byte first (chapter 12). -/
def be24 (hi mid lo : Byte) : Nat := (hi.toNat * 256 + mid.toNat) * 256 + lo.toNat

/-- A yes/no byte is read from bit 0 alone (R220). -/
def yesNo (b : Byte) : Bool := b.getLsbD 0

/-- No parameter: an empty body (Table 12-5). -/
def parseNone : List Byte → Option Unit
  | [] => some ()
  | _ => none

/-- One one-byte parameter. -/
def parseOne : List Byte → Option Nat
  | [a] => some a.toNat
  | _ => none

/-- Two one-byte parameters. -/
def parseTwo : List Byte → Option (Nat × Nat)
  | [a, b] => some (a.toNat, b.toNat)
  | _ => none

/-- Four one-byte parameters. -/
def parseFour : List Byte → Option (Nat × Nat × Nat × Nat)
  | [a, b, c, d] => some (a.toNat, b.toNat, c.toNat, d.toNat)
  | _ => none

/-- One two-byte parameter. -/
def parseWord : List Byte → Option Nat
  | [a, b] => some (be16 a b)
  | _ => none

/-- A string: a length byte, then that many character codes (Table 12-6). -/
def parseText : List Byte → Option Text
  | n :: cs => if cs.length = n.toNat then some cs else none
  | [] => none

/-- The table codes of SELECT (R220). -/
def parseTable (b : Byte) : Option TableName :=
  match b.toNat with
  | 0 => some .seat
  | 1 => some .name
  | 2 => some .gain0
  | 3 => some .gain1
  | 4 => some .nom
  | 5 => some .booking
  | 6 => some .idle
  | 7 => some .display
  | _ => none

/-- SELECT: table, index. A table outside the eight is a form error (R206, R220). -/
def parseSelect : List Byte → Option (TableName × Nat)
  | [t, i] => (parseTable t).map (fun n => (n, i.toNat))
  | _ => none

/-- A Floor Setup record of 12 bytes (12.2), and what follows it. -/
def parseSetupThen : List Byte → Option (SetupFields × List Byte)
  | m :: x :: a :: l1 :: l0 :: w :: act :: t2 :: t1 :: t0 :: h1 :: h0 :: rest =>
      some ({ mode := m.toNat, maxOpen := x.toNat, autoAdvance := yesNo a, limit := be16 l1 l0,
              lead := w.toNat, action := act.toNat, threshold := be24 t2 t1 t0,
              hold := be16 h1 h0 }, rest)
  | _ => none

/-- FLOOR SET: one Floor Setup record. -/
def parseSetup (b : List Byte) : Option SetupFields :=
  match parseSetupThen b with
  | some (f, []) => some f
  | _ => none

/-- The SEAT entry form (Table 12-7). -/
def parseSeat : List Byte → Option SeatFields
  | [r, n, e] => some { role := r.toNat, name := n.toNat, exempt := yesNo e }
  | _ => none

/-- The IDLE entry form: enabled, Floor Setup, gain bank (Table 12-7). -/
def parseIdle : List Byte → Option IdleFields
  | e :: rest =>
      match parseSetupThen rest with
      | some (f, [b]) => some { enabled := yesNo e, setup := f, bank := b.toNat }
      | _ => none
  | [] => none

/-- The DISPLAY entry form (Table 12-7). -/
def parsePreset : List Byte → Option PresetFields
  | [p1, p0, h, w, c1, c0] =>
      some { period := be16 p1 p0, high := h.toNat, warmUp := w.toNat, coolDown := be16 c1 c0 }
  | _ => none

/-- The BOOKING entry form of 33 bytes (Table 12-7). -/
def parseBooking : List Byte → Option BookingFields
  | i1 :: i0 :: s1 :: s0 :: e1 :: e0 :: ld :: gr :: ew :: wk :: bk :: ch :: ti ::
    u0 :: n0 :: u1 :: n1 :: u2 :: n2 :: u3 :: n3 :: rest =>
      (parseSetup rest).map fun f =>
        { id := be16 i1 i0, start := be16 s1 s0, finish := be16 e1 e0, lead := ld.toNat,
          grace := gr.toNat, endWarn := ew.toNat, weekly := yesNo wk, bank := bk.toNat,
          chair := ch.toNat, title := ti.toNat,
          plan := #v[⟨yesNo u0, n0.toNat⟩, ⟨yesNo u1, n1.toNat⟩, ⟨yesNo u2, n2.toNat⟩,
                     ⟨yesNo u3, n3.toNat⟩],
          setup := f }
  | _ => none

/-- Items of two bytes (ASSIGN: seat, name index; R209). -/
def parseItems : List Byte → Option (List (Nat × Nat))
  | [] => some []
  | a :: b :: rest => (parseItems rest).map (fun l => (a.toNat, b.toNat) :: l)
  | _ => none

/-- Pairs of four bytes (IRCODE: mark, space; R209). -/
def parsePairs : List Byte → Option (List (Nat × Nat))
  | [] => some []
  | a :: b :: c :: d :: rest => (parsePairs rest).map (fun l => (be16 a b, be16 c d) :: l)
  | _ => none

/-- A count that must match the length of the list that follows it (R204). -/
def counted (n : Byte) (l : Option (List (Nat × Nat))) : Option (List (Nat × Nat)) :=
  match l with
  | some items => if items.length = n.toNat then some items else none
  | none => none

/-- LIST CLEAR (Table 12-5): ASSIGN takes no further parameter, IRCODE a repeat count and a gap. A list
table outside the two is a form error; it is given to the ASSIGN row (notes/assumptions/29.md). -/
def parseListClear (tag : Byte) : List Byte → Instr
  | [t, l] => if t = 0 then .listClearAssign tag (some l.toNat)
      else if t = 1 then .listClearIrcode tag none else .listClearAssign tag none
  | [t, l, r, g] => if t = 1 then .listClearIrcode tag (some (l.toNat, r.toNat, g.toNat))
      else .listClearAssign tag none
  | t :: _ => if t = 1 then .listClearIrcode tag none else .listClearAssign tag none
  | [] => .listClearAssign tag none

/-- LIST ADD (Table 12-5): list table, list, count and items or pairs. -/
def parseListAdd (tag : Byte) : List Byte → Instr
  | t :: l :: n :: rest =>
      if t = 1 then .listAddIrcode tag ((counted n (parsePairs rest)).map (fun p => (l.toNat, p)))
      else if t = 0 then .listAddAssign tag ((counted n (parseItems rest)).map (fun p => (l.toNat, p)))
      else .listAddAssign tag none
  | t :: _ => if t = 1 then .listAddIrcode tag none else .listAddAssign tag none
  | [] => .listAddAssign tag none

/-- LIST GET (Table 12-5): list table, list, offset. -/
def parseListGet (tag : Byte) : List Byte → Instr
  | t :: rest =>
      if t = 1 then .listGetIrcode tag (parseTwo rest)
      else if t = 0 then .listGetAssign tag (parseTwo rest) else .listGetAssign tag none
  | [] => .listGetAssign tag none

/-- STATUS with no parameter or with a seat (Table 12-5). -/
def parseStatus (tag : Byte) : List Byte → Instr
  | [] => .status tag (some ())
  | [s] => .statusSeat tag s.toNat
  | _ => .status tag none

/-- DISPLAY POWER: display, on/off, input. A value other than 0 and 1 for on/off is a form error, given to
the DISPLAY_POWER_ON row (R204, notes/assumptions/29.md). -/
def parsePower (tag : Byte) : List Byte → Instr
  | [d, o, n] => if o = 1 then .displayPowerOn tag (some (d.toNat, n.toNat))
      else if o = 0 then .displayPowerOff tag (some (d.toNat, n.toNat))
      else .displayPowerOn tag none
  | _ => .displayPowerOn tag none

/-- SEAT MESSAGE: target, duration in s, string (Table 12-5). -/
def parseMessage : List Byte → Option (Nat × Nat × Text)
  | t :: d :: rest => (parseText rest).map (fun x => (t.toNat, d.toNat, x))
  | _ => none

/-- PUT: the entry form of the cursor's table (R208). -/
def parsePut (tag : Byte) (table : TableName) (body : Option (List Byte)) : Instr :=
  match table with
  | .seat => .putSeat tag (body.bind parseSeat)
  | .name => .putName tag (body.bind parseText)
  | .gain0 => .putGain tag (body.bind parseWord)
  | .gain1 => .putGain tag (body.bind parseWord)
  | .nom => .putNom tag (body.bind parseWord)
  | .booking => .putBooking tag (body.bind parseBooking)
  | .idle => .putIdle tag (body.bind parseIdle)
  | .display => .putDisplay tag (body.bind parsePreset)

/-- The command that a command cell carries, read with the cursor's table (R201, R204, R208, R219).
A body length above 504 is a form error of every known command. -/
def commandOf (table : TableName) (c : CommandCell) : Instr :=
  match c.code.toNat with
  | 0x01 => .select c.tag (c.body.bind parseSelect)
  | 0x02 => .get c.tag (c.body.bind parseNone)
  | 0x03 => parsePut c.tag table c.body
  | 0x04 => parseListClear c.tag (c.body.getD [])
  | 0x05 => parseListAdd c.tag (c.body.getD [])
  | 0x06 => parseListGet c.tag (c.body.getD [])
  | 0x08 => match c.body with
      | none => .status c.tag none
      | some b => parseStatus c.tag b
  | 0x09 => .restart c.tag (c.body.bind parseNone)
  | 0x10 => .seatOpen c.tag (c.body.bind parseOne)
  | 0x11 => .seatClose c.tag (c.body.bind parseOne)
  | 0x12 => .grantNext c.tag (c.body.bind parseNone)
  | 0x13 => .queueClear c.tag (c.body.bind parseNone)
  | 0x14 => .floorSet c.tag (c.body.bind parseSetup)
  | 0x15 => .priorityOn c.tag (c.body.bind parseNone)
  | 0x16 => .priorityOff c.tag (c.body.bind parseNone)
  | 0x20 => .bankSelect c.tag (c.body.bind parseOne)
  | 0x21 => .clipRead c.tag (c.body.bind parseNone)
  | 0x22 => .meterRead c.tag (c.body.bind parseTwo)
  | 0x28 => .seatMessage c.tag (c.body.bind parseMessage)
  | 0x29 => .messageClear c.tag (c.body.bind parseOne)
  | 0x30 => parsePower c.tag (c.body.getD [])
  | 0x31 => .displayInput c.tag (c.body.bind parseTwo)
  | 0x38 => .clockSet c.tag (c.body.bind parseFour)
  | 0x39 => .clockGet c.tag (c.body.bind parseNone)
  | 0x40 => .commit c.tag (c.body.bind parseOne)
  | 0x41 => .extend c.tag (c.body.bind parseTwo)
  | 0x42 => .endNow c.tag (c.body.bind parseOne)
  | 0x43 => .cancel c.tag (c.body.bind parseOne)
  | 0x48 => .logRead c.tag (c.body.bind parseNone)
  | 0x49 => .noticeSet c.tag (c.body.bind parseTwo)
  | _ => .unknownCommand c.tag c.code

end Sys2Proof
end

