-- ==== Sys2Proof/Machine/Layout.lean ====
section
/-!
DEFINITION. The bytes of chapter 12: numbers, samples, the CRC, the frames of the links, the management cells,
and the codings of values in results (Tables 12-1 to 12-9, R215 to R221).
-/

namespace Sys2Proof.Machine

/-! ### Numbers, most significant byte first -/

/-- A number in one byte. -/
def b1 (n : Nat) : List Byte := [BitVec.ofNat 8 n]

/-- A number in two bytes. -/
def b2 (n : Nat) : List Byte := b1 (n / 256) ++ b1 n

/-- A number in three bytes. -/
def b3 (n : Nat) : List Byte := b1 (n / 65536) ++ b2 n

/-- A number in four bytes. -/
def b4 (n : Nat) : List Byte := b2 (n / 65536) ++ b2 n

/-- A yes/no byte (Table 12-6). -/
def bBool (b : Bool) : List Byte := b1 (if b then 1 else 0)

/-- An optional two-byte value (Table 12-6). -/
def opt2 (x : Option Nat) : List Byte :=
  match x with
  | some n => b1 1 ++ b2 n
  | none => b1 0 ++ b2 0

/-- An optional three-byte value (Table 12-6). -/
def opt3 (x : Option Nat) : List Byte :=
  match x with
  | some n => b1 1 ++ b3 n
  | none => b1 0 ++ b3 0

/-- An optional four-byte value (Table 12-6). -/
def opt4 (x : Option Nat) : List Byte :=
  match x with
  | some n => b1 1 ++ b4 n
  | none => b1 0 ++ b4 0

/-- An index or 0xFF for absent (R220). -/
def orFF {k : Nat} (x : Option (Fin k)) : List Byte :=
  match x with
  | some i => b1 i.val
  | none => b1 255

/-- A list in a result: a count byte, then the items (Table 12-6). -/
def counted1 {α : Type} (l : List α) (f : α → List Byte) : List Byte := b1 l.length ++ l.flatMap f

/-- A string: its length, then its characters (Table 12-6). -/
def bText (t : Text) : List Byte := b1 t.length ++ t

/-- A room time in 6 bytes (Table 12-6). -/
def bTime (t : RoomTime) : List Byte :=
  b1 t.day ++ b1 t.hour ++ b1 t.minute ++ b1 t.second ++ b2 t.ms

/-- The byte that makes a sum of bytes 0 modulo 256 (R10, R18). -/
def checkByte (l : List Byte) : Byte := -(l.foldl (fun a b => a + b) 0)

/-! ### Samples -/

/-- A sample as 20 bits of two's complement (R215). -/
def sampleBits (x : Int) : Nat := (x % 1048576).toNat

/-- 20 bits of two's complement as a sample (R215). -/
def sampleOf (n : Nat) : Int := if n < 524288 then (n : Int) else (n : Int) - 1048576

/-- Two samples packed without a gap in 5 bytes (R215). -/
def packPair (x y : Int) : List Byte :=
  let n := sampleBits x * 1048576 + sampleBits y
  b1 (n / 4294967296) ++ b4 n

/-- Samples packed two by two (R215). -/
def packSamples : List Int → List Byte
  | x :: y :: l => packPair x y ++ packSamples l
  | _ => []

/-- 5 bytes as two samples (R215). -/
def unpackPair (a b c d e : Byte) : List Int :=
  let n := (((a.toNat * 256 + b.toNat) * 256 + c.toNat) * 256 + d.toNat) * 256 + e.toNat
  [sampleOf (n / 1048576), sampleOf (n % 1048576)]

/-- Packed samples read two by two (R215). -/
def unpackSamples : List Byte → List Int
  | a :: b :: c :: d :: e :: l => unpackPair a b c d e ++ unpackSamples l
  | _ => []

/-! ### CRC -/

/-- One bit of the CRC: polynomial x^16 + x^12 + x^5 + 1 (R218). -/
def crcBit (c : BitVec 16) (bit : Bool) : BitVec 16 :=
  if c.msb != bit then (c <<< 1) ^^^ 0x1021 else c <<< 1

/-- One byte of the CRC, most significant bit first (R218). -/
def crcByte (c : BitVec 16) (b : Byte) : BitVec 16 :=
  [7, 6, 5, 4, 3, 2, 1, 0].foldl (fun a i => crcBit a (b.getLsbD i)) c

/-- The CRC-16 of a run of bytes, from 0xFFFF, not inverted (R218). -/
def crc16 (l : List Byte) : BitVec 16 := l.foldl crcByte 0xFFFF

/-! ### Management cells -/

/-- The envelope of Table 12-4: header, body, fill to byte 509, CRC. -/
def envelope (kind : Nat) (tag code : Byte) (answer : Nat) (body : List Byte) : List Byte :=
  let front := b1 kind ++ [tag, code] ++ b1 answer ++ b2 body.length ++ body
  let whole := front ++ List.replicate (510 - front.length) 0
  whole ++ b2 (crc16 whole).toNat

/-- Answer codes (Table 12-4). -/
def answerByte (c : AnswerCode) : Nat :=
  match c with
  | .done => 0
  | .busy => 1
  | .unknown => 2
  | .range => 3
  | .state => 4
  | .occupied => 5
  | .conflict => 6
  | .space => 7
  | .empty => 8

/-- The five sources in bits 0..4: LOG, CLIP, LINK, DISPLAY, CLOCK (R220, Table 12-9). -/
def sourceBits (x : Sources) : Nat :=
  (if x.log then 1 else 0) + (if x.clip then 2 else 0) + (if x.link then 4 else 0) +
    (if x.display then 8 else 0) + (if x.clock then 16 else 0)

/-- The 512 bytes of an upstream cell (R218, Table 12-9). -/
def cellBytes (c : UpCell) : List Byte :=
  match c with
  | .empty => List.replicate 512 0
  | .answer a => envelope 2 a.tag a.code (answerByte a.answer) a.result
  | .notice n =>
    envelope 3 0 0 0
      (b1 (sourceBits n.summary) ++ b2 n.unread ++ opt2 (n.newest.map BitVec.toNat))

/-- The command cell in a downstream management cell, if it is one with a correct CRC (R199, R218, R219). -/
def commandCell? (l : List Byte) : Option CommandCell :=
  match l with
  | kind :: tag :: code :: _ :: h :: low :: rest =>
    if kind = 1 ∧ crc16 (l.take 510) = BitVec.ofNat 16 (be16 (l.getD 510 0) (l.getD 511 0)) then
      some { tag := tag, code := code
             body := if be16 h low ≤ 504 then some (rest.take (be16 h low)) else none }
    else none
  | _ => none

/-! ### Frames -/

/-- The sync pattern and the frame index (R215). -/
def frameHead (i : Fin 32) : List Byte := [0xB3, 0x6C] ++ b1 i.val

/-- A received frame is good: it arrived whole, with the sync pattern and the index of its partner (R6,
R215). -/
def goodFrame (len : Nat) (i : Fin 32) (l : List Byte) : Bool :=
  decide (l.length = len) && decide (l.getD 0 0 = 0xB3) && decide (l.getD 1 0 = 0x6C) &&
    decide ((l.getD 2 0).toNat % 32 = i.val)

/-- LED codes (Table 12-3). -/
def ledByte (x : Led) : Nat :=
  match x with
  | .off => 0
  | .on => 1
  | .request => 2
  | .warn => 3
  | .over => 4
  | .held => 5
  | .armed => 6
  | .refused => 7
  | .alert => 8

/-- Bytes 1..14 of a seat order (Table 12-3). -/
def fragmentBytes (f : Option Fragment) : List Byte :=
  match f with
  | none => List.replicate 14 0
  | some x =>
    b1 (x.line * 64 + x.runs.length) ++ b1 x.start ++ x.runs.flatMap (fun r => [r.1] ++ b1 r.2) ++
      List.replicate (12 - 2 * x.runs.length) 0

/-- The 16 bytes of a seat order (R217). -/
def orderBytes (o : SeatOrder) : List Byte :=
  let front := b1 ((if o.mute then 128 else 0) + ledByte o.led) ++ fragmentBytes o.fragment
  front ++ [checkByte front]

/-- The 99 bytes of an outgoing chain frame (Table 12-1). -/
def chainFrameBytes (f : ChainFrame) : List Byte :=
  frameHead f.index ++ packSamples f.samples.toList ++ orderBytes f.order

/-- The 520 bytes of an outgoing trunk frame (Table 12-1). -/
def trunkFrameBytes (f : TrunkFrame) : List Byte :=
  frameHead f.index ++ packPair f.floorBus f.farSend ++ cellBytes f.cell

/-- The fields of a seat report (Table 12-2). -/
structure Report where
  mic : Bool
  priority : Bool
  next : Bool
  volume : Nat
  deriving DecidableEq, Repr

/-- A seat report, if its three bytes sum to 0 and unit-present is set (R10, R216). -/
def report? (l : List Byte) : Option Report :=
  match l with
  | [a, b, c] =>
    if a + b + c = 0 ∧ a.getLsbD 7 = true then
      some { mic := a.getLsbD 2, priority := a.getLsbD 1, next := a.getLsbD 0,
             volume := b.toNat % 16 }
    else none
  | _ => none

/-! ### Codings of values (Table 12-6, R220) -/

/-- Table codes (R220). -/
def tableByte (t : TableName) : Nat :=
  match t with
  | .seat => 0
  | .name => 1
  | .gain0 => 2
  | .gain1 => 3
  | .nom => 4
  | .booking => 5
  | .idle => 6
  | .display => 7

/-- The cursor as table and index (12.2). -/
def cursorBytes (c : Cursor) : List Byte := b1 (tableByte c.table) ++ b1 c.index

/-- Role codes. -/
def roleByte (x : Role) : Nat :=
  match x with
  | .delegate => 0
  | .chair => 1
  | .listenOnly => 2

/-- Mode codes. -/
def modeByte (x : Mode) : Nat :=
  match x with
  | .direct => 0
  | .queued => 1
  | .overrideMode => 2
  | .voice => 3

/-- Limit action codes. -/
def actionByte (x : LimitAction) : Nat :=
  match x with
  | .close => 0
  | .notify => 1

/-- Floor state codes, in the order of R26. -/
def phaseByte (x : FloorState) : Nat :=
  match x with
  | .closed => 0
  | .running => 1
  | .hold => 2
  | .alert => 3

/-- How codes, in the order of R31. -/
def howByte (x : How) : Nat :=
  match x with
  | .press => 0
  | .grant => 1
  | .auto => 2
  | .voice => 3
  | .command => 4
  | .restore => 5

/-- Presence codes (R220). -/
def presenceByte (x : Presence) : Nat :=
  match x with
  | .absent => 0
  | .joining1 => 1
  | .joining2 => 2
  | .present => 3
  | .fading m => 4 + m.val

/-- The Floor Setup record in 12 bytes (12.2). -/
def setupBytes (f : FloorSetup) : List Byte :=
  b1 (modeByte f.mode) ++ b1 f.maxOpen ++ bBool f.autoAdvance ++ b2 (f.limit.getD 0) ++ b1 f.lead ++
    b1 (actionByte f.action) ++ b3 f.threshold ++ b2 f.hold

/-- One entry of a display plan. -/
def planBytes (p : PlanEntry) : List Byte := bBool p.used ++ b1 (p.input.val + 1)

/-- The 33 bytes of a booking's fixed part (Table 12-7). -/
def fixedBytes (f : Fixed) : List Byte :=
  b2 f.id ++ b2 f.start ++ b2 f.finish ++ b1 f.lead ++ b1 f.grace ++ b1 f.endWarn ++ bBool f.weekly ++
    b1 f.bank.val ++ orFF f.chair ++ orFF f.title ++ f.plan.toList.flatMap planBytes ++
    setupBytes f.setup

/-- State codes of a committed booking (Table 9-1: FREE 0 to DONE 6). -/
def stageByte (x : Stage) : Nat :=
  match x with
  | .pending => 2
  | .lead => 3
  | .active => 4
  | .ending => 5
  | .done => 6

/-- A SEAT entry (Table 12-7). -/
def seatEntryBytes (e : SeatEntry) : List Byte := b1 (roleByte e.role) ++ orFF e.name ++ bBool e.exempt

/-- An IDLE entry (Table 12-7). -/
def idleBytes (i : IdleSetup) : List Byte := bBool i.enabled ++ setupBytes i.setup ++ b1 i.bank.val

/-- A DISPLAY entry (Table 12-7). -/
def presetBytes (p : Preset) : List Byte := b2 p.period ++ b1 p.high ++ b1 p.warmUp ++ b2 p.coolDown

/-- A GET of a BOOKING slot (R160, 12.2). -/
def slotBytes (x : Slot) : List Byte :=
  match x with
  | .free => b1 0
  | .draft f items => b1 1 ++ fixedBytes f ++ b1 items.length ++ opt2 none ++ opt2 none
  | .committed st f items booked current =>
    b1 (stageByte st) ++ fixedBytes f ++ b1 items.length ++ opt2 (some booked) ++ opt2 (some current)

/-! ### Log records (Table 12-8) -/

/-- Codes of CANCEL reasons (Table 10-1). -/
def cancelByte (x : CancelReason) : Nat :=
  match x with
  | .press => 0
  | .command => 1
  | .lost => 2
  | .config => 3

/-- Codes of MIC_CLOSE reasons (Table 10-1). -/
def closeByte (x : CloseReason) : Nat :=
  match x with
  | .press => 0
  | .command => 1
  | .overridden => 2
  | .limit => 3
  | .lost => 4
  | .config => 5
  | .meeting => 6
  | .alert => 7
  | .setup => 8
  | .voiceHold => 9
  | .restoreFull => 10

/-- Codes of MEETING_START causes (Table 10-1). -/
def startByte (x : StartCause) : Nat :=
  match x with
  | .scheduled => 0
  | .late => 1
  | .idle => 2

/-- Codes of MEETING_END causes (Table 10-1). -/
def endByte (x : EndCause) : Nat :=
  match x with
  | .scheduled => 0
  | .endNow => 1
  | .cancel => 2
  | .clock => 3
  | .idle => 4

/-- Codes of the links (Table 10-1). -/
def linkByte (x : Link) : Nat :=
  match x with
  | .chainA => 0
  | .chainB => 1
  | .trunk => 2

/-- Kind and detail of a record, 0xFFFF when absent (Tables 10-1, 12-8). -/
def eventCode (x : LogEvent) : Nat × Nat :=
  match x with
  | .request p => (1, p)
  | .cancel r => (2, cancelByte r)
  | .micOpen h => (3, howByte h)
  | .micClose r => (4, closeByte r)
  | .queueCleared n => (5, n)
  | .warned n => (6, n)
  | .overtime n => (7, n)
  | .holdStart n => (8, n)
  | .holdEnd n => (9, n)
  | .alertOn n => (10, n)
  | .alertOff => (11, 0xFFFF)
  | .meetingStart c => (12, startByte c)
  | .meetingEnd c => (13, endByte c)
  | .bookingMissed k => (14, k.val)
  | .seatJoin => (15, 0xFFFF)
  | .seatLost => (16, 0xFFFF)
  | .chainLock l => (17, linkByte l)
  | .chainUnlock l => (18, linkByte l)
  | .clockSet m => (19, m)
  | .displayNocode k => (20, k.val)

/-- The body of a `DONE` answer to LOG READ (Table 12-8). -/
def recordBytes (r : LogRecord) (left : Nat) : List Byte :=
  b2 r.seq.toNat ++ bTime r.time ++ b1 (eventCode r.event).1 ++ orFF r.seat ++ opt2 r.booking ++
    b2 (eventCode r.event).2 ++ b1 0 ++ b2 left

end Sys2Proof.Machine
end

