-- ==== Sys2Proof/Machine/Port.lean ====
section
/-!
DEFINITION. The Command Port (chapter 11): arrival of a cell, the order of execution, answers, the upstream
management slot, and the cursor.
-/

namespace Sys2Proof.Machine

/-! ### Arrival -/

/-- The number of entries of a table (Table 11-2). -/
def tableSize (t : TableName) : Nat :=
  match t with
  | .seat => 64
  | .name => 128
  | .gain0 => 65
  | .gain1 => 65
  | .nom => 8
  | .booking => 16
  | .idle => 1
  | .display => 4

/-- What a GET or PUT answer begins with: the table, the index acted at (0xFF past the end), and the cursor
after the command (12.2). -/
def actedAt (before after : Cursor) : List Byte :=
  b1 (tableByte before.table) ++
    b1 (if before.index < tableSize before.table then before.index else 255) ++ cursorBytes after

/-- The result of a `BUSY` at arrival: the cursor for SELECT, GET and PUT, and otherwise none (R203,
notes/assumptions/26.md). -/
def busyResult (code : Byte) (c : Cursor) : List Byte :=
  if code = 0x01 then cursorBytes c else if code = 0x02 ∨ code = 0x03 then actedAt c c else []

/-- A command cell offered to the Command FIFO (R200). -/
def offerCell (c : CommandCell) (s : State) : State :=
  if s.port.fifo.length < 8 then s.withPort { s.port with fifo := s.port.fifo ++ [c] }
  else if s.port.answers.length < 8 then
    placeAnswer { tag := c.tag, code := c.code, answer := .busy
                  result := busyResult c.code s.port.cursor } s
  else s

/-- The management cell that has arrived is taken: a command cell with a correct CRC is offered, any other is
ignored or discarded (R199, R219). -/
def takeCell (s : State) : State :=
  match s.port.arrived with
  | none => s
  | some cell =>
    let t := s.withPort { s.port with arrived := none }
    match commandCell? cell with
    | some c => offerCell c t
    | none => t

/-! ### Execution -/

/-- The state in which a command is executed: the Answer FIFO has room, and the command leaves the head of the
Command FIFO. None when it must wait or is not the head's command. A command that comes with the FIFO empty
arrives and is executed at once; on an UNLOCKED trunk it is discarded (R9, R201). DESIGN CHOICE: it is executed so also
while a received cell still waits for its COMMAND_CELL_ARRIVAL (notes/assumptions/8.md). -/
def takeCommand (i : Instr) (s : State) : Option State :=
  if s.port.answers.length < 8 then
    match s.port.fifo with
    | [] => if s.links.trunk.locked then some s else none
    | c :: rest =>
      if commandOf s.port.cursor.table c = i then some (s.withPort { s.port with fifo := rest })
      else none
  else none

/-- One execution: the owner acts, and the answer joins the tail of the Answer FIFO (R201). -/
def runCommand (i : Instr) (tag code : Byte) (act : State → Reply) (s : State) : State :=
  match takeCommand i s with
  | none => s
  | some t =>
    let r := act t
    placeAnswer { tag := tag, code := code, answer := r.code, result := r.result } r.state

/-- Parameters without the command's form are refused with `RANGE` and change nothing (R204). -/
def withForm {α : Type} (p : Option α) (act : α → State → Reply) (s : State) : Reply :=
  match p with
  | some x => act x s
  | none => refusal .range s

/-! ### The cursor -/

/-- The cursor replaced. -/
def setCursor (c : Cursor) (s : State) : State := s.withPort { s.port with cursor := c }

/-- The index of the cursor one further (R207, R208). -/
def advanceCursor (s : State) : State :=
  setCursor { s.port.cursor with index := s.port.cursor.index + 1 } s

/-- SELECT with its parameters in form (R206). -/
def selectCursor (table : TableName) (index : Nat) (s : State) : Reply :=
  if index < tableSize table then
    { state := setCursor { table := table, index := index } s, code := .done
      result := cursorBytes { table := table, index := index } }
  else { state := s, code := .range, result := cursorBytes s.port.cursor }

/-- GET (R207). `entry`: the bytes of the entry at an index of the cursor's table. -/
def getAtCursor (entry : State → Nat → List Byte) (s : State) : Reply :=
  let c := s.port.cursor
  if c.index < tableSize c.table then
    let t := advanceCursor s
    { state := t, code := .done, result := actedAt c t.port.cursor ++ entry s c.index }
  else { state := s, code := .range, result := actedAt c c }

/-- PUT with a table's entry form (R208). A form that is not the cursor's table's changes nothing, and past the
end nothing is stored; otherwise the owner stores or refuses, and the cursor advances. -/
def putAtCursor {α : Type} (ofTable : TableName → Bool) (p : Option α)
    (store : TableName → Nat → α → State → Reply) (s : State) : Reply :=
  let c := s.port.cursor
  match p with
  | none => { state := s, code := .range, result := actedAt c c }
  | some x =>
    if ofTable c.table then
      if c.index < tableSize c.table then
        let r := store c.table c.index x s
        let t := advanceCursor r.state
        { state := t, code := r.code, result := actedAt c t.port.cursor }
      else { state := s, code := .range, result := actedAt c c }
    else { state := s, code := .range, result := actedAt c c }

/-! ### The upstream slot -/

/-- The notice cell of this moment (R195). -/
def noticeNow (s : State) : Notice :=
  { summary := s.notices.summary, unread := s.log.unread
    newest := s.log.ring.getLast?.map LogRecord.seq }

/-- The upstream slot of the coming frame is filled. -/
def fillSlot (c : UpCell) (s : State) : State := s.withPort { s.port with slot := some c }

/-- ANSWER_SENT: the oldest answer leaves in the slot of a LOCKED trunk, if the slot is not yet filled (R195,
R202). -/
def sendAnswer (s : State) : State :=
  match s.port.slot, s.port.answers with
  | none, a :: rest =>
    if s.links.trunk.locked then fillSlot (.answer a) (s.withPort { s.port with answers := rest })
    else s
  | _, _ => s

/-- NOTICE_SENT: with no answer waiting and the flag set, a notice cell fills the slot and the flag clears
(R195). -/
def sendNotice (s : State) : State :=
  match s.port.slot, s.port.answers with
  | none, [] =>
    if s.links.trunk.locked && s.notices.pending then
      fillSlot (.notice (noticeNow s)) (s.withNotices { s.notices with pending := false })
    else s
  | _, _ => s

/-- The trunk becomes UNLOCKED before the slot that was filled is sent: its answer waits again at the head of the
Answer FIFO, its notice is pending again (R9, R202, notes/assumptions/12.md). -/
def releaseSlot (s : State) : State :=
  match s.port.slot with
  | none => s
  | some (.answer a) =>
    if s.port.answers.length < 8 then
      s.withPort { s.port with answers := a :: s.port.answers, slot := none }
    else s
  | some (.notice _) =>
    (s.withPort { s.port with slot := none }).withNotices { s.notices with pending := true }
  | some .empty => s.withPort { s.port with slot := none }

/-- The upstream slot of a frame: on a LOCKED trunk the answer, the notice or the empty cell; on an UNLOCKED
one the empty cell, with everything else waiting (R9, R195). -/
def takeSlot (s : State) : UpCell × State :=
  if s.links.trunk.locked then
    let t := sendNotice (sendAnswer s)
    (t.port.slot.getD .empty, t.withPort { t.port with slot := none })
  else (.empty, s)

end Sys2Proof.Machine
end

