-- ==== Sys2Proof/Machine/Screens.lean ====
section
/-!
DEFINITION. The Screen Composer (chapter 7): the wanted image of a seat, and the fragment engine.
-/

namespace Sys2Proof.Machine

/-- A text written as characters. -/
def chars (l : List Char) : Text := l.map (fun c => BitVec.ofNat 8 c.toNat)

/-- One decimal digit. -/
def digit (n : Nat) : Byte := BitVec.ofNat 8 (48 + n % 10)

/-- A number of at most `k` digits in decimal without leading zeros (R125). -/
def decimalUpTo : Nat → Nat → Text
  | 0, _ => []
  | k + 1, n => if n < 10 then [digit n] else decimalUpTo k (n / 10) ++ [digit n]

/-- A number in decimal without leading zeros (R125). -/
def decimal (n : Nat) : Text := decimalUpTo 6 n

/-- A number as two decimal digits. -/
def twoDigits (n : Nat) : Text := [digit (n / 10), digit n]

/-- mm:ss of a number of seconds, at most 99:59 (R125). -/
def clockText (t : Nat) : Text :=
  let u := min t 5999
  twoDigits (u / 60) ++ chars [':'] ++ twoDigits (u % 60)

/-- A text written from column 0 and followed by spaces up to column 23 (R123, R124). -/
def padLine (t : Text) : List Byte := (t ++ List.replicate 24 0x20).take 24

/-! ### Line 1 -/

/-- Where the shown name comes from (R123). -/
inductive NameSource
  | assigned | standing | default
  deriving DecidableEq, Repr

/-- The slot of the current meeting, if it is a booking. -/
def currentSlot (s : State) : Option Slot :=
  match s.floor.meeting with
  | .booking k _ _ => some (look s.sched.slots k)
  | _ => none

/-- The name index that the current booking assigns to a seat (R123 row 1). -/
def assignedName (s : State) (n : Seat) : Option NameNo :=
  match currentSlot s with
  | some x => ((slotItems x).find? (fun i => decide (i.seat = n))).map Item.name
  | none => none

/-- The shown name of a seat and its source (R123). -/
def shownName (s : State) (n : Seat) : Text × NameSource :=
  match assignedName s n, (look s.seatTable n).name with
  | some k, _ => (look s.screens.names k, .assigned)
  | none, some k => (look s.screens.names k, .standing)
  | none, none => (chars ['S', 'e', 'a', 't', ' '] ++ twoDigits n.val, .default)

/-- Line 1 of the wanted image (R123). -/
def wantedLine1 (s : State) (n : Seat) : List Byte := padLine (shownName s n).1

/-! ### Line 2 -/

/-- N of "Ends in N min", when the current meeting is a booking in state ENDING (R124 row 9, R125). DESIGN CHOICE:
N is counted against the room time even while a minute boundary at the current end waits to be taken
(notes/assumptions/17.md). -/
def endsIn (s : State) : Option Nat :=
  match currentSlot s with
  | some (.committed .ending _ _ _ current) =>
    some ((current * 60000 - weekMs s.clock.time + 59999) / 60000)
  | _ => none

/-- The title index of the current booking (R124 row 12). -/
def currentTitle (s : State) : Option NameNo :=
  match currentSlot s with
  | some x => (slotFixed x).bind Fixed.title
  | none => none

/-- The text of an OPEN seat (R124 rows 5 to 7, R125). -/
def openText (t : Timer) : Text :=
  if t.overtime then chars ['O', 'v', 'e', 'r', ' ', 't', 'i', 'm', 'e', ' '] ++ clockText (t.elapsed / 1000)
  else if t.warned then
    chars ['L', 'e', 'f', 't', ' '] ++ clockText ((t.limit.getD 0 - t.elapsed + 999) / 1000)
  else chars ['S', 'p', 'e', 'a', 'k', 'i', 'n', 'g', ' '] ++ clockText (t.elapsed / 1000)

/-- Rows 9 to 13 of R124. -/
def restText (s : State) (n : Seat) : Text :=
  match endsIn s with
  | some k => chars ['E', 'n', 'd', 's', ' ', 'i', 'n', ' '] ++ decimal k ++ chars [' ', 'm', 'i', 'n']
  | none =>
    if micState s.floor n = .armed then
      chars ['V', 'o', 'i', 'c', 'e', ' ', 'a', 'r', 'm', 'e', 'd']
    else if effectiveRole s n = .chair ∧
        (s.floor.setup.mode = .direct ∨ s.floor.setup.mode = .queued) then
      chars ['R', 'e', 'q', 'u', 'e', 's', 't', 's', ':', ' '] ++ decimal s.floor.queue.length
    else
      match currentTitle s with
      | some k => look s.screens.names k
      | none => []

/-- Rows 4 to 13 of R124. -/
def micText (s : State) (n : Seat) : Text :=
  match micState s.floor n with
  | .held => chars ['C', 'h', 'a', 'i', 'r', ' ', 'p', 'r', 'i', 'o', 'r', 'i', 't', 'y']
  | .opened =>
    match openTimer s.floor n with
    | some t => openText t
    | none => []
  | .waiting =>
    chars ['Q', 'u', 'e', 'u', 'e', ' '] ++ decimal (queuePos n s.floor.queue) ++
      chars [' ', 'o', 'f', ' '] ++ decimal s.floor.queue.length
  | _ => restText s n
where
  /-- The position of a seat in the queue, counted from 1 at the head (R125). -/
  queuePos (n : Seat) (q : List Request) : Nat := q.findIdx (fun e => decide (e.seat = n)) + 1

/-- The text of line 2 (R124). -/
def line2Text (s : State) (n : Seat) : Text :=
  if s.floor.phase = .alert then
    chars ['A', 'L', 'E', 'R', 'T', ' ', '-', ' ', 'P', 'L', 'E', 'A', 'S', 'E', ' ', 'L', 'I', 'S', 'T',
      'E', 'N']
  else
    match look s.screens.messages n with
    | some m => m.text
    | none =>
      if s.floor.phase = .closed then
        chars ['N', 'o', ' ', 'm', 'e', 'e', 't', 'i', 'n', 'g']
      else micText s n

/-- Line 2 of the wanted image (R124). -/
def wantedLine2 (s : State) (n : Seat) : List Byte := padLine (line2Text s n)

/-! ### The fragment engine -/

/-- Which positions of a line differ: unknown, or another character (R129). -/
def differs (wanted : List Byte) (shown : List (Option Byte)) : List Bool :=
  List.zipWith (fun w x => decide (x ≠ some w)) wanted shown

/-- The runs of a text: greatest stretches of neighbouring equal characters (R130). -/
def runsOf : List Byte → List (Byte × Nat)
  | [] => []
  | b :: l =>
    match runsOf l with
    | [] => [(b, 1)]
    | (c, k) :: r => if c = b then (c, k + 1) :: r else (b, 1) :: (c, k) :: r

/-- How many positions up to and including the last that is set; 0 when none is. -/
def spanToLast : List Bool → Nat
  | [] => 0
  | b :: l => if spanToLast l = 0 then (if b then 1 else 0) else spanToLast l + 1

/-- The start column and the number of columns of the fragment of a line, if a position differs (R129,
R130). -/
def fragmentSpan (wanted : List Byte) (shown : List (Option Byte)) : Option (Nat × Nat) :=
  let d := differs wanted shown
  match d.findIdx? (fun b => b) with
  | none => none
  | some start =>
    let reach := (((runsOf (wanted.drop start)).take 6).map Prod.snd).sum
    some (start, spanToLast ((d.drop start).take reach))

/-- The fragment that carries a span of a line (R130). -/
def spanFragment (line : Nat) (wanted : List Byte) (span : Nat × Nat) : Fragment :=
  { line := line, start := span.1, runs := runsOf ((wanted.drop span.1).take span.2) }

/-- A shown line after the delivery of a span (R131). -/
def deliverSpan (wanted : List Byte) (span : Nat × Nat) (shown : Vector (Option Byte) 24) :
    Vector (Option Byte) 24 :=
  Vector.ofFn (fun i =>
    if span.1 ≤ i.val ∧ i.val < span.1 + span.2 then wanted[i.val]? else look shown i)

/-- The fragment that the Screen Composer chooses for a seat, and the shown image once it is delivered (R129 to
R131). -/
def nextFragment (s : State) (n : Seat) : Option (Fragment × Shown) :=
  let shown := look s.screens.shown n
  let w1 := wantedLine1 s n
  let w2 := wantedLine2 s n
  match fragmentSpan w1 shown.line1.toList with
  | some span =>
    some (spanFragment 1 w1 span, { shown with line1 := deliverSpan w1 span shown.line1 })
  | none =>
    match fragmentSpan w2 shown.line2.toList with
    | some span =>
      some (spanFragment 2 w2 span, { shown with line2 := deliverSpan w2 span shown.line2 })
    | none => none

/-- The number of positions at which the shown image differs from the wanted image (R134). -/
def differingPositions (s : State) (n : Seat) : Nat :=
  let shown := look s.screens.shown n
  (differs (wantedLine1 s n) shown.line1.toList).count true +
    (differs (wantedLine2 s n) shown.line2.toList).count true

/-- A seat's shown image replaced. -/
def setShown (n : Seat) (x : Shown) (s : State) : State :=
  s.withScreens { s.screens with shown := upd s.screens.shown n x }

/-- A seat's message slot replaced. -/
def setMessage (n : Seat) (m : Option Message) (s : State) : State :=
  s.withScreens { s.screens with messages := upd s.screens.messages n m }

end Sys2Proof.Machine
end

