-- ==== Sys2Proof/Machine/Chains.lean ====
section
/-!
DEFINITION. The Chain Ports and the trunk toward the part (chapter 1): frames good and bad, lock runs, seat
reports, presence, button filters and volume steps.
-/

namespace Sys2Proof.Machine

/-! ### Lock -/

/-- The run counts at the end of a superframe, and whether the lock state is to change (R7). -/
def judgeLink (l : LinkState) : LinkState :=
  let done := { l with sfBad := false }
  if l.locked then
    if l.sfBad then (if l.badRun = 0 then { done with badRun := 1 } else { done with change := true })
    else { done with badRun := 0 }
  else
    if l.sfBad then { done with goodRun := 0 }
    else if l.goodRun < 3 then { done with goodRun := l.goodRun + 1 }
    else { done with change := true }

/-- A link after a change of lock state: both counts 0 (R7). -/
def lockTo (locked : Bool) (l : LinkState) : LinkState :=
  { l with locked := locked, goodRun := 0, badRun := 0, change := false }

/-- A link's change of lock state, with its record and the LINK source; a trunk that unlocks gives back the
upstream slot (R7, R9). DESIGN CHOICE: a cell that a good frame of the LOCKED trunk has brought still waits and is placed
(notes/assumptions/11.md). -/
def changeLock (link : Link) (s : State) : State :=
  let l := linkState s.links link
  let u := s.withLinks (setLink s.links link (lockTo (!l.locked) l))
  let t := record (if l.locked then .chainUnlock link else .chainLock link) none
    (if link = .trunk ∧ l.locked = true then releaseSlot u else u)
  t.withNotices (raiseLink t.notices)

/-- The change that a link owes, if it owes one. -/
def settleLink (link : Link) (s : State) : State :=
  if (linkState s.links link).change then changeLock link s else s

/-! ### Buttons -/

/-- The filter of one button of a seat (R14). -/
def buttonOf (u : SeatUnit) (b : ButtonName) : Button :=
  match b with
  | .mic => u.mic
  | .priority => u.priority
  | .next => u.next

/-- A seat unit with one button's filter replaced. -/
def withButton (u : SeatUnit) (b : ButtonName) (x : Button) : SeatUnit :=
  match b with
  | .mic => { u with mic := x }
  | .priority => { u with priority := x }
  | .next => { u with next := x }

/-- The raw level of one button in a report (R10). -/
def rawLevel (r : Report) (b : ButtonName) : Bool :=
  match b with
  | .mic => r.mic
  | .priority => r.priority
  | .next => r.next

/-- A sample taken by the filter, and the stamp of the event if one is produced (R15, R16). -/
def filterButton (now : Stamp) (level : Bool) (x : Button) : Button × Option Stamp :=
  if level = x.pressed then ({ x with run := 0 }, none)
  else if x.run = 0 then ({ x with run := 1, stamp := now }, none)
  else if x.run = 1 then ({ x with run := 2 }, none)
  else ({ x with pressed := level, run := 0 }, some x.stamp)

/-- One button of a report: its sample, and the event handed to the Floor Controller (R15, R16). -/
def sampleButton (n : Seat) (r : Report) (s : State) (b : ButtonName) : State :=
  let u := look s.seats n
  let out := filterButton s.time.stamp (rawLevel r b) (buttonOf u b)
  let t := setSeat n (withButton u b out.1) s
  match out.2 with
  | none => t
  | some stamp => buttonEvent b (rawLevel r b) n stamp t

/-! ### Presence -/

/-- A button whose filtered level is a report's raw level (R12). -/
def baseline (x : Button) (level : Bool) : Button := { x with pressed := level, run := 0 }

/-- A seat's presence state replaced. -/
def setPresence (n : Seat) (p : Presence) (s : State) : State :=
  setSeat n { look s.seats n with presence := p } s

/-- A seat becomes PRESENT from JOINING(2) (R12). -/
def seatJoins (n : Seat) (r : Report) (s : State) : State :=
  let u := look s.seats n
  record .seatJoin (some n)
    (setShown n .unknown
      (setSeat n
        { u with presence := .present, mic := baseline u.mic r.mic
                 priority := baseline u.priority r.priority, next := baseline u.next r.next } s))

/-- A seat is lost: it is ABSENT, the floor takes it out, SEAT_LOST is appended, and its buttons and REFUSED
timer are cleared (R13). -/
def seatIsLost (n : Seat) (s : State) : State :=
  let t := record .seatLost (some n) (floorSeatLost n (setPresence n .absent s))
  setSeat n
    { look t.seats n with mic := .released, priority := .released, next := .released, refused := 0 } t

/-- The presence transition of a missing report (R11). -/
def missingReport (n : Seat) (s : State) : State :=
  match presenceOf s n with
  | .absent => s
  | .joining1 => setPresence n .absent s
  | .joining2 => setPresence n .absent s
  | .present => setPresence n (.fading 0) s
  | .fading m =>
    if h : m.val < 6 then setPresence n (.fading ⟨m.val + 1, by omega⟩) s else seatIsLost n s

/-- The button samples of a report, in the order MIC, PRIORITY, NEXT (R15, R16). -/
def sampleButtons (n : Seat) (r : Report) (s : State) : State :=
  [ButtonName.mic, .priority, .next].foldl (sampleButton n r) s

/-- The volume step of a valid report (R17). -/
def setVolume (n : Seat) (v : Nat) (s : State) : State :=
  setSeat n { look s.seats n with volume := v } s

/-- A valid report: the presence transition, the button samples and the volume step (R10, R11). In JOINING the
samples are discarded, since R12 sets the baseline (R15, notes/assumptions/13.md). -/
def validReport (n : Seat) (r : Report) (s : State) : State :=
  setVolume n r.volume
    (match presenceOf s n with
     | .absent => setPresence n .joining1 s
     | .joining1 => setPresence n .joining2 s
     | .joining2 => seatJoins n r s
     | .present => sampleButtons n r s
     | .fading _ => sampleButtons n r (setPresence n .present s))

/-- The report of one position, valid or missing (R10). -/
def takeReport (n : Seat) (r : Option Report) (s : State) : State :=
  match r with
  | some x => validReport n x s
  | none => missingReport n s

/-! ### Incoming frames -/

/-- The index of the outgoing frame that an incoming frame partners: the last one sent. DESIGN CHOICE: an incoming
frame before the first outgoing frame is judged against index 31 (R6, notes/assumptions/9.md). -/
def partnerIndex (s : State) : Fin 32 := s.time.frame - 1

/-- A bad frame makes the superframe bad (R6). A frame period without a row notes nothing: the sender owes one row
per link and frame (notes/assumptions/9.md). -/
def noteFrame (link : Link) (good : Bool) (s : State) : State :=
  let l := linkState s.links link
  s.withLinks (setLink s.links link { l with sfBad := l.sfBad || !good })

/-- Frame 31 ends the superframe on the link (R7). -/
def endLink (link : Link) (s : State) : State :=
  if partnerIndex s = 31 then
    s.withLinks (setLink s.links link (judgeLink (linkState s.links link)))
  else s

/-- The microphone samples of a chain's frame are taken; 0 if the frame is bad or the chain UNLOCKED (R6,
R8). -/
def takeMics (link : Link) (usable : Bool) (bytes : List Byte) (s : State) : State :=
  let xs := unpackSamples ((bytes.drop 3).take 80)
  s.withAudio
    { s.audio with
      mic := Vector.ofFn (fun n : Seat =>
        if chainOf n = link then (if usable then xs.getD (n.val % 32) 0 else 0)
        else look s.audio.mic n) }

/-- An incoming frame on a chain (R4, R6, R8, R10). -/
def chainFrameIn (link : Link) (bytes : List Byte) (s : State) : State :=
  let good := goodFrame 86 (partnerIndex s) bytes
  let usable := good && (linkState s.links link).locked
  let t := takeMics link usable bytes (noteFrame link good s)
  endLink link
    (takeReport (seatAt link (partnerIndex s)) (if usable then report? (bytes.drop 83) else none) t)

/-- An incoming frame on the trunk (R5, R6, R9). The management cell waits for COMMAND_CELL_ARRIVAL. -/
def trunkFrameIn (bytes : List Byte) (s : State) : State :=
  let good := goodFrame 520 (partnerIndex s) bytes
  let usable := good && s.links.trunk.locked
  let xs := unpackSamples ((bytes.drop 3).take 5)
  let t := noteFrame .trunk good s
  let u := t.withAudio
    { t.audio with far := if usable then xs.getD 0 0 else 0
                   announce := if usable then xs.getD 1 0 else 0 }
  endLink .trunk
    (u.withPort { u.port with arrived := if usable then some (bytes.drop 8) else none })

end Sys2Proof.Machine
end

