-- ==== Sys2Proof/Machine/Voice.lean ====
section
/-!
DEFINITION. The Voice Gate (chapter 6): peaks and meters, the evaluation of the voice filters, and the reports
to the Floor Controller.
-/

namespace Sys2Proof.Machine

/-- The level of a sample (R2). -/
def level (x : Int) : Nat := min 524287 x.natAbs

/-! ### Peaks and meters -/

/-- The sample that one computation hands over for an input (R103, R106). -/
def gateSample (s : State) (i : MeterNo) : Int :=
  if h : i.val < 64 then micSample s ⟨i.val, h⟩ else if i.val = 64 then floorBus s else farSend s

/-- The peaks being formed take the samples of one computation (R106). -/
def observe (s : State) : State :=
  s.withGate
    { s.gate with
      forming := Vector.ofFn (fun i => max (look s.gate.forming i) (level (gateSample s i))) }

/-- The peaks of a superframe complete: they become the last peaks, and the meters take any larger peak (R106,
R107). -/
def completePeaks (s : State) : State :=
  s.withGate
    { s.gate with
      lastPeak := s.gate.forming
      meters := Vector.ofFn (fun i => max (look s.gate.meters i) (look s.gate.forming i))
      forming := Vector.replicate 66 0 }

/-- The copies of the voice threshold and the voice hold at a superframe start (R111). -/
def copyThreshold (s : State) : State :=
  s.withGate { s.gate with threshold := s.floor.setup.threshold, hold := s.floor.setup.hold }

/-! ### Evaluation -/

/-- One filter moved by the completed peak of superframe `e.stamp` (R111). -/
def moveFilter (e : VoiceDue) (peak : Nat) (f : VoiceFilter) : VoiceFilter :=
  if f.present then
    if e.threshold ≤ peak then { f with hold := e.hold }
    else if f.hold ≤ 1 then { f with present := false, run := 0, hold := 0 }
    else { f with hold := f.hold - 1 }
  else if e.threshold ≤ peak then
    if f.run = 0 then { f with run := 1, runStamp := e.stamp }
    else if f.run = 1 then { f with run := 2 }
    else { f with present := true, start := f.runStamp, run := 0, hold := e.hold }
  else { f with run := 0 }

/-- The report that a move of a filter makes, if any (R111, R113, R114). -/
def reportOf (n : Seat) (old new : VoiceFilter) : Option VoiceReport :=
  if old.present = new.present then none else some { seat := n, started := new.present }

/-- The filter of a seat after the evaluation: moved if the seat is in the filtered set (R111). -/
def evaluated (s : State) (e : VoiceDue) (n : Seat) : VoiceFilter :=
  let f := look s.gate.filters n
  if inFilteredSet s n then moveFilter e (look s.gate.lastPeak ⟨n.val, by omega⟩) f else f

/-- The evaluation of every filter; the reports wait in ascending seat number (R111, R113). -/
def evaluate (e : VoiceDue) (s : State) : State :=
  let reports := allSeats.filterMap (fun n => reportOf n (look s.gate.filters n) (evaluated s e n))
  (s.withGate { s.gate with filters := Vector.ofFn (evaluated s e) }).withDue
    { s.due with voice := none, reports := s.due.reports ++ reports }

/-! ### Reports -/

/-- A presence start taken by the Floor Controller (R113). -/
def presenceStarts (n : Seat) (s : State) : State :=
  if s.floor.phase = .running ∧ micState s.floor n = .armed then afterFloor s else s

/-- A presence end taken by the Floor Controller (R114). A seat that has left the filtered set, or whose
presence is true again, makes no report (R110). -/
def presenceEnds (n : Seat) (s : State) : State :=
  if s.floor.phase = .running ∧ micState s.floor n = .opened ∧ inFilteredSet s n = true ∧
      (look s.gate.filters n).present = false then
    afterFloor (closeVoiceHold n s)
  else s

/-- The first waiting report is handed over (R113). -/
def handOne (r : VoiceReport) (s : State) : State :=
  if r.started then presenceStarts r.seat s else presenceEnds r.seat s

/-- Presence starts are handed over up to the first presence end, which PRESENCE_END takes (R113, R114,
notes/assumptions/16.md). -/
def handStarts : List VoiceReport → State → State
  | [], s => s.withDue { s.due with reports := [] }
  | r :: rest, s =>
    if r.started then handStarts rest (presenceStarts r.seat s)
    else s.withDue { s.due with reports := r :: rest }

/-- Every waiting report is handed over (R113). -/
def handAll (s : State) : State :=
  s.due.reports.foldl (fun t r => handOne r t) (s.withDue { s.due with reports := [] })

/-- The voice evaluation that is due, with the presence starts up to the first end (R111, R113). -/
def voiceEvaluate (s : State) : State :=
  match s.due.voice with
  | none => s
  | some e =>
    let t := evaluate e s
    handStarts t.due.reports t

/-- All that the Voice Gate still owes: the evaluation and every report. -/
def settleVoice (s : State) : State :=
  match s.due.voice with
  | none => handAll s
  | some e => handAll (evaluate e (handAll s))

end Sys2Proof.Machine
end

