-- ==== Sys2Proof/Machine/Frames.lean ====
section
/-!
DEFINITION. The rows of the time base: incoming and outgoing frames, superframe starts and ends, and what the
state still owes when they come (R4, R6, R86, R106; notes/assumptions/6.md).
-/

namespace Sys2Proof.Machine

/-! ### Expiries at a superframe end -/

/-- A REFUSED timer whose last count is due becomes 0 (R19). -/
def expireRefused (n : Seat) (s : State) : State :=
  if s.due.refused.contains n && decide ((look s.seats n).refused = 1) then
    setSeat n { look s.seats n with refused := 0 }
      (s.withDue { s.due with refused := eraseSeat n s.due.refused })
  else s

/-- A message slot whose last count is due empties (R126). -/
def expireMessage (n : Seat) (s : State) : State :=
  match look s.screens.messages n with
  | some m =>
    if s.due.messages.contains n && decide (m.left = some 1) then
      setMessage n none (s.withDue { s.due with messages := eraseSeat n s.due.messages })
    else s
  | none => s

/-- A display's timer stands at its last count, due now (R146). -/
def displayDue (d : DisplayNo) (s : State) : Bool :=
  s.due.displays.contains d && decide ((displayRecord s d).timer = 1)

/-- A display taken out of the displays whose last count is due. -/
def dropDisplay (d : DisplayNo) (s : State) : State :=
  s.withDue { s.due with displays := s.due.displays.filter (fun e => decide (e ≠ d)) }

/-- The warm expiry of a display, and what the idle emitter takes at once (R144, R149). -/
def expireWarm (d : DisplayNo) (s : State) : State :=
  if displayDue d s && decide ((displayRecord s d).state = .warming) then
    emit (warmExpired d (dropDisplay d s))
  else s

/-- The cool expiry of a display, and what the idle emitter takes at once (R147, R149). -/
def expireCool (d : DisplayNo) (s : State) : State :=
  if displayDue d s && decide ((displayRecord s d).state = .cooling) then
    emit (coolExpired d (dropDisplay d s))
  else s

/-- One step of a quiet count below 32; the step that reaches 32 tests the quiet timeout (R193). -/
def quietStep (x : Notices) (unread : Nat) : Notices :=
  { x with
    quiet := x.quiet + 1
    pending := x.pending || (decide (x.quiet = 31) && x.mask.log && decide (0 < unread)) }

/-- The step of the quiet count that a superframe end owes; a count of 32 stays (R193). DESIGN CHOICE: a clock row takes
it behind all else it takes, so a record of the superframe that ended, appended late, has its step at that end
(notes/assumptions/6.md). -/
def settleQuiet (s : State) : State :=
  if s.due.quiet then
    (s.withNotices (if s.notices.quiet < 32 then quietStep s.notices s.log.unread else s.notices)).withDue
      { s.due with quiet := false }
  else s

/-- The quiet timeout: the owed step takes the count from 31 to 32 (R193). -/
def quietTimeout (s : State) : State := if s.notices.quiet = 31 then settleQuiet s else s

/-- Every expiry still due; a mark whose count has been set anew falls away. DESIGN CHOICE: of displays whose timers
expire at one superframe end, the lower is taken first (R146 gives no order; notes/assumptions/6.md). -/
def settleExpiries (s : State) : State :=
  let s1 := s.due.refused.foldl (fun t n => expireRefused n t) s
  let s2 := s1.due.messages.foldl (fun t n => expireMessage n t) s1
  let s3 := s2.due.displays.foldl (fun t d => expireCool d (expireWarm d t)) s2
  s3.withDue { s3.due with refused := [], messages := [], displays := [] }

/-- Every change of lock state still owed (R7). DESIGN CHOICE: Chain A, Chain B, then the trunk, which shows in the log
(R188, notes/assumptions/6.md). -/
def settleLinks (s : State) : State := settleLink .trunk (settleLink .chainB (settleLink .chainA s))

/-- What is owed before a superframe starts: all but the Voice Gate's evaluation (R117). The counts of the timers come
first and the step of the quiet count last: both belong to the superframe that ends (R84, R193). -/
def settleStart (s : State) : State :=
  settleQuiet (settleEmitter (settleExpiries (settleLinks (takeBoundary (takeCounts s)))))

/-- What is owed before a superframe ends. The counts of the timers stay owed, since the events at that end may come
before them (R84, R117, notes/assumptions/15.md). -/
def settleEnd (s : State) : State :=
  settleQuiet (settleEmitter (settleVoice (settleExpiries (settleLinks (takeBoundary s)))))

/-- What is owed before a frame is sent: the lock states hold from frame 0 on (R7), and the expiries and the minute
boundary belong to the superframe boundary behind it (R146, R156). The counts of the timers stay owed, since any
event of the superframe may come before them (R84, notes/assumptions/15.md). -/
def settleFrame (s : State) : State :=
  settleQuiet (settleEmitter (takeBoundary (settleExpiries (settleLinks s))))

/-! ### Superframe end -/

/-- One count of a counter that expires: above 1 it falls; at 1 its last count becomes due. -/
def countDown (n : Nat) : Nat := if 1 < n then n - 1 else n

/-- A message's remaining time after one count (R126). -/
def countMessage (m : Option Message) : Option Message :=
  m.map (fun x => { x with left := x.left.map countDown })

/-- The message slot's last count is due. -/
def messageDue (m : Option Message) : Bool :=
  match m with
  | some x => decide (x.left = some 1)
  | none => false

/-- The counters that fall at a superframe end: REFUSED timers (R19), messages (R126) and display timers (R146). The
step of the quiet count comes due (R193). -/
def countSuperframe (s : State) : State :=
  let due : Due :=
    { s.due with
      refused := allSeats.filter (fun n => decide ((look s.seats n).refused = 1))
      messages := allSeats.filter (fun n => messageDue (look s.screens.messages n))
      displays := allDisplays.filter (fun d => decide ((look s.displays.records d).timer = 1))
      quiet := true }
  (((s.withSeats (s.seats.map (fun u => { u with refused := countDown u.refused }))).withScreens
    { s.screens with messages := s.screens.messages.map countMessage }).withDisplays
    { s.displays with
      records := s.displays.records.map (fun r => { r with timer := countDown r.timer }) }).withDue due

/-- The voice evaluation of the superframe that ends comes about (R111). -/
def voiceComesDue (s : State) : State :=
  s.withDue
    { s.due with
      voice := some { stamp := s.time.stamp, threshold := s.gate.threshold, hold := s.gate.hold } }

/-- SUPERFRAME_END (R19, R106, R107, R111, R126, R146, R193). -/
def superframeEnd (s : State) : State :=
  voiceComesDue (completePeaks (countSuperframe (reachBoundary (settleEnd s))))

/-! ### Superframe start -/

/-- The next superframe: the stamp counts and frame 0 comes next (Table 4-1, R4). -/
def nextSuperframe (s : State) : State :=
  s.withTime { stamp := s.time.stamp + 1, frame := 0 }

/-- The room time advances by 1 ms, and a minute boundary comes about when the second and the ms are 0
(R156). -/
def tickClock (s : State) : State :=
  let t := advanceTime s.clock.time
  let u := s.withClock { s.clock with time := t }
  if t.second = 0 ∧ t.ms = 0 then u.withDue { u.due with boundary := some (weekMinute t) } else u

/-- SUPERFRAME_START (R73, R86, R111, R156). The counts of the timers with their checks are taken before the capture
if `limitsFirst`, and otherwise are owed until a SPEAKING row or the next superframe start takes them (R84, R105,
notes/assumptions/15.md). -/
def superframeStart (limitsFirst : Bool) (s : State) : State :=
  let t := oweCounts (tickClock (nextSuperframe (reachBoundary (settleStart s))))
  copyThreshold (capture (if limitsFirst then takeCounts t else t))

/-! ### Outgoing frames -/

/-- The seat order for a position, and the state once it is sent: on an UNLOCKED chain LED OFF, mute clear and
no fragment; no fragment for a seat that does not take part (R8, R18, R21, R131). -/
def composeOrder (link : Link) (s : State) : SeatOrder × State :=
  let n := seatAt link s.time.frame
  if (linkState s.links link).locked then
    if takesPart (presenceOf s n) then
      match nextFragment s n with
      | some (f, shown) =>
        ({ led := ledOf s n, mute := muteOf s n, fragment := some f }, setShown n shown s)
      | none => ({ led := ledOf s n, mute := muteOf s n, fragment := none }, s)
    else ({ led := ledOf s n, mute := muteOf s n, fragment := none }, s)
  else ({ led := .off, mute := false, fragment := none }, s)

/-- The loudspeaker samples of a chain: the feeds, or 0 while the chain is UNLOCKED (R4, R8). -/
def chainSamples (link : Link) (s : State) : Vector Int 32 :=
  if (linkState s.links link).locked then Vector.ofFn (fun k => seatFeed s (seatAt link k))
  else Vector.replicate 32 0

/-- A chain's frame, composed with the computation's state, and the state once its order is sent. -/
def composeChain (link : Link) (computed s : State) : ChainFrame × State :=
  let o := composeOrder link s
  ({ index := s.time.frame, samples := chainSamples link computed, order := o.1 }, o.2)

/-- One computation of the Mixing Engine: clips counted, and its samples handed to the Voice Gate (R85, R98,
R103). -/
def compute (s : State) : State := observe (countClips s)

/-- Everything that an outgoing frame does once the frame boundary has passed (R4, R5, R85). DESIGN CHOICE: a clip
is counted before the upstream slot of the same frame is filled (R198, notes/assumptions/12.md). -/
def sendFrame (s : State) : State :=
  let c := compute s
  let a := composeChain .chainA s c
  let b := composeChain .chainB s a.2
  let u := takeSlot b.2
  (u.2.withSent
    { chainA := some a.1, chainB := some b.1
      trunk := some { index := s.time.frame, floorBus := floorBus s, farSend := farSend s
                      cell := u.1 } }).withTime { s.time with frame := s.time.frame + 1 }

/-- OUTGOING_FRAME (R4, R5, R85). -/
def outgoingFrame (s : State) : State := sendFrame (passFrame (settleFrame s))

end Sys2Proof.Machine
end

