-- ==== Sys2Proof/Machine/Events.lean ====
section
/-!
DEFINITION. The meanings of the rows that are no command cell's: the RESET pin, frames, superframes, matches,
expiries, the ALERT sample, voice reports, the emitter, arrival and the upstream slot. A row whose event has
not come about leaves the state as it is (notes/assumptions/7.md).
-/

namespace Sys2Proof.Machine

/-- RESET_PIN: a low level of at least 10 µs is a reset; a shorter one is ignored (R222). The waiting commands
and the model's counter of free values are not the part's, and stay. -/
def resetPin (lowNs : Nat) (s : State) : State :=
  if 10000 ≤ lowNs then { State.reset with pending := s.pending, draws := s.draws } else s

/-- RESET_PIN (R222). -/
def execResetPin (lowNs : Nat) (s : State) : Result := .next (resetPin lowNs s)

/-- INCOMING_FRAME (R4 to R17, R215, R216). A management cell still waiting is taken first. -/
def execIncomingFrame (link : Link) (bytes : List Byte) (s : State) : Result :=
  match link with
  | .trunk => .next (trunkFrameIn bytes (takeCell s))
  | chain => .next (chainFrameIn chain bytes s)

/-- OUTGOING_FRAME (R4, R5, R18, R85). -/
def execOutgoingFrame (s : State) : Result := .next (outgoingFrame s)

/-- ANSWER_SENT (R195, R202). -/
def execAnswerSent (s : State) : Result := .next (sendAnswer s)

/-- NOTICE_SENT (R195). -/
def execNoticeSent (s : State) : Result := .next (sendNotice s)

/-- SUPERFRAME_START (R73, R86, R111, R156). -/
def execSuperframeStart (limitsFirst : Bool) (s : State) : Result :=
  .next (superframeStart limitsFirst s)

/-- The count that a seat's timer owes brings a match of a kind, and no older entry owes a match (R76). -/
def matchesNext (n : Seat) (kind : Timer → Bool) (s : State) : Bool :=
  decide (nextMatch s.floor = some n) && (openTimer s.floor n).any (fun t => kind (countTimer t))

/-- SPEAKING_WARNING: the count that brings a seat's timer to its warn point, with a limit match that the same
check finds (R76, R77). -/
def execSpeakingWarning (n : Seat) (s : State) : Result :=
  .next (if matchesNext n warnDue s then takeCount n s else s)

/-- SPEAKING_LIMIT_CLOSE: the count that brings a seat's timer to its limit point under CLOSE, the warning first if
it matches too (R76, R78). -/
def execSpeakingLimitClose (n : Seat) (s : State) : Result :=
  .next (if s.floor.setup.action = .close ∧ matchesNext n limitDue s = true then takeCount n s else s)

/-- SPEAKING_LIMIT_NOTIFY: the count that brings a seat's timer to its limit point under NOTIFY, the warning first
if it matches too (R76, R79). -/
def execSpeakingLimitNotify (n : Seat) (s : State) : Result :=
  .next (if s.floor.setup.action = .notify ∧ matchesNext n limitDue s = true then takeCount n s else s)

/-- MINUTE_BOUNDARY (R156, R157, R170). -/
def execMinuteBoundary (s : State) : Result := .next (takeBoundary s)

/-- SUPERFRAME_END (R19, R106, R107, R111, R126, R146, R193). -/
def execSuperframeEnd (s : State) : Result := .next (superframeEnd s)

/-- CHAIN_LOCK of a link whose fourth good superframe has ended (R7). -/
def execChainLock (link : Link) (s : State) : Result :=
  .next (if (linkState s.links link).locked then s else settleLink link s)

/-- CHAIN_UNLOCK of a link whose second bad superframe has ended (R7). -/
def execChainUnlock (link : Link) (s : State) : Result :=
  .next (if (linkState s.links link).locked then settleLink link s else s)

/-- The level read at a sample of the ALERT pin: active below 0.8 V, inactive above 2.0 V, else as last read
(R222). -/
def readAlert (level : AlertLevel) (last : Bool) : Bool :=
  match level with
  | .low => true
  | .high => false
  | .between => last

/-- The ALERT filter takes a sample, and whether its level changes (R67). -/
def filterAlert (sample : Bool) (x : AlertFilter) : AlertFilter × Bool :=
  if sample = x.level then ({ x with run := 0, pin := sample }, false)
  else if x.run < 2 then ({ x with run := x.run + 1, pin := sample }, false)
  else ({ level := sample, run := 0, pin := sample }, true)

/-- ALERT_SAMPLE (R67, R68, R70, R222). -/
def execAlertSample (level : AlertLevel) (s : State) : Result :=
  let sample := readAlert level s.alert.pin
  let out := filterAlert sample s.alert
  let t := s.withAlert out.1
  .next (if out.2 then (if sample then alertEntry t else alertExit t) else t)

/-- REFUSED_TIMER_EXPIRY (R19). -/
def execRefusedTimerExpiry (n : Seat) (s : State) : Result := .next (expireRefused n s)

/-- MESSAGE_EXPIRY (R126). -/
def execMessageExpiry (n : Seat) (s : State) : Result := .next (expireMessage n s)

/-- VOICE_EVALUATION (R111, R113). -/
def execVoiceEvaluation (s : State) : Result := .next (voiceEvaluate s)

/-- PRESENCE_END: the presence end at the front of the reports is taken, and the presence starts behind it up to
the next end (R113, R114). -/
def execPresenceEnd (n : Seat) (s : State) : Result :=
  match s.due.reports with
  | r :: rest =>
    .next (if r.seat = n ∧ r.started = false then
        handStarts rest (presenceEnds n (s.withDue { s.due with reports := rest }))
      else s)
  | [] => .next s

/-- QUIET_TIMEOUT (R193). -/
def execQuietTimeout (s : State) : Result := .next (quietTimeout s)

/-- WARM_EXPIRY (R144, R146). -/
def execWarmExpiry (d : DisplayNo) (s : State) : Result := .next (expireWarm d s)

/-- COOL_EXPIRY (R146, R147). -/
def execCoolExpiry (d : DisplayNo) (s : State) : Result := .next (expireCool d s)

/-- IR_TRANSMISSION_START at an instant that the present frame has left: the idle emitter takes the head of the
queue (R149, R152, notes/assumptions/19.md). -/
def execIrTransmissionStart (instant : Nat) (s : State) : Result :=
  .next (if s.displays.now ≤ instant ∧ instant ≤ frameCycles ∧ mayTake s = true then runEmitter instant s
    else s)

/-- IR_TRANSMISSION_COMPLETE: the transmission in flight ends within the present frame (R149, R150). -/
def execIrTransmissionComplete (s : State) : Result :=
  .next (if (s.displays.inFlight).any (fun f => decide (f.ends ≤ frameCycles)) then finishTransmission s
    else s)

/-- COMMAND_CELL_ARRIVAL (R199, R200, R219). -/
def execCommandCellArrival (s : State) : Result := .next (takeCell s)

end Sys2Proof.Machine
end

