-- ==== Sys2Proof/Machine/FloorCommands.lean ====
section
/-!
DEFINITION. The commands of the Floor Controller: SEAT OPEN, SEAT CLOSE, GRANT NEXT, QUEUE CLEAR, FLOOR SET,
PRIORITY ON and PRIORITY OFF (R43 to R47, R61).
-/

namespace Sys2Proof.Machine

/-- SEAT OPEN answered `STATE` for a seat that takes part starts its REFUSED indication (R43). -/
def stateRefused (n : Seat) (s : State) : Reply :=
  { state := if takesPart (presenceOf s n) then refuse n s else s, code := .state, result := [] }

/-- SEAT OPEN of a delegate that is not OPEN, with the floor RUNNING (R43). -/
def openDelegate (n : Seat) (s : State) : Reply :=
  match s.floor.setup.mode with
  | .direct =>
    if slotFree s.floor then done (afterFloor (joinOpen .command n s)) else stateRefused n s
  | .queued =>
    if slotFree s.floor then done (afterFloor (joinOpen .command n s)) else stateRefused n s
  | .overrideMode => done (afterFloor (overrideOpen .command n s))
  | .voice => if micState s.floor n = .armed then done s else done (afterFloor (arm n s))

/-- SEAT OPEN of a seat below 64, by the checks of R43 in their order. -/
def openSeat (n : Seat) (s : State) : Reply :=
  if s.floor.phase = .closed ∨ s.floor.phase = .alert then stateRefused n s
  else if takesPart (presenceOf s n) = false then refusal .state s
  else
    match effectiveRole s n with
    | .listenOnly => stateRefused n s
    | .chair =>
      if hasEntry s.floor.openList n then done s else done (afterFloor (joinOpen .command n s))
    | .delegate =>
      if hasEntry s.floor.openList n then done s
      else if s.floor.phase = .hold then stateRefused n s
      else openDelegate n s

/-- SEAT OPEN (R43). -/
def seatOpenReply (seat : Nat) (s : State) : Reply :=
  match index? 64 seat with
  | some n => openSeat n s
  | none => refusal .range s

/-- SEAT CLOSE (R44). -/
def seatCloseReply (seat : Nat) (s : State) : Reply :=
  match index? 64 seat with
  | some n => done (afterFloor (takeOut .command .command n s))
  | none => refusal .range s

/-- GRANT NEXT (R45). -/
def grantReply (s : State) : Reply :=
  match grant s with
  | some t => done (afterFloor t)
  | none => refusal .state s

/-- FLOOR SET, the floor state checked before the fields (R47, notes/assumptions/27.md). -/
def floorSetReply (f : SetupFields) (s : State) : Reply :=
  if s.floor.phase = .closed ∨ s.floor.phase = .alert then refusal .state s
  else
    match setup? f with
    | some x => done (setupChange x s)
    | none => refusal .range s

/-- REMOTE joins the holder set (R61). -/
def remoteJoins (s : State) : State := s.withFloor { s.floor with remote := true }

/-- PRIORITY ON (R61). -/
def priorityOnReply (s : State) : Reply :=
  match s.floor.phase with
  | .running => done (holdStart none (remoteJoins s))
  | .hold => done (remoteJoins s)
  | .closed => refusal .state s
  | .alert => refusal .state s

/-- PRIORITY OFF (R61). -/
def priorityOffReply (s : State) : Reply :=
  if s.floor.remote then done (endHoldIfFree (s.withFloor { s.floor with remote := false }))
  else done s

/-- SEAT_OPEN (R43). -/
def execSeatOpen (tag : Byte) (seat : Option Nat) (s : State) : Result :=
  .next (runCommand (.seatOpen tag seat) tag 0x10 (withForm seat seatOpenReply) s)

/-- SEAT_CLOSE (R44). -/
def execSeatClose (tag : Byte) (seat : Option Nat) (s : State) : Result :=
  .next (runCommand (.seatClose tag seat) tag 0x11 (withForm seat seatCloseReply) s)

/-- GRANT_NEXT (R45). -/
def execGrantNext (tag : Byte) (p : Option Unit) (s : State) : Result :=
  .next (runCommand (.grantNext tag p) tag 0x12 (withForm p (fun _ => grantReply)) s)

/-- QUEUE_CLEAR (R46). -/
def execQueueClear (tag : Byte) (p : Option Unit) (s : State) : Result :=
  .next (runCommand (.queueClear tag p) tag 0x13
    (withForm p (fun _ t => done (afterFloor (clearQueue t)))) s)

/-- FLOOR_SET (R47 to R49). -/
def execFloorSet (tag : Byte) (f : Option SetupFields) (s : State) : Result :=
  .next (runCommand (.floorSet tag f) tag 0x14 (withForm f floorSetReply) s)

/-- PRIORITY_ON (R61). -/
def execPriorityOn (tag : Byte) (p : Option Unit) (s : State) : Result :=
  .next (runCommand (.priorityOn tag p) tag 0x15 (withForm p (fun _ => priorityOnReply)) s)

/-- PRIORITY_OFF (R61). -/
def execPriorityOff (tag : Byte) (p : Option Unit) (s : State) : Result :=
  .next (runCommand (.priorityOff tag p) tag 0x16 (withForm p (fun _ => priorityOffReply)) s)

end Sys2Proof.Machine
end

