-- ==== Sys2Proof/Machine/Restart.lean ====
section
/-!
DEFINITION. RESTART (R213, R214): the answer, the Command FIFO, the cursor, and the RESTART values of the blocks
in their order. notes/assumptions/35.md says what becomes of the model's own registers.
-/

namespace Sys2Proof.Machine

/-- A link after RESTART; a bad frame of the superframe under way stays noted (R25, R6). -/
def restartLink (l : LinkState) : LinkState := { LinkState.reset with sfBad := l.sfBad }

/-- 1. Chain Ports and trunk (R25). A management cell not yet taken cannot arrive on an UNLOCKED trunk, and an upstream
slot filled before gives its contents back (R9). -/
def restartLinks (s : State) : State :=
  let t := s.withLinks
    { chainA := restartLink s.links.chainA, chainB := restartLink s.links.chainB
      trunk := restartLink s.links.trunk }
  releaseSlot ((t.withSeats (Vector.replicate 64 .reset)).withPort { s.port with arrived := none })

/-- 2. The Floor Controller and the ALERT filter (R55, R67). The pin's last read level is the pin's own
(notes/assumptions/31.md). -/
def restartFloor (s : State) : State :=
  (s.withFloor
    { phase := if s.sched.idle.enabled then .running else .closed
      setup := s.sched.idle.setup
      meeting := if s.sched.idle.enabled then .idle else .none
      openList := [], queue := [], shadow := [], armed := [], holders := [], remote := false }).withAlert
    { level := false, run := 0, pin := s.alert.pin }

/-- 3. The Mixing Engine (R104). -/
def restartMixer (s : State) : State :=
  s.withMixer
    { s.mixer with active := s.sched.idle.bank, pending := none, clipFloor := 0, clipFar := 0 }

/-- 4. The Voice Gate (R119). -/
def restartGate (s : State) : State :=
  s.withGate
    { s.gate with
      filters := Vector.replicate 64 .rest, forming := Vector.replicate 66 0
      lastPeak := Vector.replicate 66 0, meters := Vector.replicate 66 0 }

/-- 5. The Screen Composer (R126, R132). -/
def restartScreens (s : State) : State :=
  s.withScreens
    { s.screens with
      messages := Vector.replicate 64 none, shown := Vector.replicate 64 .unknown }

/-- 6. The Display Sequencer and the IR Emitter (R154). -/
def restartDisplays (s : State) : State :=
  s.withDisplays
    { s.displays with records := Vector.replicate 4 .reset, queue := [], inFlight := none }

/-- 7. The Notice Unit (R197). -/
def restartNotices (s : State) : State :=
  s.withNotices
    { s.notices with
      summary := { Sources.none with log := decide (0 < s.log.unread), clock := !s.clock.valid }
      pending := false, quiet := 0 }

/-- The internal events that have come about and are not taken fall away with the blocks that owe them, but for a
minute boundary, since the Room Clock is kept, and the quiet count's step at a superframe end (R193;
notes/assumptions/35.md). -/
def restartDue (s : State) : State :=
  s.withDue { Due.none with boundary := s.due.boundary, quiet := s.due.quiet }

/-- Step 4 of R213: the blocks in the order of R214. -/
def restartBlocks (s : State) : State :=
  restartBookings (restartNotices (restartDisplays (restartScreens (restartGate (restartMixer
    (restartFloor (restartLinks (restartDue s))))))))

/-- Steps 2 and 3 of R213: the Command FIFO is emptied and the cursor returns. -/
def restartPort (s : State) : State :=
  s.withPort { s.port with fifo := [], cursor := { table := .seat, index := 0 } }

/-- The execution of RESTART, its `DONE` answer first (R213). -/
def restartAll (tag : Byte) (s : State) : State :=
  restartBlocks (restartPort (placeAnswer { tag := tag, code := 0x09, answer := .done, result := [] } s))

/-- RESTART (R213); with parameters it is a form error (R204). -/
def execRestart (tag : Byte) (p : Option Unit) (s : State) : Result :=
  match takeCommand (.restart tag p) s with
  | none => .next s
  | some t =>
    match p with
    | some _ => .next (restartAll tag t)
    | none =>
      .next (placeAnswer { tag := tag, code := 0x09, answer := .range, result := [] } t)

end Sys2Proof.Machine
end

