-- ==== Sys2Proof/Machine/RoomCommands.lean ====
section
/-!
DEFINITION. The commands of the Mixing Engine, the Voice Gate, the Screen Composer, the Display Sequencer, the
Room Clock, the Booking Scheduler, the Speech Log and the Notice Unit, but for the tables (Table 11-4).
-/

namespace Sys2Proof.Machine

/-! ### Audio -/

/-- BANK SELECT (R90). -/
def bankSelectReply (b : Nat) (s : State) : Reply :=
  match index? 2 b with
  | some bank => done (bankRequest bank s)
  | none => refusal .range s

/-- CLIP READ (R99). -/
def clipReadReply (s : State) : Reply :=
  let t := s.withMixer { s.mixer with clipFloor := 0, clipFar := 0 }
  { state := t.withNotices { t.notices with summary := { t.notices.summary with clip := false } }
    code := .done, result := b2 s.mixer.clipFloor ++ b2 s.mixer.clipFar }

/-- A meter lies in a run (R108). -/
def inRun (first count : Nat) (i : MeterNo) : Bool := decide (first ≤ i.val) && decide (i.val < first + count)

/-- METER READ (R108). DESIGN CHOICE: the levels follow each other with no count byte (notes/assumptions/25.md). -/
def meterReadReply (first count : Nat) (s : State) : Reply :=
  if 65 < first ∨ count = 0 ∨ 8 < count ∨ 66 < first + count then refusal .range s
  else
    { state := s.withGate
        { s.gate with
          meters := Vector.ofFn (fun i => if inRun first count i then 0 else look s.gate.meters i) }
      code := .done
      result := ((s.gate.meters.toList.drop first).take count).flatMap b3 }

/-- BANK_SELECT (R90). -/
def execBankSelect (tag : Byte) (bank : Option Nat) (s : State) : Result :=
  .next (runCommand (.bankSelect tag bank) tag 0x20 (withForm bank bankSelectReply) s)

/-- CLIP_READ (R99). -/
def execClipRead (tag : Byte) (p : Option Unit) (s : State) : Result :=
  .next (runCommand (.clipRead tag p) tag 0x21 (withForm p (fun _ => clipReadReply)) s)

/-- METER_READ (R108). -/
def execMeterRead (tag : Byte) (p : Option (Nat × Nat)) (s : State) : Result :=
  .next (runCommand (.meterRead tag p) tag 0x22 (withForm p (fun x => meterReadReply x.1 x.2)) s)

/-! ### Screens -/

/-- One slot, or every slot for ALL, takes the same contents (R127, R128). -/
def setMessages (target : Option Seat) (m : Option Message) (s : State) : State :=
  match target with
  | some n => setMessage n m s
  | none => s.withScreens { s.screens with messages := Vector.replicate 64 m }

/-- SEAT MESSAGE (R127). -/
def seatMessageReply (target duration : Nat) (text : Text) (s : State) : Reply :=
  match target? target with
  | none => refusal .range s
  | some who =>
    if text.length = 0 ∨ 24 < text.length ∨ 255 < duration then refusal .range s
    else
      done (setMessages who
        (some { text := text.map printable
                left := if duration = 0 then none else some (duration * 1000) }) s)

/-- MESSAGE CLEAR (R128). -/
def messageClearReply (target : Nat) (s : State) : Reply :=
  match target? target with
  | none => refusal .range s
  | some who => done (setMessages who none s)

/-- SEAT_MESSAGE (R127). -/
def execSeatMessage (tag : Byte) (p : Option (Nat × Nat × Text)) (s : State) : Result :=
  .next (runCommand (.seatMessage tag p) tag 0x28
    (withForm p (fun x => seatMessageReply x.1 x.2.1 x.2.2)) s)

/-- MESSAGE_CLEAR (R128). -/
def execMessageClear (tag : Byte) (target : Option Nat) (s : State) : Result :=
  .next (runCommand (.messageClear tag target) tag 0x29 (withForm target messageClearReply) s)

/-! ### Displays -/

/-- DISPLAY POWER on (R142, R143). -/
def powerOnReply (display input : Nat) (s : State) : Reply :=
  match index? 4 display, optInput? input with
  | some d, some i => done (requestOn d i s)
  | _, _ => refusal .range s

/-- DISPLAY POWER off; the input is checked and then ignored (R142, notes/assumptions/28.md). -/
def powerOffReply (display input : Nat) (s : State) : Reply :=
  match index? 4 display, optInput? input with
  | some d, some _ => done (requestOff d s)
  | _, _ => refusal .range s

/-- DISPLAY INPUT (R142). -/
def inputReply (display input : Nat) (s : State) : Reply :=
  match index? 4 display, input? input with
  | some d, some n => done (requestInput d n s)
  | _, _ => refusal .range s

/-- DISPLAY_POWER_ON (R142 to R147). -/
def execDisplayPowerOn (tag : Byte) (p : Option (Nat × Nat)) (s : State) : Result :=
  .next (runCommand (.displayPowerOn tag p) tag 0x30 (withForm p (fun x => powerOnReply x.1 x.2)) s)

/-- DISPLAY_POWER_OFF (R142 to R147). -/
def execDisplayPowerOff (tag : Byte) (p : Option (Nat × Nat)) (s : State) : Result :=
  .next (runCommand (.displayPowerOff tag p) tag 0x30 (withForm p (fun x => powerOffReply x.1 x.2)) s)

/-- DISPLAY_INPUT (R142 to R147). -/
def execDisplayInput (tag : Byte) (p : Option (Nat × Nat)) (s : State) : Result :=
  .next (runCommand (.displayInput tag p) tag 0x31 (withForm p (fun x => inputReply x.1 x.2)) s)

/-! ### Clock and bookings -/

/-- CLOCK SET (R158). -/
def clockSetReply (day hour minute second : Nat) (s : State) : Reply :=
  if 6 < day ∨ 23 < hour ∨ 59 < minute ∨ 59 < second then refusal .range s
  else done (clockJump (setTime day hour minute second) s)

/-- CLOCK GET (R159). -/
def clockGetReply (s : State) : Reply :=
  { state := s, code := .done
    result := bTime s.clock.time ++ b2 (weekMinute s.clock.time) ++ bBool s.clock.valid }

/-- COMMIT (R166). -/
def commitReply (slot : Nat) (s : State) : Reply :=
  match index? 16 slot with
  | some k => commitSlot k s
  | none => refusal .range s

/-- EXTEND (R177). -/
def extendReply (slot minutes : Nat) (s : State) : Reply :=
  match index? 16 slot with
  | some k => if 1 ≤ minutes ∧ minutes ≤ 120 then extendSlot k minutes s else refusal .range s
  | none => refusal .range s

/-- END NOW (R178). -/
def endNowReply (slot : Nat) (s : State) : Reply :=
  match index? 16 slot with
  | some k => endNowSlot k s
  | none => refusal .range s

/-- CANCEL (R179). -/
def cancelReply (slot : Nat) (s : State) : Reply :=
  match index? 16 slot with
  | some k => cancelSlot k s
  | none => refusal .range s

/-- CLOCK_SET (R158, R175). -/
def execClockSet (tag : Byte) (p : Option (Nat × Nat × Nat × Nat)) (s : State) : Result :=
  .next (runCommand (.clockSet tag p) tag 0x38
    (withForm p (fun x => clockSetReply x.1 x.2.1 x.2.2.1 x.2.2.2)) s)

/-- CLOCK_GET (R159). -/
def execClockGet (tag : Byte) (p : Option Unit) (s : State) : Result :=
  .next (runCommand (.clockGet tag p) tag 0x39 (withForm p (fun _ => clockGetReply)) s)

/-- COMMIT (R166, R174). -/
def execCommit (tag : Byte) (slot : Option Nat) (s : State) : Result :=
  .next (runCommand (.commit tag slot) tag 0x40 (withForm slot commitReply) s)

/-- EXTEND (R177). -/
def execExtend (tag : Byte) (p : Option (Nat × Nat)) (s : State) : Result :=
  .next (runCommand (.extend tag p) tag 0x41 (withForm p (fun x => extendReply x.1 x.2)) s)

/-- END_NOW (R178). -/
def execEndNow (tag : Byte) (slot : Option Nat) (s : State) : Result :=
  .next (runCommand (.endNow tag slot) tag 0x42 (withForm slot endNowReply) s)

/-- CANCEL (R179). -/
def execCancel (tag : Byte) (slot : Option Nat) (s : State) : Result :=
  .next (runCommand (.cancel tag slot) tag 0x43 (withForm slot cancelReply) s)

/-! ### Log and notices -/

/-- The Notice Unit after a LOG READ that leaves `left` records unread: LOG clears at 0 and the quiet count
restarts (R189, R190). -/
def noticeRead (left : Nat) (x : Notices) : Notices :=
  { x with summary := { x.summary with log := x.summary.log && decide (left ≠ 0) }, quiet := 0 }

/-- The record at the read position (R185). -/
def oldestUnread (g : SpeechLog) : Option LogRecord := (g.ring.drop (g.ring.length - g.unread)).head?

/-- LOG READ (R189). -/
def logReadReply (s : State) : Reply :=
  match s.log.unread, oldestUnread s.log with
  | left + 1, some r =>
    { state := (s.withLog { s.log with unread := left }).withNotices (noticeRead left s.notices)
      code := .done, result := recordBytes r left }
  | n, _ =>
    { state := s.withNotices (noticeRead n s.notices), code := .empty, result := [] }

/-- NOTICE SET (R191). -/
def noticeSetReply (mask trigger : Nat) (s : State) : Reply :=
  if triggerOk trigger then
    { state := s.withNotices { s.notices with mask := maskOf mask, trigger := trigger }
      code := .done, result := b1 (sourceBits s.notices.summary) }
  else refusal .range s

/-- LOG_READ (R189). -/
def execLogRead (tag : Byte) (p : Option Unit) (s : State) : Result :=
  .next (runCommand (.logRead tag p) tag 0x48 (withForm p (fun _ => logReadReply)) s)

/-- NOTICE_SET (R191). -/
def execNoticeSet (tag : Byte) (p : Option (Nat × Nat)) (s : State) : Result :=
  .next (runCommand (.noticeSet tag p) tag 0x49 (withForm p (fun x => noticeSetReply x.1 x.2)) s)

end Sys2Proof.Machine
end

