-- ==== Sys2Proof/Machine/Status.lean ====
section
/-!
DEFINITION. STATUS, without and with a seat number: the values in the order of R210 and R211, coded by Table
12-6 and R220, and the clearing of LINK and DISPLAY (R212). notes/assumptions/23.md and 24.md give the codings
that the rules leave open.
-/

namespace Sys2Proof.Machine

/-! ### STATUS without a seat number -/

/-- A lock state: LOCKED 0, UNLOCKED 1, in the order of R7. -/
def lockBytes (l : LinkState) : List Byte := b1 (if l.locked then 0 else 1)

/-- Row Links of R210. -/
def linkStatus (s : State) : List Byte :=
  lockBytes s.links.chainA ++ lockBytes s.links.chainB ++ lockBytes s.links.trunk ++
    b4 s.time.stamp.toNat

/-- The hold holder set: a count, the seats, and 0xFE for REMOTE (R220). -/
def holderBytes (f : Floor) : List Byte :=
  counted1 (f.holders.map Fin.val ++ (if f.remote then [0xFE] else [])) b1

/-- The current meeting (R220). -/
def meetingBytes (m : Meeting) : List Byte :=
  (match m with
   | .none => b1 0xFF
   | .idle => b1 0xFE
   | .booking k _ _ => b1 k.val) ++ opt2 (meetingId m)

/-- Row Floor of R210. -/
def floorStatus (s : State) : List Byte :=
  let f := s.floor
  b1 (phaseByte f.phase) ++ holderBytes f ++ meetingBytes f.meeting ++ setupBytes f.setup ++
    counted1 f.openList (fun e => b1 e.seat.val ++ b1 (if e.chair then 1 else 0) ++ b1 (howByte e.how)) ++
    counted1 f.queue (fun r => b1 r.seat.val ++ b4 r.stamp.toNat) ++
    counted1 f.shadow (fun e => b1 e.seat.val ++ b1 (howByte e.how)) ++ b1 f.armed.length

/-- The pending bank, or none by a byte that codes no bank (R89, R210). DESIGN CHOICE: one byte, and for none a free one
of 2 to 255 (notes/assumptions/21.md). -/
def pendingByte (b : Option (Fin 2)) : Byte :=
  match b with
  | some b => BitVec.ofNat 8 b.val
  | none => BitVec.ofNat 8 (Config.noPendingBank.val + 2)

/-- Row Audio of R210. DESIGN CHOICE: each clip counter in 2 bytes (notes/assumptions/23.md). -/
def audioStatus (s : State) : List Byte :=
  b1 s.mixer.active.val ++ [pendingByte s.mixer.pending] ++ b2 s.mixer.clipFloor ++
    b2 s.mixer.clipFar ++ b3 (look s.gate.meters 64) ++ b3 (look s.gate.meters 65)

/-- One slot in row Clock and bookings of R210. -/
def slotStatus (x : Slot) : List Byte :=
  match x with
  | .free => b1 0
  | .draft f items => b1 1 ++ b2 f.id ++ b2 f.start ++ opt2 none ++ b1 items.length
  | .committed st f items _ current =>
    b1 (stageByte st) ++ b2 f.id ++ b2 f.start ++ opt2 (some current) ++ b1 items.length

/-- Row Clock and bookings of R210. DESIGN CHOICE: the items in use, 0..256, in 2 bytes
(notes/assumptions/23.md). -/
def clockStatus (s : State) : List Byte :=
  bTime s.clock.time ++ bBool s.clock.valid ++ s.sched.slots.toList.flatMap slotStatus ++
    b2 (poolInUse s.sched)

/-- Display state codes, in the order of R141. -/
def displayStateByte (x : DisplayState) : Nat :=
  match x with
  | .off => 0
  | .warming => 1
  | .on => 2
  | .cooling => 3

/-- Display phase codes (R220). -/
def displayPhaseByte (x : Option DisplayPhase) : Nat :=
  match x with
  | none => 0
  | some .sending => 1
  | some .timing => 2
  | some .stopping => 3
  | some .steady => 4

/-- An input that may be unknown or absent (Table 12-6). -/
def optInputByte (x : Option InputNo) : Nat := x.elim 0 (fun n => n.val + 1)

/-- A display record in row Displays of R210. -/
def recordStatus (r : DisplayRecord) : List Byte :=
  b1 (displayStateByte r.state) ++ b1 (displayPhaseByte r.phase) ++ b3 r.timer ++
    b1 (optInputByte r.selected) ++ b1 (optInputByte r.pending) ++ bBool r.pendingOn

/-- Infrared code bytes, in the order of Table 8-1. -/
def irCodeByte (c : IrCode) : Nat :=
  match c with
  | .powerOn => 0
  | .powerOff => 1
  | .input n => n.val + 2

/-- An entry of the IR Send Queue. -/
def irEntryBytes (e : IrEntry) : List Byte := b1 e.display.val ++ b1 (irCodeByte e.code)

/-- The µs left, to the nearest, of a transmission that ends at an instant of the present frame. DESIGN CHOICE: an
exact half is rounded up (R153, notes/assumptions/22.md). -/
def microsLeft (ends now : Nat) : Nat := (ends - now + 10) / 20

/-- Row Displays of R210; the instant of the reading is free (notes/assumptions/22.md). DESIGN CHOICE: the entry in
flight and its time are one optional value, sent as 0 when absent (notes/assumptions/23.md). -/
def displayStatus (s : State) : List Byte :=
  s.displays.records.toList.flatMap recordStatus ++ counted1 s.displays.queue irEntryBytes ++
    (match s.displays.inFlight with
     | none => b1 0 ++ (b1 0 ++ b1 0) ++ b4 0
     | some f => b1 1 ++ irEntryBytes f.entry ++ b4 (microsLeft f.ends (freeInstant s)))

/-- Row Log and notices of R210. -/
def noticeStatus (s : State) : List Byte :=
  b1 (sourceBits s.notices.summary) ++ b1 (sourceBits s.notices.mask) ++ b1 s.notices.trigger ++
    b2 s.log.unread ++ b2 s.log.nextSeq.toNat ++ bBool s.notices.pending ++ b1 s.notices.quiet

/-- Row Command Port of R210; this command has left the FIFO. -/
def portStatus (s : State) : List Byte :=
  b1 s.port.fifo.length ++ b1 s.port.answers.length ++ cursorBytes s.port.cursor

/-- The body of the answer to STATUS (R210). -/
def statusBytes (s : State) : List Byte :=
  linkStatus s ++ floorStatus s ++ audioStatus s ++ clockStatus s ++ displayStatus s ++
    noticeStatus s ++ portStatus s

/-- The LINK and DISPLAY sources become clear (R196, R212). -/
def clearSeen (s : State) : State :=
  s.withNotices
    { s.notices with summary := { s.notices.summary with link := false, display := false } }

/-- STATUS (R210, R212); its one reading of the clock takes a free value. -/
def statusReply (s : State) : Reply :=
  { state := (clearSeen s).withDraws (s.draws + 1), code := .done, result := statusBytes s }

/-! ### STATUS with a seat number -/

/-- A filtered level: pressed 0, released 1, in the order of R14. -/
def levelBytes (x : Button) : List Byte := b1 (if x.pressed then 0 else 1)

/-- Row Seat unit of R211. -/
def unitStatus (u : SeatUnit) : List Byte :=
  b1 (presenceByte u.presence) ++ levelBytes u.mic ++ levelBytes u.priority ++ levelBytes u.next ++
    b1 u.volume

/-- Row Roles of R211. -/
def roleStatus (s : State) (n : Seat) : List Byte :=
  seatEntryBytes (look s.seatTable n) ++ b1 (roleByte (effectiveRole s n)) ++
    bBool (s.floor.holders.contains n)

/-- Mic state codes, in the order of R30. -/
def micByte (x : MicState) : Nat :=
  match x with
  | .off => 0
  | .waiting => 1
  | .opened => 2
  | .held => 3
  | .armed => 4

/-- The place and stamp of a WAITING seat (R211). -/
def waitingStatus (n : Seat) (q : List Request) : List Byte :=
  match q.find? (fun r => decide (r.seat = n)) with
  | some r => b1 (q.findIdx (fun e => decide (e.seat = n)) + 1) ++ b4 r.stamp.toNat
  | none => []

/-- Row Floor of R211. -/
def seatFloorStatus (s : State) (n : Seat) : List Byte :=
  b1 (micByte (micState s.floor n)) ++ waitingStatus n s.floor.queue ++ b1 (ledByte (ledOf s n)) ++
    b2 (look s.seats n).refused

/-- A timer record: elapsed, RUNNING 0 or PAUSED 1, flags and points (R211). -/
def timerBytes (t : Timer) : List Byte :=
  b3 t.elapsed ++ b1 (if t.running then 0 else 1) ++ bBool t.warned ++ bBool t.overtime ++ opt3 t.warn ++
    opt3 t.limit

/-- Row Timer of R211. -/
def timerStatus (f : Floor) (n : Seat) : List Byte :=
  match (f.openList ++ f.shadow).find? (fun e => decide (e.seat = n)) with
  | some e => timerBytes e.timer
  | none => []

/-- Row Level and voice of R211. -/
def voiceStatus (g : Gate) (n : Seat) : List Byte :=
  let f := look g.filters n
  b3 (look g.lastPeak ⟨n.val, by omega⟩) ++ b3 (look g.meters ⟨n.val, by omega⟩) ++ bBool f.present ++
    b1 f.run ++ b2 f.hold ++
    opt4 (if f.present then some f.start.toNat else none)

/-- Codes of the source of the shown name (R123). -/
def nameSourceByte (x : NameSource) : Nat :=
  match x with
  | .assigned => 0
  | .standing => 1
  | .default => 2

/-- A message slot (Table 12-6). -/
def messageBytes (m : Option Message) : List Byte :=
  match m with
  | some x => bText x.text ++ b3 (x.left.getD 0)
  | none => bText [] ++ b3 0

/-- Row Screen of R211; line 2 is given without its fill (notes/assumptions/32.md). -/
def screenStatus (s : State) (n : Seat) : List Byte :=
  bText (shownName s n).1 ++ b1 (nameSourceByte (shownName s n).2) ++ bText (line2Text s n) ++
    messageBytes (look s.screens.messages n) ++ b1 (differingPositions s n)

/-- The body of the answer to STATUS with a seat number (R211); the notice summary comes last. -/
def statusSeatBytes (s : State) (n : Seat) : List Byte :=
  unitStatus (look s.seats n) ++ roleStatus s n ++ seatFloorStatus s n ++ timerStatus s.floor n ++
    voiceStatus s.gate n ++ screenStatus s n ++ b1 (sourceBits s.notices.summary)

/-- STATUS with a seat number (R211, R212). -/
def statusSeatReply (seat : Nat) (s : State) : Reply :=
  match index? 64 seat with
  | some n => { state := clearSeen s, code := .done, result := statusSeatBytes s n }
  | none => refusal .range s

/-- STATUS (R210, R212). -/
def execStatus (tag : Byte) (p : Option Unit) (s : State) : Result :=
  .next (runCommand (.status tag p) tag 0x08 (withForm p (fun _ => statusReply)) s)

/-- STATUS_SEAT (R211, R212). -/
def execStatusSeat (tag : Byte) (seat : Nat) (s : State) : Result :=
  .next (runCommand (.statusSeat tag seat) tag 0x08 (statusSeatReply seat) s)

end Sys2Proof.Machine
end

