-- ==== Sys2Proof/Machine/Tables.lean ====
section
/-!
DEFINITION. The cursor commands SELECT, GET and PUT with what each table's owner does, the list commands on
ASSIGN and IRCODE, and a command of an unknown code (R201, R206 to R209).
-/

namespace Sys2Proof.Machine

/-! ### Entries -/

/-- The entry of a table at an index, as GET returns it (Table 12-7, R207). -/
def entryBytes (t : TableName) (s : State) (i : Nat) : List Byte :=
  match t with
  | .seat => (s.seatTable.toList[i]?).elim [] seatEntryBytes
  | .name => (s.screens.names.toList[i]?).elim [] bText
  | .gain0 => (s.mixer.bank0.toList[i]?).elim [] b2
  | .gain1 => (s.mixer.bank1.toList[i]?).elim [] b2
  | .nom => (s.mixer.nom.toList[i]?).elim [] b2
  | .booking => (s.sched.slots.toList[i]?).elim [] slotBytes
  | .idle => idleBytes s.sched.idle
  | .display => (s.displays.presets.toList[i]?).elim [] presetBytes

/-- The CHAIR entries of the Seat Table other than one (R23). -/
def otherChairs (s : State) (n : Seat) : Nat :=
  (allSeats.filter (fun m => decide (m ≠ n) && decide ((look s.seatTable m).role = .chair))).length

/-- A Seat Table entry stored. -/
def storeSeat (n : Seat) (e : SeatEntry) (s : State) : State := s.withSeatTable (upd s.seatTable n e)

/-- A change of role takes the seat off the floor and out of the holder set before it is stored (R23, R52,
R60). -/
def changeRole (n : Seat) (e : SeatEntry) (s : State) : State :=
  afterFloor (storeSeat n e (leaveHolders n (takeOut .config .config n s)))

/-- An entry whose role stays; a changed exempt flag of an OPEN or HELD seat recomputes its timer (R24, R80). -/
def keepRole (n : Seat) (e : SeatEntry) (s : State) : State :=
  let t := storeSeat n e s
  if e.exempt = (look s.seatTable n).exempt then t
  else if hasEntry s.floor.openList n || hasEntry s.floor.shadow n then afterFloor (recomputeSeat n t)
  else t

/-- PUT at a SEAT index (R23, R24, R52). -/
def putSeatStore (n : Seat) (f : SeatFields) (s : State) : Reply :=
  match seatEntry? f with
  | none => refusal .range s
  | some e =>
    if e.role = .chair ∧ (look s.seatTable n).role ≠ .chair ∧ 2 ≤ otherChairs s n then
      refusal .range s
    else if e.role = (look s.seatTable n).role then done (keepRole n e s)
    else done (changeRole n e s)

/-- PUT at a NAME index (R121). -/
def putNameStore (i : NameNo) (x : Text) (s : State) : Reply :=
  if 24 < x.length then refusal .range s
  else done (s.withScreens { s.screens with names := upd s.screens.names i (x.map printable) })

/-- PUT at a GAIN0 or GAIN1 index (R88). -/
def putGainStore (t : TableName) (i : Fin 65) (g : Nat) (s : State) : Reply :=
  if t = .gain0 then done (s.withMixer { s.mixer with bank0 := upd s.mixer.bank0 i g })
  else done (s.withMixer { s.mixer with bank1 := upd s.mixer.bank1 i g })

/-- PUT at a NOM index: a value above 32768 is stored as 32768 (R92). -/
def putNomStore (i : Fin 8) (a : Nat) (s : State) : Reply :=
  done (s.withMixer { s.mixer with nom := upd s.mixer.nom i (min a 32768) })

/-- PUT at a BOOKING index (R161). -/
def putBookingStore (k : SlotNo) (f : BookingFields) (s : State) : Reply :=
  match look s.sched.slots k with
  | .committed _ _ _ _ _ => refusal .occupied s
  | .free =>
    match fixed? f with
    | some x => done (setSlot k (.draft x []) s)
    | none => refusal .range s
  | .draft _ items =>
    match fixed? f with
    | some x => done (setSlot k (.draft x items) s)
    | none => refusal .range s

/-- PUT at the IDLE index (R180, R181). -/
def putIdleStore (f : IdleFields) (s : State) : Reply :=
  match idle? f with
  | some x => done (storeIdle x s)
  | none => refusal .range s

/-- PUT at a DISPLAY index (R136). -/
def putDisplayStore (d : DisplayNo) (f : PresetFields) (s : State) : Reply :=
  match preset? f with
  | some p => done (s.withDisplays { s.displays with presets := upd s.displays.presets d p })
  | none => refusal .range s

/-- A store at an index of a table with `k` entries; the cursor has already been found inside the table. -/
def atIndex {α : Type} (k i : Nat) (store : Fin k → α → State → Reply) (x : α) (s : State) : Reply :=
  match index? k i with
  | some j => store j x s
  | none => refusal .range s

/-! ### SELECT, GET, PUT -/

/-- SELECT; a form error carries the cursor too (R203, notes/assumptions/26.md). -/
def selectReply (p : Option (TableName × Nat)) (s : State) : Reply :=
  match p with
  | some x => selectCursor x.1 x.2 s
  | none => { state := s, code := .range, result := cursorBytes s.port.cursor }

/-- GET; a form error carries the cursor too (R203, notes/assumptions/26.md). -/
def getReply (p : Option Unit) (s : State) : Reply :=
  match p with
  | some _ => getAtCursor (entryBytes s.port.cursor.table) s
  | none => { state := s, code := .range, result := actedAt s.port.cursor s.port.cursor }

/-- SELECT (R206). -/
def execSelect (tag : Byte) (p : Option (TableName × Nat)) (s : State) : Result :=
  .next (runCommand (.select tag p) tag 0x01 (selectReply p) s)

/-- GET (R207). -/
def execGet (tag : Byte) (p : Option Unit) (s : State) : Result :=
  .next (runCommand (.get tag p) tag 0x02 (getReply p) s)

/-- PUT to the Seat Table (R23, R208). -/
def execPutSeat (tag : Byte) (p : Option SeatFields) (s : State) : Result :=
  .next (runCommand (.putSeat tag p) tag 0x03
    (putAtCursor (fun t => decide (t = .seat)) p (fun _ i => atIndex 64 i putSeatStore)) s)

/-- PUT to the Name Table (R121, R208). -/
def execPutName (tag : Byte) (p : Option Text) (s : State) : Result :=
  .next (runCommand (.putName tag p) tag 0x03
    (putAtCursor (fun t => decide (t = .name)) p (fun _ i => atIndex 128 i putNameStore)) s)

/-- PUT to a gain bank (R88, R208). -/
def execPutGain (tag : Byte) (p : Option Nat) (s : State) : Result :=
  .next (runCommand (.putGain tag p) tag 0x03
    (putAtCursor (fun t => decide (t = .gain0) || decide (t = .gain1)) p
      (fun t i => atIndex 65 i (putGainStore t))) s)

/-- PUT to the NOM Table (R92, R208). -/
def execPutNom (tag : Byte) (p : Option Nat) (s : State) : Result :=
  .next (runCommand (.putNom tag p) tag 0x03
    (putAtCursor (fun t => decide (t = .nom)) p (fun _ i => atIndex 8 i putNomStore)) s)

/-- PUT to a booking slot (R161, R208). -/
def execPutBooking (tag : Byte) (p : Option BookingFields) (s : State) : Result :=
  .next (runCommand (.putBooking tag p) tag 0x03
    (putAtCursor (fun t => decide (t = .booking)) p (fun _ i => atIndex 16 i putBookingStore)) s)

/-- PUT to the Idle Setup (R180, R181, R208). -/
def execPutIdle (tag : Byte) (p : Option IdleFields) (s : State) : Result :=
  .next (runCommand (.putIdle tag p) tag 0x03
    (putAtCursor (fun t => decide (t = .idle)) p (fun _ _ => putIdleStore)) s)

/-- PUT to the Display Preset Table (R136, R208). -/
def execPutDisplay (tag : Byte) (p : Option PresetFields) (s : State) : Result :=
  .next (runCommand (.putDisplay tag p) tag 0x03
    (putAtCursor (fun t => decide (t = .display)) p (fun _ i => atIndex 4 i putDisplayStore)) s)

/-! ### ASSIGN lists -/

/-- One item joins a list: it replaces the name index of a listed seat, or joins the tail (R163). -/
def addItem (l : List Item) (x : Item) : List Item :=
  if l.any (fun y => decide (y.seat = x.seat)) then
    l.map (fun y => if y.seat = x.seat then { y with name := x.name } else y)
  else l ++ [x]

/-- LIST CLEAR on ASSIGN (R163). -/
def clearAssignReply (slot : Nat) (s : State) : Reply :=
  match index? 16 slot with
  | none => refusal .range s
  | some k =>
    match look s.sched.slots k with
    | .draft f _ => done (setSlot k (.draft f []) s)
    | _ => refusal .state s

/-- LIST ADD on ASSIGN (R163). -/
def addAssignReply (slot : Nat) (raw : List (Nat × Nat)) (s : State) : Reply :=
  match index? 16 slot, items? raw with
  | some k, some xs =>
    if xs.length = 0 ∨ 12 < xs.length then refusal .range s
    else
      match look s.sched.slots k with
      | .draft f items =>
        let all := xs.foldl addItem items
        if 64 < all.length ∨ 256 < poolInUse s.sched + (all.length - items.length) then
          refusal .space s
        else done (setSlot k (.draft f all) s)
      | _ => refusal .state s
  | _, _ => refusal .range s

/-- LIST GET on ASSIGN (R164). -/
def getAssignReply (slot offset : Nat) (s : State) : Reply :=
  match index? 16 slot with
  | none => refusal .range s
  | some k =>
    let items := slotItems (look s.sched.slots k)
    if items.length < offset then refusal .range s
    else
      { state := s, code := .done
        result := b1 items.length ++
          counted1 ((items.drop offset).take 12) (fun x => b1 x.seat.val ++ b1 x.name.val) }

/-- LIST_CLEAR_ASSIGN (R163). -/
def execListClearAssign (tag : Byte) (p : Option Nat) (s : State) : Result :=
  .next (runCommand (.listClearAssign tag p) tag 0x04 (withForm p clearAssignReply) s)

/-- LIST_ADD_ASSIGN (R163). -/
def execListAddAssign (tag : Byte) (p : Option (Nat × List (Nat × Nat))) (s : State) : Result :=
  .next (runCommand (.listAddAssign tag p) tag 0x05 (withForm p (fun x => addAssignReply x.1 x.2)) s)

/-- LIST_GET_ASSIGN (R164). -/
def execListGetAssign (tag : Byte) (p : Option (Nat × Nat)) (s : State) : Result :=
  .next (runCommand (.listGetAssign tag p) tag 0x06 (withForm p (fun x => getAssignReply x.1 x.2)) s)

/-! ### IRCODE lists -/

/-- A code list replaced. -/
def setCode (c : CodeSlot) (x : CodeList) (s : State) : State :=
  s.withDisplays { s.displays with codes := upd s.displays.codes c x }

/-- LIST CLEAR on IRCODE (R138). DESIGN CHOICE: `RANGE` comes before `BUSY`, as R139 has it for LIST ADD
(notes/assumptions/38.md). -/
def clearCodeReply (slot times gap : Nat) (s : State) : Reply :=
  match index? 24 slot with
  | none => refusal .range s
  | some c =>
    if times = 0 ∨ 4 < times ∨ 255 < gap then refusal .range s
    else if inFlightSlot s.displays = some c then refusal .busy s
    else done (setCode c { pairs := [], times := times, gap := gap } s)

/-- LIST ADD on IRCODE, by the checks of R139 in their order. -/
def addCodeReply (slot : Nat) (pairs : List (Nat × Nat)) (s : State) : Reply :=
  match index? 24 slot with
  | none => refusal .range s
  | some c =>
    let x := look s.displays.codes c
    if pairs.length = 0 ∨ 6 < pairs.length ∨ pairs.any (fun p => decide (p.1 = 0 ∨ p.2 = 0)) then
      refusal .range s
    else if inFlightSlot s.displays = some c then refusal .busy s
    else if 40 < x.pairs.length + pairs.length then refusal .space s
    else done (setCode c { x with pairs := x.pairs ++ pairs } s)

/-- LIST GET on IRCODE (R140). -/
def getCodeReply (slot offset : Nat) (s : State) : Reply :=
  match index? 24 slot with
  | none => refusal .range s
  | some c =>
    let x := look s.displays.codes c
    if x.pairs.length < offset then refusal .range s
    else
      { state := s, code := .done
        result := b1 x.pairs.length ++ b1 x.times ++ b2 x.gap ++
          counted1 ((x.pairs.drop offset).take 6) (fun p => b2 p.1 ++ b2 p.2) }

/-- LIST_CLEAR_IRCODE (R138). -/
def execListClearIrcode (tag : Byte) (p : Option (Nat × Nat × Nat)) (s : State) : Result :=
  .next (runCommand (.listClearIrcode tag p) tag 0x04
    (withForm p (fun x => clearCodeReply x.1 x.2.1 x.2.2)) s)

/-- LIST_ADD_IRCODE (R139). -/
def execListAddIrcode (tag : Byte) (p : Option (Nat × List (Nat × Nat))) (s : State) : Result :=
  .next (runCommand (.listAddIrcode tag p) tag 0x05 (withForm p (fun x => addCodeReply x.1 x.2)) s)

/-- LIST_GET_IRCODE (R140). -/
def execListGetIrcode (tag : Byte) (p : Option (Nat × Nat)) (s : State) : Result :=
  .next (runCommand (.listGetIrcode tag p) tag 0x06 (withForm p (fun x => getCodeReply x.1 x.2)) s)

/-! ### Unknown codes -/

/-- UNKNOWN_COMMAND: a code that Table 12-5 does not list is answered `UNKNOWN` (R201, R219). -/
def execUnknownCommand (tag code : Byte) (s : State) : Result :=
  .next (if isKnown code then s
    else runCommand (.unknownCommand tag code) tag code (refusal .unknown) s)

end Sys2Proof.Machine
end

