-- ==== Sys2Proof/Machine/Dispatch.lean ====
section
/-!
DEFINITION. The dispatch: one arm per command, each a direct call of its meaning.
-/

namespace Sys2Proof.Machine

/-- The effect of a command on everything but the queue of waiting commands. -/
def exec (i : Instr) (s : State) : Host.Outcome State Fault Refusal :=
  match i with
  | .resetPin lowNs => Sys2Proof.Machine.execResetPin lowNs s
  | .incomingFrame link bytes => Sys2Proof.Machine.execIncomingFrame link bytes s
  | .outgoingFrame => Sys2Proof.Machine.execOutgoingFrame s
  | .answerSent => Sys2Proof.Machine.execAnswerSent s
  | .noticeSent => Sys2Proof.Machine.execNoticeSent s
  | .superframeStart limitsFirst => Sys2Proof.Machine.execSuperframeStart limitsFirst s
  | .speakingWarning seat => Sys2Proof.Machine.execSpeakingWarning seat s
  | .speakingLimitClose seat => Sys2Proof.Machine.execSpeakingLimitClose seat s
  | .speakingLimitNotify seat => Sys2Proof.Machine.execSpeakingLimitNotify seat s
  | .minuteBoundary => Sys2Proof.Machine.execMinuteBoundary s
  | .superframeEnd => Sys2Proof.Machine.execSuperframeEnd s
  | .chainLock link => Sys2Proof.Machine.execChainLock link s
  | .chainUnlock link => Sys2Proof.Machine.execChainUnlock link s
  | .alertSample level => Sys2Proof.Machine.execAlertSample level s
  | .refusedTimerExpiry seat => Sys2Proof.Machine.execRefusedTimerExpiry seat s
  | .messageExpiry seat => Sys2Proof.Machine.execMessageExpiry seat s
  | .voiceEvaluation => Sys2Proof.Machine.execVoiceEvaluation s
  | .presenceEnd seat => Sys2Proof.Machine.execPresenceEnd seat s
  | .quietTimeout => Sys2Proof.Machine.execQuietTimeout s
  | .warmExpiry display => Sys2Proof.Machine.execWarmExpiry display s
  | .coolExpiry display => Sys2Proof.Machine.execCoolExpiry display s
  | .irTransmissionStart instant => Sys2Proof.Machine.execIrTransmissionStart instant s
  | .irTransmissionComplete => Sys2Proof.Machine.execIrTransmissionComplete s
  | .commandCellArrival => Sys2Proof.Machine.execCommandCellArrival s
  | .unknownCommand tag code => Sys2Proof.Machine.execUnknownCommand tag code s
  | .select tag params => Sys2Proof.Machine.execSelect tag params s
  | .get tag params => Sys2Proof.Machine.execGet tag params s
  | .putSeat tag params => Sys2Proof.Machine.execPutSeat tag params s
  | .putName tag params => Sys2Proof.Machine.execPutName tag params s
  | .putGain tag params => Sys2Proof.Machine.execPutGain tag params s
  | .putNom tag params => Sys2Proof.Machine.execPutNom tag params s
  | .putBooking tag params => Sys2Proof.Machine.execPutBooking tag params s
  | .putIdle tag params => Sys2Proof.Machine.execPutIdle tag params s
  | .putDisplay tag params => Sys2Proof.Machine.execPutDisplay tag params s
  | .listClearAssign tag params => Sys2Proof.Machine.execListClearAssign tag params s
  | .listClearIrcode tag params => Sys2Proof.Machine.execListClearIrcode tag params s
  | .listAddAssign tag params => Sys2Proof.Machine.execListAddAssign tag params s
  | .listAddIrcode tag params => Sys2Proof.Machine.execListAddIrcode tag params s
  | .listGetAssign tag params => Sys2Proof.Machine.execListGetAssign tag params s
  | .listGetIrcode tag params => Sys2Proof.Machine.execListGetIrcode tag params s
  | .status tag params => Sys2Proof.Machine.execStatus tag params s
  | .statusSeat tag seat => Sys2Proof.Machine.execStatusSeat tag seat s
  | .restart tag params => Sys2Proof.Machine.execRestart tag params s
  | .seatOpen tag seat => Sys2Proof.Machine.execSeatOpen tag seat s
  | .seatClose tag seat => Sys2Proof.Machine.execSeatClose tag seat s
  | .grantNext tag params => Sys2Proof.Machine.execGrantNext tag params s
  | .queueClear tag params => Sys2Proof.Machine.execQueueClear tag params s
  | .floorSet tag setup => Sys2Proof.Machine.execFloorSet tag setup s
  | .priorityOn tag params => Sys2Proof.Machine.execPriorityOn tag params s
  | .priorityOff tag params => Sys2Proof.Machine.execPriorityOff tag params s
  | .bankSelect tag bank => Sys2Proof.Machine.execBankSelect tag bank s
  | .clipRead tag params => Sys2Proof.Machine.execClipRead tag params s
  | .meterRead tag params => Sys2Proof.Machine.execMeterRead tag params s
  | .seatMessage tag params => Sys2Proof.Machine.execSeatMessage tag params s
  | .messageClear tag target => Sys2Proof.Machine.execMessageClear tag target s
  | .displayPowerOn tag params => Sys2Proof.Machine.execDisplayPowerOn tag params s
  | .displayPowerOff tag params => Sys2Proof.Machine.execDisplayPowerOff tag params s
  | .displayInput tag params => Sys2Proof.Machine.execDisplayInput tag params s
  | .clockSet tag params => Sys2Proof.Machine.execClockSet tag params s
  | .clockGet tag params => Sys2Proof.Machine.execClockGet tag params s
  | .commit tag slot => Sys2Proof.Machine.execCommit tag slot s
  | .extend tag params => Sys2Proof.Machine.execExtend tag params s
  | .endNow tag slot => Sys2Proof.Machine.execEndNow tag slot s
  | .cancel tag slot => Sys2Proof.Machine.execCancel tag slot s
  | .logRead tag params => Sys2Proof.Machine.execLogRead tag params s
  | .noticeSet tag params => Sys2Proof.Machine.execNoticeSet tag params s

end Sys2Proof.Machine
end

