-- ==== Sys2Proof/Safety.lean ====
section
/-!
DEFINITION. The terms the statements use: when a command is carried out, what a state answers, the laws that the
spec gives for every state (R148, R185, R190, R26, R30, R33, R56, R59, R200, R202), and the frames of the
blocks.
-/

namespace Sys2Proof.Machine

/-! ### Execution -/

/-- The command is carried out in this state: the Answer FIFO has room, and the command stands at the head of the
Command FIFO, or comes on a LOCKED trunk with the FIFO empty (R9, R201, notes/assumptions/8.md). `rest`: the cells behind it. -/
def Ready (i : Instr) (s : State) (rest : List CommandCell) : Prop :=
  s.port.answers.length < 8 ∧
    ((s.port.fifo = [] ∧ s.links.trunk.locked = true ∧ rest = []) ∨
      ∃ c, s.port.fifo = c :: rest ∧ commandOf s.port.cursor.table c = i)

/-- The Command Port after an execution: the command has left the Command FIFO and its answer has joined the tail
of the Answer FIFO (R201). -/
def portAfter (p : Port) (rest : List CommandCell) (tag code : Byte) (answer : AnswerCode)
    (result : List Byte) : Port :=
  { p with fifo := rest
           answers := p.answers ++ [{ tag := tag, code := code, answer := answer, result := result }] }

/-- The Command Port after an execution of SELECT, GET or PUT, which also leave the cursor somewhere (R206 to
R208). -/
def portMoved (p : Port) (rest : List CommandCell) (tag code : Byte) (answer : AnswerCode)
    (result : List Byte) (cursor : Cursor) : Port :=
  { portAfter p rest tag code answer result with cursor := cursor }

/-- The tag and the command code of a row that a command cell spells (Table 12-5); none for the other rows. -/
def rowCell (i : Instr) : Option (Byte × Byte) :=
  match i with
  | .resetPin _ => none
  | .incomingFrame _ _ => none
  | .outgoingFrame => none
  | .answerSent => none
  | .noticeSent => none
  | .superframeStart _ => none
  | .speakingWarning _ => none
  | .speakingLimitClose _ => none
  | .speakingLimitNotify _ => none
  | .minuteBoundary => none
  | .superframeEnd => none
  | .chainLock _ => none
  | .chainUnlock _ => none
  | .alertSample _ => none
  | .refusedTimerExpiry _ => none
  | .messageExpiry _ => none
  | .voiceEvaluation => none
  | .presenceEnd _ => none
  | .quietTimeout => none
  | .warmExpiry _ => none
  | .coolExpiry _ => none
  | .irTransmissionStart _ => none
  | .irTransmissionComplete => none
  | .commandCellArrival => none
  | .unknownCommand tag code => some (tag, code)
  | .select tag _ => some (tag, 0x01)
  | .get tag _ => some (tag, 0x02)
  | .putSeat tag _ => some (tag, 0x03)
  | .putName tag _ => some (tag, 0x03)
  | .putGain tag _ => some (tag, 0x03)
  | .putNom tag _ => some (tag, 0x03)
  | .putBooking tag _ => some (tag, 0x03)
  | .putIdle tag _ => some (tag, 0x03)
  | .putDisplay tag _ => some (tag, 0x03)
  | .listClearAssign tag _ => some (tag, 0x04)
  | .listClearIrcode tag _ => some (tag, 0x04)
  | .listAddAssign tag _ => some (tag, 0x05)
  | .listAddIrcode tag _ => some (tag, 0x05)
  | .listGetAssign tag _ => some (tag, 0x06)
  | .listGetIrcode tag _ => some (tag, 0x06)
  | .status tag _ => some (tag, 0x08)
  | .statusSeat tag _ => some (tag, 0x08)
  | .restart tag _ => some (tag, 0x09)
  | .seatOpen tag _ => some (tag, 0x10)
  | .seatClose tag _ => some (tag, 0x11)
  | .grantNext tag _ => some (tag, 0x12)
  | .queueClear tag _ => some (tag, 0x13)
  | .floorSet tag _ => some (tag, 0x14)
  | .priorityOn tag _ => some (tag, 0x15)
  | .priorityOff tag _ => some (tag, 0x16)
  | .bankSelect tag _ => some (tag, 0x20)
  | .clipRead tag _ => some (tag, 0x21)
  | .meterRead tag _ => some (tag, 0x22)
  | .seatMessage tag _ => some (tag, 0x28)
  | .messageClear tag _ => some (tag, 0x29)
  | .displayPowerOn tag _ => some (tag, 0x30)
  | .displayPowerOff tag _ => some (tag, 0x30)
  | .displayInput tag _ => some (tag, 0x31)
  | .clockSet tag _ => some (tag, 0x38)
  | .clockGet tag _ => some (tag, 0x39)
  | .commit tag _ => some (tag, 0x40)
  | .extend tag _ => some (tag, 0x41)
  | .endNow tag _ => some (tag, 0x42)
  | .cancel tag _ => some (tag, 0x43)
  | .logRead tag _ => some (tag, 0x48)
  | .noticeSet tag _ => some (tag, 0x49)

/-- The rows whose parameters do not have the command's form, but for the rows of the cursor (R204). -/
def isFormError (i : Instr) : Bool :=
  match i with
  | .resetPin _ => false
  | .incomingFrame _ _ => false
  | .outgoingFrame => false
  | .answerSent => false
  | .noticeSent => false
  | .superframeStart _ => false
  | .speakingWarning _ => false
  | .speakingLimitClose _ => false
  | .speakingLimitNotify _ => false
  | .minuteBoundary => false
  | .superframeEnd => false
  | .chainLock _ => false
  | .chainUnlock _ => false
  | .alertSample _ => false
  | .refusedTimerExpiry _ => false
  | .messageExpiry _ => false
  | .voiceEvaluation => false
  | .presenceEnd _ => false
  | .quietTimeout => false
  | .warmExpiry _ => false
  | .coolExpiry _ => false
  | .irTransmissionStart _ => false
  | .irTransmissionComplete => false
  | .commandCellArrival => false
  | .unknownCommand _ _ => false
  | .select _ _ => false
  | .get _ _ => false
  | .putSeat _ _ => false
  | .putName _ _ => false
  | .putGain _ _ => false
  | .putNom _ _ => false
  | .putBooking _ _ => false
  | .putIdle _ _ => false
  | .putDisplay _ _ => false
  | .listClearAssign _ p => p.isNone
  | .listClearIrcode _ p => p.isNone
  | .listAddAssign _ p => p.isNone
  | .listAddIrcode _ p => p.isNone
  | .listGetAssign _ p => p.isNone
  | .listGetIrcode _ p => p.isNone
  | .status _ p => p.isNone
  | .statusSeat _ _ => false
  | .restart _ p => p.isNone
  | .seatOpen _ p => p.isNone
  | .seatClose _ p => p.isNone
  | .grantNext _ p => p.isNone
  | .queueClear _ p => p.isNone
  | .floorSet _ p => p.isNone
  | .priorityOn _ p => p.isNone
  | .priorityOff _ p => p.isNone
  | .bankSelect _ p => p.isNone
  | .clipRead _ p => p.isNone
  | .meterRead _ p => p.isNone
  | .seatMessage _ p => p.isNone
  | .messageClear _ p => p.isNone
  | .displayPowerOn _ p => p.isNone
  | .displayPowerOff _ p => p.isNone
  | .displayInput _ p => p.isNone
  | .clockSet _ p => p.isNone
  | .clockGet _ p => p.isNone
  | .commit _ p => p.isNone
  | .extend _ p => p.isNone
  | .endNow _ p => p.isNone
  | .cancel _ p => p.isNone
  | .logRead _ p => p.isNone
  | .noticeSet _ p => p.isNone

/-- Nothing is owed to the frame that is to be sent; the counts of the timers are not owed to it
(notes/assumptions/6.md, 15.md). -/
def frameSettled (s : State) : Prop := settleFrame s = s

/-- Nobody waits to open: the Request Queue and the arming are empty. -/
def nobodyWaits (s : State) : Prop := s.floor.queue = [] ∧ s.floor.armed = []

/-- A step stops: it answers a fault or a refusal. No step of the TH-64 does. -/
def stops (o : Host.Outcome State Fault Refusal) : Prop :=
  match o with
  | .next _ => False
  | .fault _ => True
  | .refused _ => True

/-! ### Executions -/

/-- The state in which a ready command acts: it has left the Command FIFO (R201 step 2). -/
def taken (s : State) (rest : List CommandCell) : State := s.withPort { s.port with fifo := rest }

/-- A state with one more answer at the tail of the Answer FIFO (R201 step 4). -/
def answered (tag code : Byte) (answer : AnswerCode) (result : List Byte) (u : State) : State :=
  u.withPort
    { u.port with
      answers := u.port.answers ++ [{ tag := tag, code := code, answer := answer, result := result }] }

/-- The Command Port after a PUT at the cursor: its answer names the entry and the cursor, which has moved on
(R208, 12.2). -/
def putPort (p : Port) (rest : List CommandCell) (tag : Byte) (answer : AnswerCode) : Port :=
  portMoved p rest tag 0x03 answer
    (b1 (tableByte p.cursor.table) ++ b1 p.cursor.index ++ b1 (tableByte p.cursor.table) ++
      b1 (p.cursor.index + 1))
    { p.cursor with index := p.cursor.index + 1 }

/-! ### Changes of the floor -/

/-- A new entry of the Open List, its timer at 0, RUNNING, with no flag set (R31, R72, R75). -/
def freshEntry (s : State) (how : How) (n : Seat) : Entry :=
  let chair := decide (effectiveRole s n = .chair)
  let free := chair || (look s.seatTable n).exempt
  { seat := n, chair := chair, how := how
    timer :=
      { elapsed := 0, running := true, owed := false, warned := false, overtime := false
        warn := if free then none else s.floor.setup.limit.map (fun l => (l - s.floor.setup.lead) * 1000)
        limit := if free then none else s.floor.setup.limit.map (fun l => l * 1000) } }

/-- A seat has joined the tail of the Open List, with MIC_OPEN; it is in no other list (R31, R32). -/
def withOpened (how : How) (n : Seat) (s : State) : State :=
  record (.micOpen how) (some n)
    (s.withFloor
      { s.floor with
        openList := s.floor.openList ++ [freshEntry s how n]
        queue := s.floor.queue.filter (fun r => decide (r.seat ≠ n))
        armed := s.floor.armed.filter (fun m => decide (m ≠ n)) })

/-- A seat has left the Open List, with MIC_CLOSE (R31). -/
def withClosed (reason : CloseReason) (n : Seat) (s : State) : State :=
  record (.micClose reason) (some n)
    (s.withFloor
      { s.floor with openList := s.floor.openList.filter (fun e => decide (e.seat ≠ n)) })

/-- A seat has left the Hold Shadow, with MIC_CLOSE (R59). -/
def withUnheld (reason : CloseReason) (n : Seat) (s : State) : State :=
  record (.micClose reason) (some n)
    (s.withFloor { s.floor with shadow := s.floor.shadow.filter (fun e => decide (e.seat ≠ n)) })

/-- A seat has left the Request Queue, with CANCEL (R32). -/
def withCancelled (reason : CancelReason) (n : Seat) (s : State) : State :=
  record (.cancel reason) (some n)
    (s.withFloor { s.floor with queue := s.floor.queue.filter (fun r => decide (r.seat ≠ n)) })

/-- A seat has left the arming; no record (R38). -/
def withDisarmed (n : Seat) (s : State) : State :=
  s.withFloor { s.floor with armed := s.floor.armed.filter (fun m => decide (m ≠ n)) }

/-- A seat has left whatever part it had on the floor: MIC_CLOSE from a list, CANCEL from the queue, no record from the
arming (R44, R51, R52). -/
def withLeft (close : CloseReason) (cancel : CancelReason) (n : Seat) (s : State) : State :=
  match micState s.floor n with
  | .opened => withClosed close n s
  | .waiting => withCancelled cancel n s
  | .held => withUnheld close n s
  | .armed => withDisarmed n s
  | .off => s

/-- The delegates have moved to the Hold Shadow, PAUSED, and the floor is in HOLD, with HOLD_START (R58). -/
def withHold (seat : Option Seat) (s : State) : State :=
  record (.holdStart (s.floor.openList.filter (fun e => !e.chair)).length) seat
    (s.withFloor
      { s.floor with
        phase := .hold
        openList := s.floor.openList.filter (fun e => e.chair)
        shadow := (s.floor.openList.filter (fun e => !e.chair)).map
          (fun e => { e with timer := { e.timer with running := false, owed := false } }) })

/-- The record now newest was the last to be appended, with these contents (R186). -/
def newestIs (t : State) (event : LogEvent) (seat : Option Seat) (booking : Option Nat) : Prop :=
  t.log.ring.getLast? =
    some { seq := t.log.nextSeq - 1, time := t.clock.time, event := event, seat := seat
           booking := booking }

/-- The floor with nobody on it and no holder, in a floor state, with a meeting and a Floor Setup. -/
def emptyFloor (phase : FloorState) (setup : FloorSetup) (meeting : Meeting) : Floor :=
  { phase := phase, setup := setup, meeting := meeting, openList := [], queue := [], shadow := []
    armed := [], holders := [], remote := false }

/-- No seat appears twice in a list of entries. -/
def seatsDistinct (l : List Entry) : Prop := (l.map Entry.seat).Nodup

/-! ### Laws -/

/-- In DIRECT, and in QUEUED with auto-advance, no slot stays free while the queue holds a seat (R40). -/
def advanceLaw (s : State) : Prop :=
  (s.floor.setup.mode = .direct ∨ s.floor.setup.mode = .queued ∧ s.floor.setup.autoAdvance = true) →
    slotFree s.floor = true → s.floor.queue = []

/-- LOG is set exactly while a record is unread, CLIP exactly while a clip counter is above 0, and CLOCK exactly
while the room clock is invalid (R190). -/
def summaryLaw (s : State) : Prop :=
  s.notices.summary.log = decide (0 < s.log.unread) ∧
  s.notices.summary.clip = decide (0 < s.mixer.clipFloor ∨ 0 < s.mixer.clipFar) ∧
  s.notices.summary.clock = !s.clock.valid

/-- The sequence numbers of a ring are consecutive and end at `last` (R185). -/
def consecutive (last : SeqNo) : List LogRecord → Prop
  | [] => True
  | r :: l => r.seq = last - BitVec.ofNat 16 l.length ∧ consecutive last l

/-- The ring holds at most 256 records, no more are unread than are held, and the sequence numbers are consecutive
up to the one before the next (R185). -/
def logLaw (s : State) : Prop :=
  s.log.ring.length ≤ 256 ∧ s.log.unread ≤ s.log.ring.length ∧
    consecutive (s.log.nextSeq - 1) s.log.ring

/-- Both FIFOs hold at most 8 (R200, R202). -/
def fifoLaw (s : State) : Prop := s.port.fifo.length ≤ 8 ∧ s.port.answers.length ≤ 8

/-- The codes that wait in the IR Send Queue for a display (R148). -/
def waitingCodes (x : Displays) (d : DisplayNo) : List IrCode :=
  (x.queue.filter (fun e => decide (e.display = d))).map IrEntry.code

/-- The code in flight for a display, if any (R149). -/
def flyingCode (x : Displays) (d : DisplayNo) : Option IrCode :=
  x.inFlight.bind (fun f => if f.entry.display = d then some f.entry.code else none)

/-- An input code. -/
def isInput (c : IrCode) : Bool :=
  match c with
  | .input _ => true
  | _ => false

/-- What may wait and fly for a display in each of its states, and where its timer may run (R141, R143 to R148). -/
def displayLawFor (x : Displays) (d : DisplayNo) : Prop :=
  let r := look x.records d
  let w := waitingCodes x d
  let f := flyingCode x d
  match r.state, r.phase with
  | .off, none => w = [] ∧ f = none ∧ r.timer = 0
  | .cooling, none => w = [] ∧ f = none
  | .warming, some .sending =>
    ((w = [.powerOn] ∧ f = none) ∨ (w = [] ∧ f = some .powerOn)) ∧ r.timer = 0
  | .warming, some .timing => w = [] ∧ f = none
  | .on, some .steady => w.length ≤ 1 ∧ w.all isInput = true ∧ f.all isInput = true ∧ r.timer = 0
  | .warming, some .stopping =>
    ((w = [.powerOff] ∧ f ≠ some .powerOff) ∨ (w = [] ∧ f = some .powerOff)) ∧ r.timer = 0
  | .on, some .stopping =>
    ((w = [.powerOff] ∧ f ≠ some .powerOff) ∨ (w = [] ∧ f = some .powerOff)) ∧ r.timer = 0
  | _, _ => False

/-- The law of the displays and the IR Send Queue. It gives R148's: at most one waiting entry per display. -/
def displayLaw (s : State) : Prop := ∀ d : DisplayNo, displayLawFor s.displays d

/-- A Floor Setup's max open lies in its range (Table 2-1). -/
def setupFits (f : FloorSetup) : Bool := decide (1 ≤ f.maxOpen) && decide (f.maxOpen ≤ 6)

/-- Every Floor Setup that the machine holds has its max open in range (R28). -/
def setupsLaw (s : State) : Prop :=
  setupFits s.floor.setup = true ∧ setupFits s.sched.idle.setup = true ∧
    ∀ k : SlotNo, (slotFixed (look s.sched.slots k)).all (fun f => setupFits f.setup) = true

/-- The law of the floor: HOLD exactly while there is a holder (R56), the Hold Shadow empty outside HOLD (R59),
nothing on the floor in CLOSED and ALERT (R26, R68), ALERT exactly while the filtered level is active (R67), CLOSED
only with no meeting, no delegate open in HOLD (R62),
never more delegates than max open (R31), and at most 24 seats in the queue (R32). -/
def floorLaw (s : State) : Prop :=
  let f := s.floor
  (f.phase = .hold ↔ holdersSome f = true) ∧
  (f.phase ≠ .hold → f.shadow = []) ∧
  (f.phase = .closed ∨ f.phase = .alert → f.openList = [] ∧ f.queue = [] ∧ f.armed = []) ∧
  (f.phase = .alert ↔ s.alert.level = true) ∧
  (f.phase = .closed → f.meeting = .none) ∧
  (f.phase = .running ∨ f.phase = .hold → f.meeting ≠ .none) ∧
  (f.phase = .hold → delegates f = 0) ∧
  delegates f ≤ f.setup.maxOpen ∧
  f.queue.length ≤ 24 ∧
  setupsLaw s

/-! ### Frames -/

/-- Every block but the floor, the seat units, the log, the notices and the Voice Gate is as it was. -/
structure floorFrame (s t : State) : Prop where
  time : t.time = s.time
  links : t.links = s.links
  audio : t.audio = s.audio
  seatTable : t.seatTable = s.seatTable
  alert : t.alert = s.alert
  mixer : t.mixer = s.mixer
  screens : t.screens = s.screens
  displays : t.displays = s.displays
  clock : t.clock = s.clock
  sched : t.sched = s.sched
  port : t.port = s.port
  sent : t.sent = s.sent
  due : t.due = s.due
  draws : t.draws = s.draws
  pending : t.pending = s.pending

/-- Every block but the displays, the log and the notices is as it was: what the Display Sequencer and the IR Emitter
leave alone (R142, R149, R152). -/
structure emitterFrame (s t : State) : Prop where
  time : t.time = s.time
  links : t.links = s.links
  audio : t.audio = s.audio
  seats : t.seats = s.seats
  seatTable : t.seatTable = s.seatTable
  floor : t.floor = s.floor
  alert : t.alert = s.alert
  mixer : t.mixer = s.mixer
  gate : t.gate = s.gate
  screens : t.screens = s.screens
  clock : t.clock = s.clock
  sched : t.sched = s.sched
  port : t.port = s.port
  sent : t.sent = s.sent
  due : t.due = s.due
  pending : t.pending = s.pending

/-- The Voice Gate but for the filters of seats outside the filtered set, which are at rest (R110). -/
def gateFrame (s t : State) : Prop :=
  t.gate.forming = s.gate.forming ∧ t.gate.lastPeak = s.gate.lastPeak ∧ t.gate.meters = s.gate.meters ∧
    t.gate.threshold = s.gate.threshold ∧ t.gate.hold = s.gate.hold ∧
    ∀ n : Seat, look t.gate.filters n = if inFilteredSet t n then look s.gate.filters n else .rest

end Sys2Proof.Machine
end

