-- ==== Sys2Proof/Certificates/Slice0/Obligations.lean ====
section
/-!
DEFINITION. The statements for the provers. Terms that the spec does not use stand in Sys2Proof/Safety.lean.
-/

section Statements

open Sys2Proof Sys2Proof.Machine

/-! ### The machine -/

/-- A step carries out the command at the front of the queue on the state with the queue's rest, and idles on an
empty queue (the model's choice, notes/assumptions/1.md). -/
def Obligations.StepRunsFrontCommand : Prop :=
  (∀ (c : Instr) (rest : List Instr) (s : State), s.pending = c :: rest →
    step s = exec c (s.withPending rest)) ∧
  (∀ s : State, s.pending = [] → step s = .next s)

/-- Every command answers a next state in every state, and leaves the queue of waiting commands as it is. -/
def Obligations.EveryCommandAnswersNext : Prop :=
  ∀ (c : Instr) (s : State), ∃ t : State, exec c s = .next t ∧ t.pending = s.pending

/-- The notice summary agrees with what it summarises, after every step (R190). -/
def Obligations.SummaryLawKept : Prop :=
  ∀ s t : State, summaryLaw s → step s = .next t → summaryLaw t

/-- The log's sizes and its consecutive sequence numbers, after every step (R185). -/
def Obligations.LogLawKept : Prop :=
  ∀ s t : State, logLaw s → step s = .next t → logLaw t

/-- At most one waiting entry per display, and what may wait and fly in each display state, after every step
(R148). -/
def Obligations.DisplayLawKept : Prop :=
  (∀ s t : State, displayLaw s → step s = .next t → displayLaw t) ∧
  (∀ s : State, displayLaw s → ∀ d : DisplayNo, (waitingCodes s.displays d).length ≤ 1)

/-- The laws of the floor, after every step (R26, R31, R32, R56, R59). -/
def Obligations.FloorLawKept : Prop :=
  ∀ s t : State, floorLaw s → step s = .next t → floorLaw t

/-- In DIRECT and in QUEUED with auto-advance no slot stays free while a seat waits, after every step (R40). -/
def Obligations.AdvanceLawKept : Prop :=
  ∀ s t : State, advanceLaw s → step s = .next t → advanceLaw t

/-- Neither FIFO of the Command Port ever holds more than 8, after every step (R200, R202). -/
def Obligations.FifoLawKept : Prop :=
  ∀ s t : State, fifoLaw s → step s = .next t → fifoLaw t

/-- The machine after RESET meets every law. -/
def Obligations.ResetMeetsTheLaws : Prop :=
  summaryLaw State.reset ∧ logLaw State.reset ∧ displayLaw State.reset ∧ floorLaw State.reset ∧
    fifoLaw State.reset ∧ advanceLaw State.reset

/-- A low level of 10 µs or more on RESET gives every item its reset value; a shorter one changes nothing
(R222). The waiting commands and the counter of free values are the model's own (notes/assumptions/3.md). -/
def Obligations.ResetPinResets : Prop :=
  ∀ (lowNs : Nat) (s : State),
    (10000 ≤ lowNs →
      exec (.resetPin lowNs) s =
        .next ((State.reset.withPending s.pending).withDraws s.draws)) ∧
    (lowNs < 10000 → exec (.resetPin lowNs) s = .next s)

/-! ### The Command Port -/

/-- With 8 answers waiting, no command is carried out (R201), and none on an UNLOCKED trunk with the Command FIFO empty
(R9; a row that comes with the FIFO empty is one that arrives then, notes/assumptions/8.md).
A command of a code that Table 12-5 does not list is answered `UNKNOWN` and changes nothing but the FIFOs (R201,
R219). A form error is answered `RANGE` and changes nothing but the FIFOs; with SELECT, GET and PUT the answer
carries the cursor, which stays (R204; the cursor in that answer is the model's choice,
notes/assumptions/26.md). -/
def Obligations.WaitingAndFormErrors : Prop :=
  (∀ (i : Instr) (s : State), (rowCell i).isSome = true →
    8 ≤ s.port.answers.length ∨ s.port.fifo = [] ∧ s.links.trunk.locked = false →
    exec i s = .next s) ∧
  (∀ (i : Instr) (s : State) (rest : List CommandCell) (tag code : Byte),
    isFormError i = true → rowCell i = some (tag, code) → Ready i s rest →
    exec i s = .next (s.withPort (portAfter s.port rest tag code .range []))) ∧
  (∀ (s : State) (rest : List CommandCell) (tag : Byte), Ready (.select tag none) s rest →
    exec (.select tag none) s =
      .next (s.withPort (portAfter s.port rest tag 0x01 .range (cursorBytes s.port.cursor)))) ∧
  (∀ (s : State) (rest : List CommandCell) (tag : Byte), Ready (.get tag none) s rest →
    exec (.get tag none) s =
      .next (s.withPort (portAfter s.port rest tag 0x02 .range
        (actedAt s.port.cursor s.port.cursor)))) ∧
  (∀ (i : Instr) (s : State) (rest : List CommandCell) (tag : Byte),
    i ∈ [Instr.putSeat tag none, .putName tag none, .putGain tag none, .putNom tag none,
      .putBooking tag none, .putIdle tag none, .putDisplay tag none] → Ready i s rest →
    exec i s =
      .next (s.withPort (portAfter s.port rest tag 0x03 .range
        (actedAt s.port.cursor s.port.cursor)))) ∧
  (∀ (s : State) (rest : List CommandCell) (tag code : Byte), isKnown code = false →
    Ready (.unknownCommand tag code) s rest →
    exec (.unknownCommand tag code) s = .next (s.withPort (portAfter s.port rest tag code .unknown [])))

/-- The parameters do not have the command's form (R204), as the rows of a tag spell it. -/
def Statements.formless (tag : Byte) (i : Instr) : Prop :=
  isFormError i = true ∨
    i ∈ [Instr.select tag none, .get tag none, .putSeat tag none, .putName tag none, .putGain tag none,
      .putNom tag none, .putBooking tag none, .putIdle tag none, .putDisplay tag none]

/-- The reading of a command cell (R204, R219, R220, Tables 12-5 and 12-7): its code and tag; the lengths that have a
command's form, a body length above 504 having none; the three kinds of name; strings, items and pairs by their count;
the numbers in their order, most significant byte first; and for the entry forms, that the bytes which GET returns
for an entry are read back as that entry. The row to which a form error of a shared code belongs is the model's
choice (notes/assumptions/29.md). -/
def Obligations.CommandCellsRead : Prop :=
  ∀ (table : TableName) (tag : Byte),
    let read := fun (code : Byte) (body : List Byte) =>
      commandOf table { tag := tag, code := code, body := some body }
    let reject := Statements.formless tag
    (∀ c : CommandCell, rowCell (commandOf table c) = some (c.tag, c.code) ∧
      (isKnown c.code = false → commandOf table c = .unknownCommand c.tag c.code) ∧
      (isKnown c.code = true → c.body = none → Statements.formless c.tag (commandOf table c))) ∧
    (∀ (code : Byte) (k : Nat) (body : List Byte),
      (code, k) ∈ [((0x02 : Byte), 0), (0x09, 0), (0x10, 1), (0x11, 1), (0x12, 0), (0x13, 0), (0x14, 12),
        (0x15, 0), (0x16, 0), (0x20, 1), (0x21, 0), (0x22, 2), (0x29, 1), (0x31, 2), (0x38, 4), (0x39, 0),
        (0x40, 1), (0x41, 2), (0x42, 1), (0x43, 1), (0x48, 0), (0x49, 2)] →
      (reject (read code body) ↔ body.length ≠ k)) ∧
    (∀ (k : Nat) (body : List Byte),
      (table, k) ∈ [(TableName.seat, 3), (.gain0, 2), (.gain1, 2), (.nom, 2), (.booking, 33), (.idle, 14),
        (.display, 6)] →
      (reject (read 0x03 body) ↔ body.length ≠ k)) ∧
    (∀ body : List Byte,
      (reject (read 0x01 body) ↔ ∀ (x : TableName) (i : Byte), body ≠ b1 (tableByte x) ++ [i]) ∧
      (reject (read 0x08 body) ↔ 1 < body.length) ∧
      (reject (read 0x30 body) ↔ ∀ d n : Byte, body ≠ [d, 0, n] ∧ body ≠ [d, 1, n]) ∧
      (∀ l : Byte, l ≠ 0 → l ≠ 1 → body.head? = some l →
        reject (read 0x04 body) ∧ reject (read 0x05 body) ∧ reject (read 0x06 body))) ∧
    (∀ a b c d n : Byte, ∀ x : TableName,
      read 0x01 (b1 (tableByte x) ++ [a]) = .select tag (some (x, a.toNat)) ∧
      read 0x04 [0, a] = .listClearAssign tag (some a.toNat) ∧
      read 0x04 [1, a, b, c] = .listClearIrcode tag (some (a.toNat, b.toNat, c.toNat)) ∧
      read 0x06 [0, a, b] = .listGetAssign tag (some (a.toNat, b.toNat)) ∧
      read 0x06 [1, a, b] = .listGetIrcode tag (some (a.toNat, b.toNat)) ∧
      read 0x08 [] = .status tag (some ()) ∧ read 0x08 [a] = .statusSeat tag a.toNat ∧
      read 0x10 [a] = .seatOpen tag (some a.toNat) ∧ read 0x11 [a] = .seatClose tag (some a.toNat) ∧
      read 0x20 [a] = .bankSelect tag (some a.toNat) ∧
      read 0x22 [a, b] = .meterRead tag (some (a.toNat, b.toNat)) ∧
      read 0x29 [a] = .messageClear tag (some a.toNat) ∧
      read 0x30 [a, 1, n] = .displayPowerOn tag (some (a.toNat, n.toNat)) ∧
      read 0x30 [a, 0, n] = .displayPowerOff tag (some (a.toNat, n.toNat)) ∧
      read 0x31 [a, n] = .displayInput tag (some (a.toNat, n.toNat)) ∧
      read 0x38 [a, b, c, d] = .clockSet tag (some (a.toNat, b.toNat, c.toNat, d.toNat)) ∧
      read 0x40 [a] = .commit tag (some a.toNat) ∧
      read 0x41 [a, b] = .extend tag (some (a.toNat, b.toNat)) ∧
      read 0x42 [a] = .endNow tag (some a.toNat) ∧ read 0x43 [a] = .cancel tag (some a.toNat) ∧
      read 0x49 [a, b] = .noticeSet tag (some (a.toNat, b.toNat))) ∧
    (∀ (a n : Byte) (items : List (Byte × Byte)) (pairs : List (Nat × Nat)) (text : Text),
      (read 0x05 ([0, a, n] ++ items.flatMap (fun p => [p.1, p.2])) =
        .listAddAssign tag (if items.length = n.toNat
          then some (a.toNat, items.map (fun p => (p.1.toNat, p.2.toNat))) else none)) ∧
      (pairs.all (fun p => decide (p.1 < 65536 ∧ p.2 < 65536)) = true →
        read 0x05 ([1, a, n] ++ pairs.flatMap (fun p => b2 p.1 ++ b2 p.2)) =
          .listAddIrcode tag (if pairs.length = n.toNat then some (a.toNat, pairs) else none)) ∧
      (∀ d : Byte, read 0x28 ([a, d, n] ++ text) =
        .seatMessage tag (if text.length = n.toNat then some (a.toNat, d.toNat, text) else none)) ∧
      (table = .name →
        read 0x03 (n :: text) = .putName tag (if text.length = n.toNat then some text else none))) ∧
    (∀ x : FloorSetup, (∃ g : SetupFields, setup? g = some x) →
      ∃ g : SetupFields, read 0x14 (setupBytes x) = .floorSet tag (some g) ∧ setup? g = some x) ∧
    (table = .seat → ∀ e : SeatEntry,
      ∃ g : SeatFields, read 0x03 (seatEntryBytes e) = .putSeat tag (some g) ∧ seatEntry? g = some e) ∧
    (table = .booking → ∀ x : Fixed, (∃ g : BookingFields, fixed? g = some x) →
      ∃ g : BookingFields, read 0x03 (fixedBytes x) = .putBooking tag (some g) ∧ fixed? g = some x) ∧
    (table = .idle → ∀ x : IdleSetup, (∃ g : IdleFields, idle? g = some x) →
      ∃ g : IdleFields, read 0x03 (idleBytes x) = .putIdle tag (some g) ∧ idle? g = some x) ∧
    (table = .display → ∀ x : Preset, (∃ g : PresetFields, preset? g = some x) →
      ∃ g : PresetFields, read 0x03 (presetBytes x) = .putDisplay tag (some g) ∧ preset? g = some x) ∧
    (table = .gain0 ∨ table = .gain1 → ∀ g : Nat, g < 65536 → read 0x03 (b2 g) = .putGain tag (some g)) ∧
    (table = .nom → ∀ g : Nat, g < 65536 → read 0x03 (b2 g) = .putNom tag (some g))

/-- A management cell that has arrived: a command cell with a correct CRC joins the Command FIFO, is answered
`BUSY` when that is full, or is discarded when both FIFOs are full; any other cell is dropped (R199, R200,
R219). A `BUSY` to SELECT, GET or PUT carries the cursor as it stands (R203; its form for GET and PUT is the model's
choice, notes/assumptions/26.md). -/
def Obligations.ArrivedCellIsPlaced : Prop :=
  ∀ (s : State) (cell : List Byte), s.port.arrived = some cell →
    (∀ c : CommandCell, commandCell? cell = some c →
      (s.port.fifo.length < 8 →
        exec .commandCellArrival s =
          .next (s.withPort { s.port with arrived := none, fifo := s.port.fifo ++ [c] })) ∧
      (8 ≤ s.port.fifo.length → s.port.answers.length < 8 →
        ∃ result : List Byte,
          exec .commandCellArrival s =
            .next (s.withPort
              { s.port with
                arrived := none
                answers := s.port.answers ++
                  [{ tag := c.tag, code := c.code, answer := .busy, result := result }] }) ∧
          (c.code = 0x01 → result = cursorBytes s.port.cursor) ∧
          (c.code = 0x02 ∨ c.code = 0x03 → result = actedAt s.port.cursor s.port.cursor) ∧
          (c.code ≠ 0x01 → c.code ≠ 0x02 → c.code ≠ 0x03 → result = [])) ∧
      (8 ≤ s.port.fifo.length → 8 ≤ s.port.answers.length →
        exec .commandCellArrival s = .next (s.withPort { s.port with arrived := none }))) ∧
    (commandCell? cell = none →
      exec .commandCellArrival s = .next (s.withPort { s.port with arrived := none }))

/-- The upstream slot of a LOCKED trunk takes the oldest answer, and with no answer waiting a pending notice,
whose flag then clears (R195). -/
def Obligations.UpstreamSlotFilled : Prop :=
  ∀ s : State, s.port.slot = none → s.links.trunk.locked = true →
    (∀ (a : Answer) (rest : List Answer), s.port.answers = a :: rest →
      exec .answerSent s =
        .next (s.withPort { s.port with answers := rest, slot := some (.answer a) })) ∧
    (s.port.answers = [] → s.notices.pending = true →
      exec .noticeSent s =
        .next ((s.withNotices { s.notices with pending := false }).withPort
          { s.port with
            slot := some (.notice
              { summary := s.notices.summary, unread := s.log.unread
                newest := s.log.ring.getLast?.map LogRecord.seq }) }))

/-! ### Chains and the trunk -/

/-- A seat has left the holder set, if it was a member; with the set empty in HOLD the hold ends (R56, R60). -/
def Statements.withoutHolder (n : Seat) (u : State) : State :=
  if u.floor.holders.contains n then
    let w := u.withFloor { u.floor with holders := u.floor.holders.filter (fun m => decide (m ≠ n)) }
    if w.floor.phase = .hold ∧ holdersSome w.floor = false then holdEnd w else w
  else u

/-- A missing report (a bad frame, an UNLOCKED chain, a wrong check or no unit present, R10) moves a seat's presence by
R11. The eighth in a row makes the seat ABSENT (R13): the floor takes it out of the list it is in, with reason LOST, or
disarms it (R51); it leaves the holder set, which may end the hold (R60); auto-advance and voice admission follow; then
SEAT_LOST is appended, its buttons are released and its REFUSED timer is 0. Its volume step stays. That a row's frame
is judged by, and reports for, the position of the last outgoing frame is the model's reading, and its choice before the
first one (notes/assumptions/9.md). -/
def Obligations.MissingReportsFade : Prop :=
  ∀ (link : Link) (bytes : List Byte) (s : State) (n : Seat), link ≠ .trunk →
    seatAt link (s.time.frame - 1) = n →
    let good := goodFrame 86 (s.time.frame - 1) bytes
    let locked := (linkState s.links link).locked
    (good = false ∨ locked = false ∨ report? (bytes.drop 83) = none) →
    (presenceOf s n ≠ .fading 6 →
      ∃ t : State, exec (.incomingFrame link bytes) s = .next t ∧
        (presenceOf s n = .absent → presenceOf t n = .absent) ∧
        (presenceOf s n = .joining1 → presenceOf t n = .absent) ∧
        (presenceOf s n = .joining2 → presenceOf t n = .absent) ∧
        (presenceOf s n = .present → presenceOf t n = .fading 0) ∧
        (∀ m : Fin 6, presenceOf s n = .fading m.castSucc → presenceOf t n = .fading m.succ) ∧
        look t.seats n = { look s.seats n with presence := presenceOf t n } ∧
        (∀ m : Seat, m ≠ n → look t.seats m = look s.seats m) ∧
        (∀ k : Fin 32, look t.audio.mic (seatAt link k) =
          if good = true ∧ locked = true
          then (unpackSamples ((bytes.drop 3).take 80)).getD k.val 0 else 0) ∧
        (∀ m : Seat, chainOf m ≠ link → look t.audio.mic m = look s.audio.mic m) ∧
        t.floor = s.floor ∧ t.log = s.log ∧ t.notices = s.notices ∧ t.screens = s.screens ∧
        t.port = s.port ∧ t.mixer = s.mixer ∧ t.gate = s.gate ∧ t.displays = s.displays ∧
        t.sched = s.sched ∧ t.clock = s.clock) ∧
    (presenceOf s n = .fading 6 →
      ∀ u : State,
        u = withLeft .lost .lost n
          (setPresence n .absent (takeMics link (good && locked) bytes (noteFrame link good s))) →
      ∀ v : State,
        v = record .seatLost (some n) (afterFloor (Statements.withoutHolder n u)) →
      ∃ t : State, exec (.incomingFrame link bytes) s = .next t ∧
        t.floor = v.floor ∧ t.log = v.log ∧ t.notices = v.notices ∧ t.gate = v.gate ∧
        presenceOf t n = .absent ∧
        (look t.seats n).mic = .released ∧ (look t.seats n).priority = .released ∧
        (look t.seats n).next = .released ∧ (look t.seats n).refused = 0 ∧
        (look t.seats n).volume = (look s.seats n).volume ∧
        newestIs t .seatLost (some n) (meetingId s.floor.meeting) ∧
        (∀ m : Seat, m ≠ n → look t.seats m = look s.seats m) ∧
        t.screens = s.screens ∧ t.port = s.port ∧ t.mixer = s.mixer ∧ t.displays = s.displays)

/-- A valid report, and the volume step it carries (R10, R11, R17). In ABSENT it makes the seat JOINING(1), in
JOINING(1) JOINING(2), with no more effect. The third in a row makes the seat PRESENT: its buttons take their raw levels
with no event, its shown image is unknown at every position, and SEAT_JOIN is appended (R12). In PRESENT and FADING the
seat is PRESENT, and its three samples go through the filters in the order MIC, PRIORITY, NEXT, each event being handed
to the floor before the next sample (R15, R16). That the samples of a joining seat are discarded, and that a row's frame
partners the last outgoing frame, are the model's readings, the second a choice before the first outgoing frame
(notes/assumptions/13.md, 9.md). -/
def Obligations.ValidReportsJoinAndPress : Prop :=
  ∀ (link : Link) (bytes : List Byte) (r : Report) (s : State) (n : Seat), link ≠ .trunk →
    seatAt link (s.time.frame - 1) = n →
    goodFrame 86 (s.time.frame - 1) bytes = true → (linkState s.links link).locked = true →
    report? (bytes.drop 83) = some r →
    (presenceOf s n = .absent ∨ presenceOf s n = .joining1 →
      ∃ t : State, exec (.incomingFrame link bytes) s = .next t ∧
        look t.seats n =
          { look s.seats n with
            presence := if presenceOf s n = .absent then .joining1 else .joining2, volume := r.volume } ∧
        (∀ m : Seat, m ≠ n → look t.seats m = look s.seats m) ∧
        t.floor = s.floor ∧ t.log = s.log ∧ t.notices = s.notices ∧ t.screens = s.screens) ∧
    (presenceOf s n = .joining2 →
      ∃ t : State, exec (.incomingFrame link bytes) s = .next t ∧
        presenceOf t n = .present ∧
        (look t.seats n).mic.pressed = r.mic ∧ (look t.seats n).mic.run = 0 ∧
        (look t.seats n).priority.pressed = r.priority ∧ (look t.seats n).priority.run = 0 ∧
        (look t.seats n).next.pressed = r.next ∧ (look t.seats n).next.run = 0 ∧
        (look t.seats n).volume = r.volume ∧ look t.screens.shown n = .unknown ∧
        (∀ m : Seat, m ≠ n →
          look t.seats m = look s.seats m ∧ look t.screens.shown m = look s.screens.shown m) ∧
        t.floor = s.floor ∧
        newestIs t .seatJoin (some n) (meetingId s.floor.meeting) ∧
        t.log.nextSeq = s.log.nextSeq + 1) ∧
    (presenceOf s n = .present ∨ (∃ m, presenceOf s n = .fading m) →
      let button := fun (level : Bool) (b : ButtonName) (u : State) =>
        let x := filterButton u.time.stamp level (buttonOf (look u.seats n) b)
        let v := setSeat n (withButton (look u.seats n) b x.1) u
        match x.2 with
        | none => v
        | some stamp => buttonEvent b level n stamp v
      ∀ u : State,
        u = button r.next .next (button r.priority .priority (button r.mic .mic
          (setPresence n .present (takeMics link true bytes (noteFrame link true s))))) →
        ∃ t : State, exec (.incomingFrame link bytes) s = .next t ∧
          t.floor = u.floor ∧ t.log = u.log ∧ t.notices = u.notices ∧ t.gate = u.gate ∧
          t.screens = s.screens ∧ t.mixer = s.mixer ∧
          look t.seats n = { look u.seats n with volume := r.volume } ∧ presenceOf t n = .present ∧
          (∀ m : Seat, m ≠ n → look t.seats m = look u.seats m))

/-- One button's filter: a sample equal to the filtered level clears the run, the first two that differ count,
with the stamp of the first, and the third changes the level and gives an event with that stamp (R15, R16). -/
def Obligations.ThirdSampleGivesTheEvent : Prop :=
  ∀ (now : Stamp) (level : Bool) (x : Button),
    (level = x.pressed → filterButton now level x = ({ x with run := 0 }, none)) ∧
    (level ≠ x.pressed → x.run = 0 →
      filterButton now level x = ({ x with run := 1, stamp := now }, none)) ∧
    (level ≠ x.pressed → x.run = 1 → filterButton now level x = ({ x with run := 2 }, none)) ∧
    (level ≠ x.pressed → x.run = 2 →
      filterButton now level x = ({ x with pressed := level, run := 0 }, some x.stamp))

/-- A trunk frame: good on a LOCKED trunk, its samples and its cell are delivered; otherwise the samples are 0 and
the cell is discarded (R6, R9). The outgoing frame it is judged by is the last one sent, the model's reading, and its
choice before the first (notes/assumptions/9.md); a cell that still waits is taken before the frame, as its own row
takes it (the model's choice, notes/assumptions/11.md). -/
def Obligations.TrunkFrameDelivers : Prop :=
  (∀ (bytes : List Byte) (s u : State), exec .commandCellArrival s = .next u →
    u.port.arrived = none ∧ exec (.incomingFrame .trunk bytes) s = exec (.incomingFrame .trunk bytes) u) ∧
  ∀ (bytes : List Byte) (s : State), s.port.arrived = none →
    (goodFrame 520 (s.time.frame - 1) bytes = true → s.links.trunk.locked = true →
      ∃ t : State, exec (.incomingFrame .trunk bytes) s = .next t ∧
        [t.audio.far, t.audio.announce] = unpackSamples ((bytes.drop 3).take 5) ∧
        t.audio.mic = s.audio.mic ∧ t.port = { s.port with arrived := some (bytes.drop 8) } ∧
        t.floor = s.floor ∧ t.log = s.log ∧ t.notices = s.notices ∧ t.seats = s.seats) ∧
    (goodFrame 520 (s.time.frame - 1) bytes = false ∨ s.links.trunk.locked = false →
      ∃ t : State, exec (.incomingFrame .trunk bytes) s = .next t ∧
        t.audio.far = 0 ∧ t.audio.announce = 0 ∧ t.audio.mic = s.audio.mic ∧ t.port = s.port ∧
        t.floor = s.floor ∧ t.log = s.log ∧ t.notices = s.notices)

/-- The lock runs of a link: a bad frame makes the superframe bad (R6), and its last frame moves the run counts
(R7). `change` is the model's mark that CHAIN_LOCK or CHAIN_UNLOCK is to follow (notes/assumptions/6.md). That a frame
which comes with the next index at 0 is the last of its superframe is the model's reading, and its choice before the
first outgoing frame (notes/assumptions/9.md). -/
def Obligations.LinkJudgedAtFrame31 : Prop :=
  ∀ (link : Link) (bytes : List Byte) (s : State), ∃ t : State,
    exec (.incomingFrame link bytes) s = .next t ∧
    (∀ other : Link, other ≠ link → linkState t.links other = linkState s.links other) ∧
    (∀ (l : LinkState) (bad : Bool), l = linkState s.links link →
      bad = (l.sfBad ||
        !goodFrame (if link = .trunk then 520 else 86) (s.time.frame - 1) bytes) →
      (s.time.frame ≠ 0 → linkState t.links link = { l with sfBad := bad }) ∧
      (s.time.frame = 0 →
        (l.locked = false → bad = true →
          linkState t.links link = { l with sfBad := false, goodRun := 0 }) ∧
        (l.locked = false → bad = false → l.goodRun < 3 →
          linkState t.links link = { l with sfBad := false, goodRun := l.goodRun + 1 }) ∧
        (l.locked = false → bad = false → l.goodRun = 3 →
          linkState t.links link = { l with sfBad := false, change := true }) ∧
        (l.locked = true → bad = false →
          linkState t.links link = { l with sfBad := false, badRun := 0 }) ∧
        (l.locked = true → bad = true → l.badRun = 0 →
          linkState t.links link = { l with sfBad := false, badRun := 1 }) ∧
        (l.locked = true → bad = true → l.badRun = 1 →
          linkState t.links link = { l with sfBad := false, change := true })))

/-- A change of lock state: both counts 0, CHAIN_LOCK or CHAIN_UNLOCK appended, LINK set; its rise makes the notice
pending if LINK is enabled (R7, R190, R194). A trunk that unlocks sends nothing of what fills its upstream slot: an
answer waits again as the oldest and a notice is pending again (R9; that it goes back is the model's form of waiting,
notes/assumptions/12.md). A received cell that still waits stays, the model's choice (notes/assumptions/11.md). -/
def Obligations.LockChangeIsLogged : Prop :=
  ∀ (link : Link) (s : State), (linkState s.links link).change = true →
    ((linkState s.links link).locked = false →
      ∃ t : State, exec (.chainLock link) s = .next t ∧
        (linkState t.links link).locked = true ∧ (linkState t.links link).goodRun = 0 ∧
        (linkState t.links link).badRun = 0 ∧ t.notices.summary.link = true ∧
        (s.notices.pending = true ∨ s.notices.summary.link = false ∧ s.notices.mask.link = true →
          t.notices.pending = true) ∧
        newestIs t (.chainLock link) none (meetingId s.floor.meeting) ∧
        t.floor = s.floor ∧ t.seats = s.seats ∧ t.port = s.port ∧
        ∀ other : Link, other ≠ link → linkState t.links other = linkState s.links other) ∧
    ((linkState s.links link).locked = true →
      ∃ t : State, exec (.chainUnlock link) s = .next t ∧
        (linkState t.links link).locked = false ∧ (linkState t.links link).goodRun = 0 ∧
        (linkState t.links link).badRun = 0 ∧ t.notices.summary.link = true ∧
        (s.notices.pending = true ∨ s.notices.summary.link = false ∧ s.notices.mask.link = true →
          t.notices.pending = true) ∧
        newestIs t (.chainUnlock link) none (meetingId s.floor.meeting) ∧
        t.floor = s.floor ∧ t.seats = s.seats ∧
        (link ≠ .trunk ∨ s.port.slot = none → t.port = s.port) ∧
        (link = .trunk →
          (∀ x : Notice, s.port.slot = some (.notice x) →
            t.port = { s.port with slot := none } ∧ t.notices.pending = true) ∧
          (∀ a : Answer, s.port.slot = some (.answer a) → s.port.answers.length < 8 →
            t.port = { s.port with slot := none, answers := a :: s.port.answers })) ∧
        ∀ other : Link, other ≠ link → linkState t.links other = linkState s.links other)

/-! ### What a clock row takes first -/

/-- The state after several rows, one behind the other. -/
def Statements.afterRows : List Instr → State → State
  | [], s => s
  | i :: l, s =>
    match exec i s with
    | .next t => Statements.afterRows l t
    | .fault _ => s
    | .refused _ => s

/-- The rows that take the owed changes of lock state: Chain A's, Chain B's, the trunk's (R7). -/
def Statements.lockRows : List Instr :=
  [.chainLock .chainA, .chainUnlock .chainA, .chainLock .chainB, .chainUnlock .chainB, .chainLock .trunk,
    .chainUnlock .trunk]

/-- The rows of the expiries that are due: REFUSED timers, messages, displays (R19, R126, R144, R147). -/
def Statements.expiryRows (s : State) : List Instr :=
  s.due.refused.map .refusedTimerExpiry ++ s.due.messages.map .messageExpiry ++
    s.due.displays.flatMap (fun d => [.warmExpiry d, .coolExpiry d])

/-- Every expiry that is due has been taken, and no mark is left. -/
def Statements.expired (s : State) : State :=
  let t := Statements.afterRows (Statements.expiryRows s) s
  t.withDue { t.due with refused := [], messages := [], displays := [] }

/-! ### Outgoing frames -/

/-- The room mix of one computation (R94, R95). -/
def Statements.roomMix (s : State) : Int :=
  match s.mixer.capFactor with
  | none => 0
  | some a =>
    ((s.mixer.capSeats.map (fun n => micSample s n * ((seatGain s.mixer n : Nat) : Int))).sum *
      ((a : Nat) : Int) + 268435456) / 536870912

/-- The far contribution of one computation (R96). -/
def Statements.farPart (s : State) : Int :=
  (farSample s * ((look s.mixer.capGains (64 : Fin 65) : Nat) : Int) + 8192) / 16384

/-- The trunk's part of an outgoing frame: the buses of R94 to R97, the announce sample in ALERT (R102), the clip counts
and the CLIP source, whose rise makes the notice pending if CLIP is enabled (R98, R194), the peaks being formed (R106),
and the management cell: what fills the slot already, else the oldest answer, else the pending notice, whose flag
clears, else the empty cell; on an UNLOCKED trunk the empty cell (R9, R195). That a clip counts before the slot of the
same frame is filled is the model's choice (notes/assumptions/12.md). All is stated of the state in which what the frame
owes has been taken, as the rows of the lock changes, the expiries and the minute boundary take it, and then what the
emitter and the quiet count owe; that a clock row takes it, and in which order, is the model's choice
(notes/assumptions/6.md). -/
def Obligations.OutgoingFrameBuses : Prop :=
  (∀ s : State, settleFrame s =
    settleQuiet (settleEmitter (Statements.afterRows [.minuteBoundary]
      (Statements.expired (Statements.afterRows Statements.lockRows s))))) ∧
  (∀ s : State, s.displays.inFlight ≠ none ∨ s.displays.queue = [] →
    (∀ f : InFlight, s.displays.inFlight = some f → 625 ≤ f.ends) → settleEmitter s = s) ∧
  (∀ (s u : State) (f : InFlight), s.displays.inFlight = some f → f.ends < 625 →
    exec .irTransmissionComplete s = .next u →
    (∀ g : InFlight, u.displays.inFlight = some g → 625 ≤ g.ends) → settleEmitter s = u) ∧
  (∀ s : State, (emit s).displays.inFlight ≠ none ∨ (emit s).displays.queue = [] →
    settleEmitter s = settleEmitter (emit s)) ∧
  (∀ s : State, frameSettled (settleFrame s) → exec .outgoingFrame s = exec .outgoingFrame (settleFrame s)) ∧
  ∀ before s : State, s = settleFrame before →
    ∃ (t : State) (x : TrunkFrame), exec .outgoingFrame before = .next t ∧ t.sent.trunk = some x ∧
      x.index = s.time.frame ∧ t.time = { s.time with frame := s.time.frame + 1 } ∧
      (s.floor.phase ≠ .alert →
        x.floorBus = max (-524288) (min 524287 (Statements.roomMix s + Statements.farPart s)) ∧
        x.farSend = max (-524288) (min 524287 (Statements.roomMix s)) ∧
        t.mixer.clipFloor =
          (if x.floorBus ≠ Statements.roomMix s + Statements.farPart s ∧ s.mixer.clipFloor < 65535
            then s.mixer.clipFloor + 1 else s.mixer.clipFloor) ∧
        t.mixer.clipFar =
          (if x.farSend ≠ Statements.roomMix s ∧ s.mixer.clipFar < 65535
            then s.mixer.clipFar + 1 else s.mixer.clipFar)) ∧
      (s.floor.phase = .alert →
        x.floorBus = announceSample s ∧ x.farSend = 0 ∧ t.mixer.clipFloor = s.mixer.clipFloor ∧
        t.mixer.clipFar = s.mixer.clipFar) ∧
      (∀ n : Seat, look t.gate.forming ⟨n.val, by omega⟩ =
        max (look s.gate.forming ⟨n.val, by omega⟩) (min 524287 (micSample s n).natAbs)) ∧
      look t.gate.forming 64 = max (look s.gate.forming 64) (min 524287 x.floorBus.natAbs) ∧
      look t.gate.forming 65 = max (look s.gate.forming 65) (min 524287 x.farSend.natAbs) ∧
      (∀ clip : Bool,
        clip = decide (s.floor.phase ≠ .alert ∧
          (x.floorBus ≠ Statements.roomMix s + Statements.farPart s ∨
            x.farSend ≠ Statements.roomMix s)) →
        ∀ flag : Bool,
          flag = (s.notices.pending || (clip && !s.notices.summary.clip && s.notices.mask.clip)) →
        t.notices.summary = { s.notices.summary with clip := s.notices.summary.clip || clip } ∧
        (s.links.trunk.locked = false →
          x.cell = .empty ∧ t.port = s.port ∧ t.notices.pending = flag) ∧
        (s.links.trunk.locked = true →
          (∀ c : UpCell, s.port.slot = some c →
            x.cell = c ∧ t.port = { s.port with slot := none } ∧ t.notices.pending = flag) ∧
          (∀ (a : Answer) (rest : List Answer), s.port.slot = none → s.port.answers = a :: rest →
            x.cell = .answer a ∧ t.port = { s.port with answers := rest } ∧
            t.notices.pending = flag) ∧
          (s.port.slot = none → s.port.answers = [] → flag = true →
            x.cell = .notice
              { summary := t.notices.summary, unread := s.log.unread
                newest := s.log.ring.getLast?.map LogRecord.seq } ∧
            t.port = s.port ∧ t.notices.pending = false) ∧
          (s.port.slot = none → s.port.answers = [] → flag = false →
            x.cell = .empty ∧ t.port = s.port ∧ t.notices.pending = false))) ∧
      t.floor = s.floor ∧ t.log = s.log ∧ t.seats = s.seats

/-- The loudspeaker samples of an outgoing frame: the feeds of R100 to R102 on a LOCKED chain, 0 on an UNLOCKED one
(R4, R8), in the state in which what the frame owes has been taken (`settleFrame`, said whole by OutgoingFrameBuses;
notes/assumptions/6.md). -/
def Obligations.OutgoingFrameFeeds : Prop :=
  ∀ before s : State, s = settleFrame before →
    ∃ (t : State) (a b : ChainFrame) (x : TrunkFrame), exec .outgoingFrame before = .next t ∧
      t.sent.chainA = some a ∧ t.sent.chainB = some b ∧ t.sent.trunk = some x ∧
      a.index = s.time.frame ∧ b.index = s.time.frame ∧
      ∀ (link : Link) (f : ChainFrame) (k : Fin 32),
        (link = .chainA ∧ f = a) ∨ (link = .chainB ∧ f = b) →
        ((linkState s.links link).locked = false → look f.samples k = 0) ∧
        ((linkState s.links link).locked = true →
          (presenceOf s (seatAt link k) = .absent → look f.samples k = 0) ∧
          (presenceOf s (seatAt link k) ≠ .absent → s.floor.phase = .alert →
            look f.samples k = announceSample s) ∧
          (s.floor.phase ≠ .alert → micState s.floor (seatAt link k) = .opened →
            look f.samples k = 0) ∧
          (presenceOf s (seatAt link k) ≠ .absent → s.floor.phase ≠ .alert →
            micState s.floor (seatAt link k) ≠ .opened →
            look f.samples k =
              (x.floorBus * ((17 * (look s.seats (seatAt link k)).volume : Nat) : Int) + 128) / 256))

/-- The seat orders of an outgoing frame (R8, R18 to R21, R53): the LED, the mute, and the fragment that the Screen
Composer chooses, whose delivery alone changes the shown image (R129, R131); the shown images of the other seats stay.
All is stated of the state in which what the frame owes has been taken (`settleFrame`, said whole by
OutgoingFrameBuses; notes/assumptions/6.md). -/
def Obligations.OutgoingFrameOrders : Prop :=
  ∀ before s : State, s = settleFrame before →
    ∃ (t : State) (a b : ChainFrame), exec .outgoingFrame before = .next t ∧
      t.sent.chainA = some a ∧ t.sent.chainB = some b ∧
      t.screens.names = s.screens.names ∧ t.screens.messages = s.screens.messages ∧
      (∀ m : Seat, m ≠ seatAt .chainA s.time.frame → m ≠ seatAt .chainB s.time.frame →
        look t.screens.shown m = look s.screens.shown m) ∧
      ∀ (link : Link) (f : ChainFrame) (n : Seat),
        (link = .chainA ∧ f = a) ∨ (link = .chainB ∧ f = b) → seatAt link s.time.frame = n →
        ((linkState s.links link).locked = false ∨ takesPart (presenceOf s n) = false →
          f.order = { led := .off, mute := false, fragment := none } ∧
          look t.screens.shown n = look s.screens.shown n) ∧
        ((linkState s.links link).locked = true → takesPart (presenceOf s n) = true →
          (s.floor.phase = .alert → f.order.led = .alert ∧ f.order.mute = false) ∧
          (s.floor.phase ≠ .alert → f.order.mute = decide (micState s.floor n = .opened)) ∧
          (s.floor.phase ≠ .alert → 0 < (look s.seats n).refused → f.order.led = .refused) ∧
          (s.floor.phase ≠ .alert → (look s.seats n).refused = 0 →
            (micState s.floor n = .off → f.order.led = .off) ∧
            (micState s.floor n = .waiting → f.order.led = .request) ∧
            (micState s.floor n = .held → f.order.led = .held) ∧
            (micState s.floor n = .armed → f.order.led = .armed) ∧
            (∀ x : Timer, micState s.floor n = .opened → openTimer s.floor n = some x →
              (x.overtime = true → f.order.led = .over) ∧
              (x.overtime = false → x.warned = true → f.order.led = .warn) ∧
              (x.overtime = false → x.warned = false → f.order.led = .on))) ∧
          (∀ (g : Fragment) (image : Shown), nextFragment s n = some (g, image) →
            f.order.fragment = some g ∧ look t.screens.shown n = image) ∧
          (nextFragment s n = none →
            f.order.fragment = none ∧ look t.screens.shown n = look s.screens.shown n))

/-- The wanted image of a seat: line 1 by the first row of R123 that applies, line 2 by the first row of R124 that
applies, each followed by spaces, with the numbers of R125. While a minute boundary waits to be taken, "Ends in" counts
against the new room time, the model's choice (notes/assumptions/17.md). -/
def Obligations.WantedImage : Prop :=
  ∀ (s : State) (n : Seat),
    let line1 := fun x : Text => wantedLine1 s n = padLine x
    let line2 := fun x : Text => wantedLine2 s n = padLine x
    let booking := fun x : Slot => ∃ k id chair, s.floor.meeting = .booking k id chair ∧
      look s.sched.slots k = x
    (∀ (x : Slot) (i : Item), booking x → (slotItems x).find? (fun j => decide (j.seat = n)) = some i →
      line1 (look s.screens.names i.name)) ∧
    ((∀ x : Slot, booking x → ∀ i ∈ slotItems x, i.seat ≠ n) →
      (∀ k : NameNo, (look s.seatTable n).name = some k → line1 (look s.screens.names k)) ∧
      ((look s.seatTable n).name = none →
        line1 ([0x53, 0x65, 0x61, 0x74, 0x20] ++ [digit (n.val / 10), digit n.val]))) ∧
    (s.floor.phase = .alert → wantedLine2 s n = "ALERT - PLEASE LISTEN   ".toList.map (fun c =>
      BitVec.ofNat 8 c.toNat)) ∧
    (s.floor.phase ≠ .alert → ∀ m : Message, look s.screens.messages n = some m → line2 m.text) ∧
    (s.floor.phase = .closed → look s.screens.messages n = none →
      line2 (chars "No meeting".toList)) ∧
    (s.floor.phase = .running ∨ s.floor.phase = .hold → look s.screens.messages n = none →
      (micState s.floor n = .held → line2 (chars "Chair priority".toList)) ∧
      (∀ x : Timer, micState s.floor n = .opened → openTimer s.floor n = some x →
        (x.overtime = true → line2 (chars "Over time ".toList ++ clockText (x.elapsed / 1000))) ∧
        (∀ l : Nat, x.overtime = false → x.warned = true → x.limit = some l →
          line2 (chars "Left ".toList ++ clockText ((l - x.elapsed + 999) / 1000))) ∧
        (x.overtime = false → x.warned = false →
          line2 (chars "Speaking ".toList ++ clockText (x.elapsed / 1000)))) ∧
      (∀ (a b : List Request) (r : Request), micState s.floor n = .waiting →
        s.floor.queue = a ++ r :: b → r.seat = n → (∀ e ∈ a, e.seat ≠ n) →
        line2 (chars "Queue ".toList ++ decimal (a.length + 1) ++ chars " of ".toList ++
          decimal s.floor.queue.length)) ∧
      (micState s.floor n = .off ∨ micState s.floor n = .armed →
        (∀ (f : Fixed) (items : List Item) (booked current : Nat),
          booking (.committed .ending f items booked current) →
          line2 (chars "Ends in ".toList ++
            decimal ((current * 60000 - weekMs s.clock.time + 59999) / 60000) ++
            chars " min".toList)) ∧
        ((∀ (f : Fixed) (items : List Item) (booked current : Nat),
            ¬ booking (.committed .ending f items booked current)) →
          (micState s.floor n = .armed → line2 (chars "Voice armed".toList)) ∧
          (micState s.floor n = .off → effectiveRole s n = .chair →
            s.floor.setup.mode = .direct ∨ s.floor.setup.mode = .queued →
            line2 (chars "Requests: ".toList ++ decimal s.floor.queue.length)) ∧
          (micState s.floor n = .off →
            effectiveRole s n ≠ .chair ∨
              s.floor.setup.mode = .overrideMode ∨ s.floor.setup.mode = .voice →
            (∀ (x : Slot) (f : Fixed) (k : NameNo), booking x → slotFixed x = some f →
              f.title = some k → line2 (look s.screens.names k)) ∧
            ((∀ (x : Slot) (f : Fixed), booking x → slotFixed x = some f → f.title = none) →
              line2 []))))) ∧
    (∀ t : Nat, t ≤ 5999 → clockText t =
      [digit (t / 60 / 10), digit (t / 60), 0x3A, digit (t % 60 / 10), digit (t % 60)])

/-- The fragment of a seat (R129 to R131, R217). It starts at the first position that differs in reading order. Its
runs, one to six, none like its neighbour, written out are the wanted columns from the start to the end column. The
end column differs, and behind it no column of the line differs within six runs of the start. Delivered, it changes
the shown image in just those columns, so fewer positions differ. There is none exactly when no position differs. -/
def Obligations.FragmentsFitAndProgress : Prop :=
  (∀ (s : State) (n : Seat) (f : Fragment) (shown : Shown), nextFragment s n = some (f, shown) →
    let before := look s.screens.shown n
    let old := if f.line = 1 then before.line1 else before.line2
    let new := if f.line = 1 then shown.line1 else shown.line2
    let wanted := if f.line = 1 then wantedLine1 s n else wantedLine2 s n
    let width := (f.runs.map Prod.snd).sum
    (f.line = 1 ∨ f.line = 2) ∧ 1 ≤ f.runs.length ∧ f.runs.length ≤ 6 ∧
      (∀ r ∈ f.runs, 1 ≤ r.2 ∧ r.2 ≤ 24) ∧ f.start + width ≤ 24 ∧
      (f.line = 2 → ∀ i : Fin 24, look before.line1 i = (wantedLine1 s n)[i.val]?) ∧
      (∀ i : Fin 24, i.val < f.start → look old i = wanted[i.val]?) ∧
      (∀ i : Fin 24, i.val = f.start ∨ i.val + 1 = f.start + width → look old i ≠ wanted[i.val]?) ∧
      f.runs.flatMap (fun r => List.replicate r.2 r.1) = (wanted.drop f.start).take width ∧
      (∀ (a b : List (Byte × Nat)) (x y : Byte × Nat), f.runs = a ++ x :: y :: b → x.1 ≠ y.1) ∧
      (∀ i : Fin 24, f.start + width ≤ i.val → look old i ≠ wanted[i.val]? →
        6 ≤ ((List.range (i.val - f.start)).filter (fun j =>
          decide (wanted[f.start + j]? ≠ wanted[f.start + j + 1]?))).length) ∧
      (∀ i : Fin 24, f.start ≤ i.val ∧ i.val < f.start + width → look new i = wanted[i.val]?) ∧
      (∀ i : Fin 24, i.val < f.start ∨ f.start + width ≤ i.val → look new i = look old i) ∧
      (f.line = 1 → shown.line2 = before.line2) ∧ (f.line = 2 → shown.line1 = before.line1) ∧
      differingPositions (setShown n shown s) n < differingPositions s n) ∧
  (∀ (s : State) (n : Seat), nextFragment s n = none ↔
    ∀ i : Fin 24, look (look s.screens.shown n).line1 i = (wantedLine1 s n)[i.val]? ∧
      look (look s.screens.shown n).line2 i = (wantedLine2 s n)[i.val]?)

/-! ### Superframes -/

/-- The superframe start: the stamp and the room time count, and with second and ms 0 a minute boundary comes about
(R156); every RUNNING timer owes its count, which is taken with its checks before the capture or later (R73, R84, R105;
`owed` is the model's, notes/assumptions/15.md); the pending bank lands, gains, contribution set and NOM factor are
captured, and the Voice Gate copies threshold and hold (R86, R89, R111). The instant `now` of the emitter, which the
boundary has reached, is the model's own (notes/assumptions/18.md). All is stated of the state in which what the
superframe start finds owed has been taken: the counts of the timers, the minute boundary, the lock changes and the
expiries, as their rows take them, and what the emitter and the quiet count owe (the model's choice,
notes/assumptions/6.md). -/
def Obligations.SuperframeStartCaptures : Prop :=
  (∀ s : State, settleStart s =
    settleQuiet (settleEmitter (Statements.expired (Statements.afterRows Statements.lockRows
      (Statements.afterRows [.minuteBoundary] (takeCounts s)))))) ∧
  (∀ (limitsFirst : Bool) (s : State), settleStart (settleStart s) = settleStart s →
    exec (.superframeStart limitsFirst) s = exec (.superframeStart limitsFirst) (settleStart s)) ∧
  ∀ (limitsFirst : Bool) (before s : State), s = settleStart before →
    ∃ t : State, exec (.superframeStart limitsFirst) before = .next t ∧
      t.time = { stamp := s.time.stamp + 1, frame := 0 } ∧
      t.clock = { s.clock with time := advanceTime s.clock.time } ∧
      t.mixer.active = s.mixer.pending.getD s.mixer.active ∧ t.mixer.pending = none ∧
      t.mixer.bank0 = s.mixer.bank0 ∧ t.mixer.bank1 = s.mixer.bank1 ∧ t.mixer.nom = s.mixer.nom ∧
      t.mixer.capGains = (if t.mixer.active = 0 then s.mixer.bank0 else s.mixer.bank1) ∧
      (∀ n : Seat, n ∈ t.mixer.capSeats ↔
        hasEntry t.floor.openList n = true ∧ takesPart (presenceOf t n) = true) ∧
      (t.mixer.capSeats = [] → t.mixer.capFactor = none) ∧
      (∀ k : Fin 8, t.mixer.capSeats.length = k.val + 1 →
        t.mixer.capFactor = some (look s.mixer.nom k)) ∧
      t.gate.threshold = s.floor.setup.threshold ∧ t.gate.hold = s.floor.setup.hold ∧
      (limitsFirst = false →
        t.floor =
          { s.floor with
            openList := s.floor.openList.map
              (fun e => { e with timer := { e.timer with owed := e.timer.running } }) } ∧
        t.log = s.log ∧ t.notices = s.notices) ∧
      (limitsFirst = true →
        ∀ u : State, u = takeCounts (oweCounts (tickClock (nextSuperframe (reachBoundary s)))) →
          t.floor = u.floor ∧ t.log = u.log ∧ t.notices = u.notices) ∧
      (t.clock.time.second = 0 ∧ t.clock.time.ms = 0 →
        t.due.boundary = some (weekMinute t.clock.time)) ∧
      (t.clock.time.second ≠ 0 ∨ t.clock.time.ms ≠ 0 → t.due.boundary = none) ∧
      t.seats = s.seats ∧ t.port = s.port ∧ t.sched = s.sched ∧ t.links = s.links ∧
      t.screens = s.screens ∧
      t.displays = { s.displays with now := max s.displays.now 625 } ∧
      (∀ r : RoomTime, r = s.clock.time →
        r.day ≤ 6 → r.hour ≤ 23 → r.minute ≤ 59 → r.second ≤ 59 → r.ms ≤ 999 →
        weekMs t.clock.time = (weekMs r + 1) % 604800000 ∧ t.clock.time.day ≤ 6 ∧
          t.clock.time.hour ≤ 23 ∧ t.clock.time.minute ≤ 59 ∧ t.clock.time.second ≤ 59 ∧
          t.clock.time.ms ≤ 999)

/-- The superframe end: the peaks complete, the meters take any larger peak, and the REFUSED timers above 1, the
messages above 1 ms and the display timers above 1 ms fall by 1 (R19, R106, R107, R126, R146); the voice evaluation
comes due with this superframe's stamp and copies (R111). A timer or a message at its last count is marked, which its
expiry row takes (CountersExpire), and no other is; timers at 0 and messages until cleared stay (R19, R126, R146). The
step of the quiet count comes due; a row or the superframe start takes it (R193): a count below 32 rises by 1, and a
rise to 32 makes the notice pending if LOG is enabled and a record unread. The marks, and that what the superframe end
finds owed is taken first, as the rows take it, are the model's (notes/assumptions/6.md). -/
def Obligations.SuperframeEndCompletesPeaks : Prop :=
  (∀ s : State, settleEnd s =
    settleQuiet (settleEmitter (settleVoice (Statements.expired (Statements.afterRows Statements.lockRows
      (Statements.afterRows [.minuteBoundary] s)))))) ∧
  (∀ s : State, settleEnd (settleEnd s) = settleEnd s →
    exec .superframeEnd s = exec .superframeEnd (settleEnd s)) ∧
  (∀ before s : State, s = settleEnd before →
    ∃ t : State, exec .superframeEnd before = .next t ∧
      t.gate.lastPeak = s.gate.forming ∧
      (∀ i : MeterNo, look t.gate.meters i = max (look s.gate.meters i) (look s.gate.forming i)) ∧
      (∀ i : MeterNo, look t.gate.forming i = 0) ∧
      (∀ n : Seat, 1 < (look s.seats n).refused →
        look t.seats n = { look s.seats n with refused := (look s.seats n).refused - 1 }) ∧
      (∀ n : Seat, (look s.seats n).refused ≤ 1 → look t.seats n = look s.seats n) ∧
      (∀ (n : Seat) (m : Message) (k : Nat), look s.screens.messages n = some m → m.left = some k →
        1 < k → look t.screens.messages n = some { m with left := some (k - 1) }) ∧
      (∀ (n : Seat) (m : Message), look s.screens.messages n = some m →
        (∀ k : Nat, m.left = some k → k ≤ 1) → look t.screens.messages n = some m) ∧
      (∀ n : Seat, look s.screens.messages n = none → look t.screens.messages n = none) ∧
      (∀ d : DisplayNo, 1 < (look s.displays.records d).timer →
        look t.displays.records d =
          { look s.displays.records d with timer := (look s.displays.records d).timer - 1 }) ∧
      (∀ d : DisplayNo, (look s.displays.records d).timer ≤ 1 →
        look t.displays.records d = look s.displays.records d) ∧
      (∀ n : Seat, n ∈ t.due.refused ↔ (look s.seats n).refused = 1) ∧
      (∀ n : Seat, n ∈ t.due.messages ↔
        ∃ m : Message, look s.screens.messages n = some m ∧ m.left = some 1) ∧
      (∀ d : DisplayNo, d ∈ t.due.displays ↔ (look s.displays.records d).timer = 1) ∧
      t.notices = s.notices ∧ t.due.quiet = true ∧
      t.due.voice =
        some { stamp := s.time.stamp, threshold := s.gate.threshold, hold := s.gate.hold } ∧
      t.gate.filters = s.gate.filters ∧
      t.floor = s.floor ∧ t.log = s.log ∧ t.port = s.port ∧ t.time = s.time) ∧
  (∀ s : State, s.due.quiet = false → settleQuiet s = s) ∧
  (∀ s : State, s.due.quiet = true →
    settleQuiet s =
      (s.withNotices
        (if s.notices.quiet < 32 then
          { s.notices with
            quiet := s.notices.quiet + 1
            pending := s.notices.pending ||
              (decide (s.notices.quiet = 31) && s.notices.mask.log && decide (0 < s.log.unread)) }
        else s.notices)).withDue { s.due with quiet := false }) ∧
  (∀ s : State, settleEmitter (settleExpiries (settleLinks (takeBoundary (takeCounts s)))) = s →
    s.due.quiet = true →
    ∃ t : State, exec (.superframeStart false) s = .next t ∧ t.due.quiet = false ∧ t.log = s.log ∧
      (32 ≤ s.notices.quiet → t.notices = s.notices) ∧
      (s.notices.quiet < 32 →
        t.notices =
          { s.notices with
            quiet := s.notices.quiet + 1
            pending := s.notices.pending ||
              (decide (s.notices.quiet = 31) && s.notices.mask.log && decide (0 < s.log.unread)) }))

/-! ### The floor -/

/-- One append: one record at the end of a ring of at most 256, the oldest overwritten, with the next sequence number,
the room time and the id given; the unread count, LOG, the quiet count, and the notice that becomes pending when
the unread count rises to the trigger level (R186, R187, R190, R192, R193). -/
def Obligations.AppendIsOneRecord : Prop :=
  ∀ (event : LogEvent) (seat : Option Seat) (booking : Option Nat) (s : State),
    ∃ t : State, appendWith event seat booking s = t ∧
      t = (s.withLog t.log).withNotices t.notices ∧
      newestIs t event seat booking ∧ t.log.nextSeq = s.log.nextSeq + 1 ∧
      (s.log.ring.length < 256 → t.log.ring.dropLast = s.log.ring) ∧
      (256 ≤ s.log.ring.length → t.log.ring.dropLast = s.log.ring.drop 1) ∧
      (s.log.unread < 256 → t.log.unread = s.log.unread + 1) ∧
      (256 ≤ s.log.unread → t.log.unread = s.log.unread) ∧
      t.notices.summary = { s.notices.summary with log := true } ∧ t.notices.quiet = 0 ∧
      t.notices.mask = s.notices.mask ∧ t.notices.trigger = s.notices.trigger ∧
      (t.notices.pending = true ↔
        s.notices.pending = true ∨
          (s.notices.mask.log = true ∧ s.log.unread < t.log.unread ∧
            t.log.unread = s.notices.trigger))

/-- What ends every event, command and signal at the floor (R40, R42): the head of the queue or the voice candidate
opens while a slot is free, and no longer; with nobody waiting, only filters of seats outside the filtered set
come to rest (R110). The candidate is the ARMED seat with voice present that spoke first, of two the lower
(R115). -/
def Obligations.SlotsFillAtTheEnd : Prop :=
  (∀ s : State, advanceLaw (afterFloor s)) ∧
  (∀ s : State, s.floor.setup.mode = .voice →
    slotFree (afterFloor s).floor = false ∨ candidate (afterFloor s) = none) ∧
  (∀ s : State, nobodyWaits s →
    (afterFloor s).floor = s.floor ∧ (afterFloor s).seats = s.seats ∧ (afterFloor s).log = s.log ∧
      (afterFloor s).notices = s.notices ∧ floorFrame s (afterFloor s) ∧ gateFrame s (afterFloor s)) ∧
  (∀ (s : State) (r : Request) (q : List Request), slotFree s.floor = true → s.floor.queue = r :: q →
    (s.floor.setup.mode = .direct ∨
      s.floor.setup.mode = .queued ∧ s.floor.setup.autoAdvance = true) →
    afterFloor s = afterFloor (checkTimer r.seat (withOpened .auto r.seat s))) ∧
  (∀ (s : State) (n : Seat), slotFree s.floor = true → s.floor.setup.mode = .voice →
    candidate s = some n → afterFloor s = afterFloor (checkTimer n (withOpened .voice n s))) ∧
  (∀ (s : State) (n : Seat), candidate s = some n →
    micState s.floor n = .armed ∧ (look s.gate.filters n).present = true ∧
      ∀ m : Seat, micState s.floor m = .armed → (look s.gate.filters m).present = true →
        age s.time.stamp (look s.gate.filters m).start ≤
            age s.time.stamp (look s.gate.filters n).start ∧
          (age s.time.stamp (look s.gate.filters m).start =
            age s.time.stamp (look s.gate.filters n).start → n ≤ m))

/-- The count that a RUNNING timer owes (`owed`, notes/assumptions/15.md) and its checks are taken as one (R73, R84):
elapsed rises by 1 up to 5,999,999; at the warn point WARNED carries the seconds left to the limit, rounded up (R77);
at the limit point the entry closes under CLOSE and is marked under NOTIFY (R78, R79); a warning and a limit found by
one check come in that order, at once; then auto-advance and voice admission. A row takes its match only when no older
entry owes one (R76); a row whose match has not come about changes nothing (notes/assumptions/7.md). With nothing else
owed but the step of the quiet count, the next superframe start takes the counts that still are, and then owes its own
(R73, R84). -/
def Obligations.SpeakingMatches : Prop :=
  (∀ (s : State) (n : Seat) (a b : List Entry) (e : Entry), s.floor.openList = a ++ e :: b →
    e.seat = n → (∀ x ∈ a, x.seat ≠ n) →
    let t := e.timer
    let k := if t.elapsed < 5999999 then t.elapsed + 1 else t.elapsed
    let counted := modifyOpenTimer n (fun x => { x with elapsed := k, owed := false }) s
    let mark := fun (u : State) => modifyOpenTimer n (fun x => { x with warned := true }) u
    let late := fun (l : Nat) (u : State) =>
      record (.overtime (l / 1000)) (some n) (modifyOpenTimer n (fun x => { x with overtime := true }) u)
    (∀ x ∈ b, x.seat ≠ n) →
    (t.owed = false → takeCount n s = s) ∧
    (t.owed = true → owesMatch t = false → takeCount n s = afterFloor counted) ∧
    (t.owed = true → t.running = true → (∀ x ∈ a, owesMatch x.timer = false) →
      (∀ w l : Nat, t.warned = false → t.warn = some w → t.limit = some l → w ≤ k →
        t.overtime = true ∨ k < l →
        exec (.speakingWarning n) s =
          .next (afterFloor (record (.warned ((l - k + 999) / 1000)) (some n) (mark counted)))) ∧
      (∀ w l : Nat, t.warned = false → t.warn = some w → t.limit = some l → w ≤ k →
        t.overtime = false → l ≤ k →
        ∀ u : State, u = record (.warned 0) (some n) (mark counted) →
          (s.floor.setup.action = .close →
            exec (.speakingWarning n) s = .next (afterFloor (withClosed .limit n u)) ∧
            exec (.speakingLimitClose n) s = .next (afterFloor (withClosed .limit n u)) ∧
            exec (.speakingLimitNotify n) s = .next s) ∧
          (s.floor.setup.action = .notify →
            exec (.speakingWarning n) s = .next (afterFloor (late l u)) ∧
            exec (.speakingLimitNotify n) s = .next (afterFloor (late l u)) ∧
            exec (.speakingLimitClose n) s = .next s)) ∧
      (∀ l : Nat, t.warned = true ∨ t.warn = none → t.limit = some l → t.overtime = false → l ≤ k →
        exec (.speakingWarning n) s = .next s ∧
        (s.floor.setup.action = .close →
          exec (.speakingLimitClose n) s = .next (afterFloor (withClosed .limit n counted)) ∧
          exec (.speakingLimitNotify n) s = .next s) ∧
        (s.floor.setup.action = .notify →
          exec (.speakingLimitNotify n) s = .next (afterFloor (late l counted)) ∧
          exec (.speakingLimitClose n) s = .next s))) ∧
    (t.warned = true ∨ t.warn = none ∨ (∃ w, t.warn = some w ∧ k < w) →
      exec (.speakingWarning n) s = .next s) ∧
    (t.overtime = true ∨ t.limit = none ∨ (∃ l, t.limit = some l ∧ k < l) →
      exec (.speakingLimitClose n) s = .next s ∧ exec (.speakingLimitNotify n) s = .next s) ∧
    (t.owed = false ∨ t.running = false ∨ (∃ x ∈ a, owesMatch x.timer = true) →
      exec (.speakingWarning n) s = .next s ∧ exec (.speakingLimitClose n) s = .next s ∧
        exec (.speakingLimitNotify n) s = .next s)) ∧
  (∀ (s : State) (n : Seat), hasEntry s.floor.openList n = false →
    exec (.speakingWarning n) s = .next s ∧ exec (.speakingLimitClose n) s = .next s ∧
      exec (.speakingLimitNotify n) s = .next s) ∧
  (∀ s : State, frameSettled (s.withDue { s.due with quiet := false }) → mayTake s = false →
    endsThisFrame s = false →
    ∃ t : State, exec (.superframeStart false) s = .next t ∧ t.log = (takeCounts s).log ∧
      t.notices = (settleQuiet (takeCounts s)).notices ∧ t.seats = (takeCounts s).seats ∧
      t.floor = (oweCounts (takeCounts s)).floor)

/-- A request has joined the queue before the first entry that orders after it, and REQUEST carries its position
(R32; in a queue that a wrapped age has left out of order the place is the model's choice, notes/assumptions/37.md);
with 24 seats waiting the press is refused (R35, R36, R62). -/
def Statements.queues (n : Seat) (stamp : Stamp) (s pressed : State) : Prop :=
  (s.floor.queue.length < 24 → ∃ a b : List Request, s.floor.queue = a ++ b ∧
    (∀ e ∈ a, ordersBefore s.time.stamp { seat := n, stamp := stamp } e = false) ∧
    (∀ e ∈ b.head?, ordersBefore s.time.stamp { seat := n, stamp := stamp } e = true) ∧
    pressed = afterFloor (record (.request (a.length + 1)) (some n)
      (s.withFloor { s.floor with queue := a ++ { seat := n, stamp := stamp } :: b }))) ∧
  (24 ≤ s.floor.queue.length → pressed = afterFloor (refuse n s))

/-- A delegate's MIC press with the floor RUNNING, by mode and mic state (R35 to R38); a request joins the queue
before the first entry that orders after it, and REQUEST carries its position (R32; its place in a queue out of order is
the model's choice, notes/assumptions/37.md). -/
def Obligations.MicPressesByMode : Prop :=
  ∀ (n : Seat) (stamp : Stamp) (s : State), s.floor.phase = .running →
    effectiveRole s n = .delegate →
    let mode := s.floor.setup.mode
    let mic := micState s.floor n
    let pressed := buttonEvent .mic true n stamp s
    (mode = .direct → mic = .off → slotFree s.floor = true →
      pressed = afterFloor (checkTimer n (withOpened .press n s))) ∧
    ((mode = .direct ∧ slotFree s.floor = false) ∨ mode = .queued → mic = .off →
      Statements.queues n stamp s pressed) ∧
    (mode = .direct ∨ mode = .queued → mic = .waiting →
      pressed = afterFloor (withCancelled .press n s)) ∧
    (mic = .opened → pressed = afterFloor (withClosed .press n s)) ∧
    (mode = .overrideMode → mic = .off →
      (delegates s.floor ≠ s.floor.setup.maxOpen →
        pressed = afterFloor (checkTimer n (withOpened .press n s))) ∧
      (∀ e : Entry, delegates s.floor = s.floor.setup.maxOpen →
        (s.floor.openList.filter (fun x => !x.chair)).head? = some e →
        pressed = afterFloor (checkTimer n (withOpened .press n (withClosed .overridden e.seat s))))) ∧
    (mode = .voice → mic = .off →
      pressed = afterFloor (s.withFloor { s.floor with armed := insertSeat n s.floor.armed })) ∧
    (mode = .voice → mic = .armed → pressed = afterFloor (withDisarmed n s))

/-- A delegate's MIC press in HOLD, by mode and mic state (R62), the presses of a chair (R39, R41, R57, R65), the
presses that are refused (R34, R62, R69), the releases that change nothing (R34, R60), and a chair's release that
takes it out of the holder set (R60). A request's place in a queue that a wrapped age has left out of order is the
model's choice (notes/assumptions/37.md). -/
def Obligations.OtherButtonEvents : Prop :=
  ∀ (n : Seat) (stamp : Stamp) (s : State),
    (s.floor.phase = .running ∨ s.floor.phase = .hold → effectiveRole s n = .chair →
      (hasEntry s.floor.openList n = false →
        buttonEvent .mic true n stamp s = afterFloor (withOpened .press n s)) ∧
      (hasEntry s.floor.openList n = true →
        buttonEvent .mic true n stamp s = afterFloor (withClosed .press n s))) ∧
    (s.floor.phase = .running → effectiveRole s n = .chair →
      (∀ (r : Request) (q : List Request), slotFree s.floor = true → s.floor.queue = r :: q →
        buttonEvent .next true n stamp s =
          afterFloor (checkTimer r.seat (withOpened .grant r.seat s))) ∧
      (slotFree s.floor = false ∨ s.floor.queue = [] →
        buttonEvent .next true n stamp s = afterFloor (refuse n s)) ∧
      buttonEvent .priority true n stamp s =
        afterFloor (withHold (some n)
          (s.withFloor { s.floor with holders := insertSeat n s.floor.holders }))) ∧
    (s.floor.phase = .hold → effectiveRole s n = .chair →
      buttonEvent .priority true n stamp s =
        afterFloor (s.withFloor { s.floor with holders := insertSeat n s.floor.holders }) ∧
      buttonEvent .next true n stamp s = afterFloor (refuse n s)) ∧
    (s.floor.phase = .closed ∨ s.floor.phase = .alert ∨ effectiveRole s n = .listenOnly →
      ∀ b : ButtonName, buttonEvent b true n stamp s = afterFloor (refuse n s)) ∧
    (effectiveRole s n = .delegate →
      buttonEvent .priority true n stamp s = afterFloor (refuse n s) ∧
        buttonEvent .next true n stamp s = afterFloor (refuse n s)) ∧
    (s.floor.phase = .hold → effectiveRole s n = .delegate →
      let mode := s.floor.setup.mode
      let mic := micState s.floor n
      let pressed := buttonEvent .mic true n stamp s
      (mode = .direct ∨ mode = .queued → mic = .off → Statements.queues n stamp s pressed) ∧
      (mode = .overrideMode ∨ mode = .voice → mic = .off → pressed = afterFloor (refuse n s)) ∧
      (mode = .direct ∨ mode = .queued → mic = .waiting →
        pressed = afterFloor (withCancelled .press n s)) ∧
      (mode = .voice → mic = .armed → pressed = afterFloor (withDisarmed n s)) ∧
      (mic = .held → pressed = afterFloor (withUnheld .press n s))) ∧
    (∀ b : ButtonName, b ≠ .priority ∨ effectiveRole s n ≠ .chair ∨
        s.floor.holders.contains n = false →
      buttonEvent b false n stamp s = afterFloor s) ∧
    (s.floor.phase = .hold → effectiveRole s n = .chair → s.floor.holders.contains n = true →
      (s.floor.remote = true ∨ s.floor.holders.any (fun m => decide (m ≠ n)) = true →
        buttonEvent .priority false n stamp s =
          afterFloor (s.withFloor
            { s.floor with holders := s.floor.holders.filter (fun m => decide (m ≠ n)) })) ∧
      (s.floor.remote = false → s.floor.holders.all (fun m => decide (m = n)) = true →
        buttonEvent .priority false n stamp s =
          afterFloor (holdEnd (s.withFloor { s.floor with holders := [] }))))

/-- PRIORITY ON and PRIORITY OFF (R61, R58). -/
def Obligations.PriorityCommands : Prop :=
  ∀ (s : State) (rest : List CommandCell) (tag : Byte),
    (Ready (.priorityOn tag (some ())) s rest →
      (s.floor.phase = .running →
        exec (.priorityOn tag (some ())) s =
          .next (answered tag 0x15 .done []
            (withHold none ((taken s rest).withFloor { s.floor with remote := true })))) ∧
      (s.floor.phase = .hold →
        exec (.priorityOn tag (some ())) s =
          .next (answered tag 0x15 .done []
            ((taken s rest).withFloor { s.floor with remote := true }))) ∧
      (s.floor.phase = .closed ∨ s.floor.phase = .alert →
        exec (.priorityOn tag (some ())) s =
          .next (answered tag 0x15 .state [] (taken s rest)))) ∧
    (Ready (.priorityOff tag (some ())) s rest →
      (s.floor.remote = false →
        exec (.priorityOff tag (some ())) s = .next (answered tag 0x16 .done [] (taken s rest))) ∧
      (s.floor.remote = true → s.floor.holders ≠ [] →
        exec (.priorityOff tag (some ())) s =
          .next (answered tag 0x16 .done []
            ((taken s rest).withFloor { s.floor with remote := false }))) ∧
      (s.floor.remote = true → s.floor.holders = [] → s.floor.phase = .hold →
        exec (.priorityOff tag (some ())) s =
          .next (answered tag 0x16 .done []
            (holdEnd ((taken s rest).withFloor { s.floor with remote := false })))))

/-- The hold end restores the head of the Hold Shadow up to max open behind the Open List, each entry with MIC_OPEN
of how RESTORE and its timer RUNNING, then closes the rest with RESTORE_FULL, and then HOLD_END carries the number
restored, in this order (R63, R71, R74). Then each restored timer is checked in order (R81), in VOICE each restored
entry without voice present closes with VOICE_HOLD and is ARMED (R64), and auto-advance or voice admission follows.
Stated for no seat twice in the Shadow. -/
def Obligations.HoldEndRestores : Prop :=
  ∀ s : State, seatsDistinct s.floor.shadow →
    ∀ (room : Nat) (back : List Entry), room = s.floor.setup.maxOpen - delegates s.floor →
      back = s.floor.shadow.take room →
      let resumed := fun e : Entry => { e with how := .restore, timer := { e.timer with running := true } }
      let opened := back.foldl
        (fun x e => record (.micOpen .restore) (some e.seat)
          (x.withFloor
            { x.floor with
              shadow := x.floor.shadow.filter (fun y => decide (y.seat ≠ e.seat))
              openList := x.floor.openList ++ [resumed e] })) s
      let closed := (s.floor.shadow.drop room).foldl (fun x e => withUnheld .restoreFull e.seat x) opened
      ∀ u : State,
        u = record (.holdEnd back.length) none (closed.withFloor { closed.floor with phase := .running }) →
        u.floor =
          { s.floor with
            phase := .running, openList := s.floor.openList ++ back.map resumed, shadow := [] } ∧
        newestIs u (.holdEnd (min room s.floor.shadow.length)) none (meetingId s.floor.meeting) ∧
        u.log.nextSeq = s.log.nextSeq + BitVec.ofNat 16 (s.floor.shadow.length + 1) ∧
        u.seats = s.seats ∧ u.gate = s.gate ∧ floorFrame s u ∧
        ∀ v : State, v = (back.map Entry.seat).foldl (fun x n => checkTimer n x) u →
          (s.floor.setup.mode ≠ .voice → holdEnd s = afterFloor v) ∧
          (s.floor.setup.mode = .voice →
            holdEnd s = afterFloor ((back.map Entry.seat).foldl
              (fun x n =>
                if (look x.gate.filters n).present = false ∧ hasEntry x.floor.openList n = true then
                  record (.micClose .voiceHold) (some n)
                    (x.withFloor
                      { x.floor with
                        openList := x.floor.openList.filter (fun e => decide (e.seat ≠ n))
                        armed := insertSeat n x.floor.armed })
                else x) v))

/-- SEAT OPEN, by the checks of R43 in their order, and in HOLD (R65). -/
def Obligations.SeatOpenChecks : Prop :=
  ∀ (s : State) (rest : List CommandCell) (tag : Byte) (k : Nat),
    Ready (.seatOpen tag (some k)) s rest →
    let u := taken s rest
    let out := exec (.seatOpen tag (some k)) s
    (63 < k → out = .next (answered tag 0x10 .range [] u)) ∧
    ∀ n : Seat, k = n.val →
      (s.floor.phase = .closed ∨ s.floor.phase = .alert →
        out = .next (answered tag 0x10 .state []
          (if takesPart (presenceOf s n) then refuse n u else u))) ∧
      (s.floor.phase = .running ∨ s.floor.phase = .hold →
        (takesPart (presenceOf s n) = false → out = .next (answered tag 0x10 .state [] u)) ∧
        (takesPart (presenceOf s n) = true →
          (effectiveRole s n = .listenOnly →
            out = .next (answered tag 0x10 .state [] (refuse n u))) ∧
          (effectiveRole s n ≠ .listenOnly → hasEntry s.floor.openList n = true →
            out = .next (answered tag 0x10 .done [] u)) ∧
          (effectiveRole s n = .chair → hasEntry s.floor.openList n = false →
            out = .next (answered tag 0x10 .done [] (afterFloor (withOpened .command n u)))) ∧
          (effectiveRole s n = .delegate → hasEntry s.floor.openList n = false →
            (s.floor.phase = .hold → out = .next (answered tag 0x10 .state [] (refuse n u))) ∧
            (s.floor.phase = .running →
              (s.floor.setup.mode = .direct ∨ s.floor.setup.mode = .queued →
                (slotFree s.floor = true →
                  out = .next (answered tag 0x10 .done []
                    (afterFloor (checkTimer n (withOpened .command n u))))) ∧
                (slotFree s.floor = false →
                  out = .next (answered tag 0x10 .state [] (refuse n u)))) ∧
              (s.floor.setup.mode = .overrideMode →
                (delegates s.floor ≠ s.floor.setup.maxOpen →
                  out = .next (answered tag 0x10 .done []
                    (afterFloor (checkTimer n (withOpened .command n u))))) ∧
                (∀ e : Entry, delegates s.floor = s.floor.setup.maxOpen →
                  (s.floor.openList.filter (fun x => !x.chair)).head? = some e →
                  out = .next (answered tag 0x10 .done []
                    (afterFloor (checkTimer n
                      (withOpened .command n (withClosed .overridden e.seat u))))))) ∧
              (s.floor.setup.mode = .voice →
                (micState s.floor n = .off →
                  out = .next (answered tag 0x10 .done []
                    (afterFloor (u.withFloor
                      { s.floor with armed := insertSeat n s.floor.armed })))) ∧
                (micState s.floor n = .armed → out = .next (answered tag 0x10 .done [] u)))))))

/-- SEAT CLOSE ends whatever part a seat has on the floor (R44), and QUEUE CLEAR empties the queue (R46). -/
def Obligations.SeatCloseAndQueueClear : Prop :=
  ∀ (s : State) (rest : List CommandCell) (tag : Byte),
    (∀ k : Nat, Ready (.seatClose tag (some k)) s rest →
      (63 < k →
        exec (.seatClose tag (some k)) s = .next (answered tag 0x11 .range [] (taken s rest))) ∧
      ∀ n : Seat, k = n.val →
        (micState s.floor n = .opened →
          exec (.seatClose tag (some k)) s =
            .next (answered tag 0x11 .done [] (afterFloor (withClosed .command n (taken s rest))))) ∧
        (micState s.floor n = .waiting →
          exec (.seatClose tag (some k)) s =
            .next (answered tag 0x11 .done []
              (afterFloor (withCancelled .command n (taken s rest))))) ∧
        (micState s.floor n = .held →
          exec (.seatClose tag (some k)) s =
            .next (answered tag 0x11 .done [] (afterFloor (withUnheld .command n (taken s rest))))) ∧
        (micState s.floor n = .armed →
          exec (.seatClose tag (some k)) s =
            .next (answered tag 0x11 .done [] (afterFloor (withDisarmed n (taken s rest))))) ∧
        (micState s.floor n = .off →
          exec (.seatClose tag (some k)) s =
            .next (answered tag 0x11 .done [] (afterFloor (taken s rest))))) ∧
    (Ready (.queueClear tag (some ())) s rest →
      (s.floor.queue = [] →
        exec (.queueClear tag (some ())) s =
          .next (answered tag 0x13 .done [] (afterFloor (taken s rest)))) ∧
      (s.floor.queue ≠ [] →
        exec (.queueClear tag (some ())) s =
          .next (answered tag 0x13 .done []
            (afterFloor (record (.queueCleared s.floor.queue.length) none
              ((taken s rest).withFloor { s.floor with queue := [] }))))))

/-- GRANT NEXT (R45). -/
def Obligations.GrantNextOpensTheHead : Prop :=
  ∀ (s : State) (rest : List CommandCell) (tag : Byte), Ready (.grantNext tag (some ())) s rest →
    (∀ (r : Request) (q : List Request), slotFree s.floor = true → s.floor.queue = r :: q →
      exec (.grantNext tag (some ())) s =
        .next (answered tag 0x12 .done []
          (afterFloor (checkTimer r.seat (withOpened .grant r.seat (taken s rest)))))) ∧
    (slotFree s.floor = false ∨ s.floor.queue = [] →
      exec (.grantNext tag (some ())) s = .next (answered tag 0x12 .state [] (taken s rest)))

/-- An entry whose timer is recomputed for a Floor Setup (R75, R80): the new points, and each flag kept only where its
point is present and reached, OVERTIME only under NOTIFY. -/
def Statements.realigned (f : FloorSetup) (table : Vector SeatEntry 64) (e : Entry) : Entry :=
  let free := e.chair || (look table e.seat).exempt
  let warn := if free then none else f.limit.map (fun l => (l - f.lead) * 1000)
  let limit := if free then none else f.limit.map (fun l => l * 1000)
  let passed := fun (x : Option Nat) => x.any (fun k => decide (k ≤ e.timer.elapsed))
  { e with
    timer :=
      { e.timer with
        warn := warn, limit := limit, warned := e.timer.warned && passed warn
        overtime := e.timer.overtime && decide (f.action = .notify) && passed limit } }

/-- Every timer is recomputed for the running Floor Setup, the flags fall into line, and then every timer of the Open
List is checked in its order (R80). -/
def Statements.recomputed (s : State) : State :=
  let fix := Statements.realigned s.floor.setup s.seatTable
  let t := s.withFloor
    { s.floor with openList := s.floor.openList.map fix, shadow := s.floor.shadow.map fix }
  (seatsOf t.floor.openList).foldl (fun u n => checkTimer n u) t

/-- The Request Queue has been emptied as a whole, with one QUEUE_CLEARED if it held a seat, and the arming is cleared
(R46, R48, R50, R68). -/
def Statements.unqueued (s : State) : State :=
  let t :=
    if s.floor.queue = [] then s
    else record (.queueCleared s.floor.queue.length) none (s.withFloor { s.floor with queue := [] })
  t.withFloor { t.floor with armed := [] }

/-- The floor has been emptied for a meeting signal or an alert: every entry of the Open List and then of the Hold
Shadow closes, the queue and the arming are emptied, and a holder set with a member is emptied with HOLD_END of
detail 0, the records in this order (R50, R66, R68, R71). Spelt for no seat twice in either list. -/
def Statements.emptied (reason : CloseReason) (s : State) : State :=
  let a := (s.floor.openList.map Entry.seat).foldl (fun x n => withClosed reason n x) s
  let b := Statements.unqueued
    ((s.floor.shadow.map Entry.seat).foldl (fun x n => withUnheld reason n x) a)
  if s.floor.remote = true ∨ s.floor.holders ≠ [] then
    record (.holdEnd 0) none (b.withFloor { b.floor with holders := [], remote := false })
  else b

/-- FLOOR SET (R47 to R49). A change of mode with the floor RUNNING closes every delegate, empties the queue and the
arming, and leaves the chairs; a smaller max open in the same mode closes the oldest delegates, as many as are
too many. A change of mode in HOLD closes the Hold Shadow too. The closes carry reason SETUP, and the recomputation of
R80 follows. The floor state is checked before the fields, the model's choice (notes/assumptions/27.md). The explicit
clauses are for no seat twice in a list and, where they count, no limit and nobody waiting. -/
def Obligations.FloorSetChanges : Prop :=
  ∀ (s : State) (rest : List CommandCell) (tag : Byte) (f : SetupFields),
    Ready (.floorSet tag (some f)) s rest →
    (s.floor.phase = .closed ∨ s.floor.phase = .alert →
      exec (.floorSet tag (some f)) s = .next (answered tag 0x14 .state [] (taken s rest))) ∧
    (s.floor.phase = .running ∨ s.floor.phase = .hold →
      (setup? f = none →
        exec (.floorSet tag (some f)) s = .next (answered tag 0x14 .range [] (taken s rest))) ∧
      ∀ x : FloorSetup, setup? f = some x →
        ∃ t : State, exec (.floorSet tag (some f)) s = .next (answered tag 0x14 .done [] t) ∧
          t.floor.setup = x ∧ t.floor.meeting = s.floor.meeting ∧ t.floor.phase = s.floor.phase ∧
          t.seats = s.seats ∧ floorFrame (taken s rest) t ∧
          (s.floor.phase = .running → seatsDistinct s.floor.openList →
            x.mode ≠ s.floor.setup.mode →
            seatsOf t.floor.openList = seatsOf (s.floor.openList.filter (fun e => e.chair)) ∧
              t.floor.queue = [] ∧ t.floor.armed = []) ∧
          (s.floor.phase = .running → seatsDistinct s.floor.openList → nobodyWaits s →
            x.mode = s.floor.setup.mode → x.limit = none →
            seatsOf t.floor.openList =
              (seatsOf s.floor.openList).filter (fun n =>
                !((delegateSeats s.floor).take (delegates s.floor - x.maxOpen)).contains n) ∧
            delegates t.floor = min (delegates s.floor) x.maxOpen ∧
            t.log.nextSeq = s.log.nextSeq + BitVec.ofNat 16 (delegates s.floor - x.maxOpen)) ∧
          (∀ u : State, seatsDistinct s.floor.openList → x.mode = s.floor.setup.mode →
            u = ((if s.floor.phase = .running
              then (delegateSeats s.floor).take (delegates s.floor - x.maxOpen) else []).foldl
                (fun v n => withClosed .setup n v)
                ((taken s rest).withFloor { s.floor with setup := x })) →
            t = afterFloor (Statements.recomputed u)) ∧
          (∀ u v : State, seatsDistinct s.floor.openList → seatsDistinct s.floor.shadow →
            x.mode ≠ s.floor.setup.mode →
            u = Statements.unqueued
              ((delegateSeats s.floor).foldl (fun y n => withClosed .setup n y) (taken s rest)) →
            v = (if s.floor.phase = .hold
              then (s.floor.shadow.map Entry.seat).foldl (fun y n => withUnheld .setup n y) u else u) →
            t = afterFloor (Statements.recomputed (v.withFloor { v.floor with setup := x }))) ∧
          (s.floor.phase = .hold → x.mode = s.floor.setup.mode →
            seatsOf t.floor.shadow = seatsOf s.floor.shadow) ∧
          (s.floor.phase = .hold → x.mode ≠ s.floor.setup.mode → t.floor.shadow = []))

/-- The ALERT filter, the alert entry and the alert exit (R67, R68, R70, R222). The entry empties the floor with its
records in the order of R68 and R71, spelt for no seat twice in a list, and brings every voice filter to rest (R110). -/
def Obligations.AlertSampleFilters : Prop :=
  ∀ (level : AlertLevel) (sample : Bool) (s : State),
    (level = .low ∧ sample = true ∨ level = .high ∧ sample = false ∨
      level = .between ∧ sample = s.alert.pin) →
    (sample = s.alert.level →
      exec (.alertSample level) s = .next (s.withAlert { s.alert with run := 0, pin := sample })) ∧
    (sample ≠ s.alert.level → s.alert.run < 2 →
      exec (.alertSample level) s =
        .next (s.withAlert { s.alert with run := s.alert.run + 1, pin := sample })) ∧
    (sample ≠ s.alert.level → s.alert.run = 2 →
      ∃ t : State, exec (.alertSample level) s = .next t ∧
        t.alert = { level := sample, run := 0, pin := sample } ∧
        (sample = true →
          t.floor = emptyFloor .alert s.floor.setup s.floor.meeting ∧
          newestIs t (.alertOn (s.floor.openList.length + s.floor.shadow.length)) none
            (meetingId s.floor.meeting) ∧
          (∀ n : Seat, look t.gate.filters n = .rest) ∧
          (seatsDistinct s.floor.openList → seatsDistinct s.floor.shadow →
            ∀ u : State,
              u = record (.alertOn (s.floor.openList.length + s.floor.shadow.length)) none
                (Statements.emptied .alert s) →
              t.log = u.log ∧ t.notices = u.notices)) ∧
        (sample = false → nobodyWaits s →
          t.floor = { s.floor with phase := if s.floor.meeting = .none then .closed else .running } ∧
          newestIs t .alertOff none (meetingId s.floor.meeting) ∧
          t.log = (record .alertOff none s).log ∧ t.notices = (record .alertOff none s).notices) ∧
        t.seats = s.seats ∧ t.screens = s.screens ∧ t.mixer = s.mixer ∧ t.sched = s.sched ∧
        t.displays = s.displays ∧ t.port = s.port)

/-! ### Expiries, voice, emitter -/

/-- The last count of each expiring counter (R19, R126, R144, R146, R147, R193). A display that has warmed up queues
the code of its pending input, one that has cooled down with pending-on starts again, and the idle emitter takes at
once what is queued (R149; `emit`, with the instant of notes/assumptions/18.md). That a row takes the last count, and
that it changes nothing when none is due, is the model's choice (notes/assumptions/6.md, 7.md), and so is that the
emitter acts within the same event (notes/assumptions/19.md). -/
def Obligations.CountersExpire : Prop :=
  (∀ (s : State) (n : Seat), s.due.refused.contains n = true → (look s.seats n).refused = 1 →
    exec (.refusedTimerExpiry n) s =
      .next (setSeat n { look s.seats n with refused := 0 }
        (s.withDue { s.due with refused := s.due.refused.filter (fun m => decide (m ≠ n)) }))) ∧
  (∀ (s : State) (n : Seat), s.due.refused.contains n = false ∨ (look s.seats n).refused ≠ 1 →
    exec (.refusedTimerExpiry n) s = .next s) ∧
  (∀ (s : State) (n : Seat) (m : Message), look s.screens.messages n = some m →
    s.due.messages.contains n = true → m.left = some 1 →
    exec (.messageExpiry n) s =
      .next (setMessage n none
        (s.withDue { s.due with messages := s.due.messages.filter (fun k => decide (k ≠ n)) }))) ∧
  (∀ (s : State) (n : Seat), s.due.messages.contains n = false ∨
      (∀ m : Message, look s.screens.messages n = some m → m.left ≠ some 1) →
    exec (.messageExpiry n) s = .next s) ∧
  (∀ s : State, s.due.quiet = true → s.notices.quiet = 31 →
    exec .quietTimeout s =
      .next ((s.withNotices
        { s.notices with
          quiet := 32
          pending := s.notices.pending || (s.notices.mask.log && decide (0 < s.log.unread)) }).withDue
        { s.due with quiet := false })) ∧
  (∀ s : State, s.due.quiet = false ∨ s.notices.quiet ≠ 31 → exec .quietTimeout s = .next s) ∧
  (∀ (s : State) (d : DisplayNo), s.due.displays.contains d = true →
    (look s.displays.records d).timer = 1 →
    ∀ r : DisplayRecord, r = look s.displays.records d →
    let after := fun (x : DisplayRecord) (codes : List IrCode) =>
      (s.withDue { s.due with displays := s.due.displays.filter (fun e => decide (e ≠ d)) }).withDisplays
        { s.displays with
          records := upd s.displays.records d x
          queue := s.displays.queue ++ codes.map (fun c => { display := d, code := c }) }
    (r.state = .warming →
      exec (.warmExpiry d) s =
        .next (emit (after { r with state := .on, phase := some .steady, timer := 0, pending := none }
          (r.pending.toList.map IrCode.input)))) ∧
    (r.state = .cooling → r.pendingOn = false →
      exec (.coolExpiry d) s =
        .next (emit (after { r with state := .off, phase := none, timer := 0 } []))) ∧
    (r.state = .cooling → r.pendingOn = true →
      exec (.coolExpiry d) s =
        .next (emit (after
          { r with state := .warming, phase := some .sending, timer := 0, pendingOn := false }
          [.powerOn])))) ∧
  (∀ (s : State) (d : DisplayNo) (r : DisplayRecord), r = look s.displays.records d →
    (s.due.displays.contains d = false ∨ r.timer ≠ 1 ∨ r.state ≠ .warming →
      exec (.warmExpiry d) s = .next s) ∧
    (s.due.displays.contains d = false ∨ r.timer ≠ 1 ∨ r.state ≠ .cooling →
      exec (.coolExpiry d) s = .next s))

/-- A presence start has been taken: with the floor RUNNING and the seat ARMED, voice admission follows (R42, R113). -/
def Statements.startTaken (s : State) (n : Seat) : State :=
  if s.floor.phase = .running ∧ micState s.floor n = .armed then afterFloor s else s

/-- The presence starts of these seats have been taken in turn, and these reports wait behind them. -/
def Statements.startsTaken (starts : List Seat) (waiting : List VoiceReport) (s : State) : State :=
  let t := starts.foldl Statements.startTaken s
  t.withDue { t.due with reports := waiting }

/-- Reports that begin with the starts of these seats, up to the first presence end. -/
def Statements.startsUpToEnd (reports : List VoiceReport) (starts : List Seat) (rest : List VoiceReport) :
    Prop :=
  reports = starts.map (fun n => { seat := n, started := true }) ++ rest ∧
    ∀ r : VoiceReport, rest.head? = some r → r.started = false

/-- The voice evaluation moves the filter of every seat of the filtered set by its completed peak (R111). Every
change of presence is reported, in ascending seat number (R113). A presence start of an ARMED seat in RUNNING is
followed by voice admission, which opens the candidate with how VOICE while a slot is free (`afterFloor`,
SlotsFillAtTheEnd; R42, R113). A presence end taken in RUNNING closes the entry of a seat still without presence with
VOICE_HOLD, arms the seat, and hands the slot to the best candidate in the same way (R42, R110, R114). That the
evaluation hands over the starts up to the first end, and PRESENCE_END its end and the starts behind it, is the
model's form (notes/assumptions/16.md); a row whose event has not come about changes nothing
(notes/assumptions/7.md). What a superframe end finds owed it takes as the rows do (notes/assumptions/6.md). -/
def Obligations.VoiceReportsMoveTheFloor : Prop :=
  (∀ (s : State) (e : VoiceDue), s.due.voice = some e →
    ∃ (u : State) (found : List VoiceReport),
      u = (s.withGate { s.gate with filters := u.gate.filters }).withDue
        { s.due with voice := none, reports := s.due.reports ++ found } ∧
      (∀ (n : Seat) (f : VoiceFilter) (p : Nat), inFilteredSet s n = true →
        f = look s.gate.filters n → p = look s.gate.lastPeak ⟨n.val, by omega⟩ →
        (f.present = false → p < e.threshold → look u.gate.filters n = { f with run := 0 }) ∧
        (f.present = false → e.threshold ≤ p → f.run = 0 →
          look u.gate.filters n = { f with run := 1, runStamp := e.stamp }) ∧
        (f.present = false → e.threshold ≤ p → f.run = 1 →
          look u.gate.filters n = { f with run := 2 }) ∧
        (f.present = false → e.threshold ≤ p → f.run = 2 →
          look u.gate.filters n =
            { f with present := true, start := f.runStamp, run := 0, hold := e.hold }) ∧
        (f.present = true → e.threshold ≤ p → look u.gate.filters n = { f with hold := e.hold }) ∧
        (f.present = true → p < e.threshold → 1 < f.hold →
          look u.gate.filters n = { f with hold := f.hold - 1 }) ∧
        (f.present = true → p < e.threshold → f.hold = 1 →
          look u.gate.filters n = { f with present := false, run := 0, hold := 0 })) ∧
      (∀ n : Seat, inFilteredSet s n = false → look u.gate.filters n = look s.gate.filters n) ∧
      found.Pairwise (fun a b => a.seat < b.seat) ∧
      (∀ r : VoiceReport, r ∈ found ↔
        (look s.gate.filters r.seat).present ≠ (look u.gate.filters r.seat).present ∧
          r.started = (look u.gate.filters r.seat).present) ∧
      (∀ (starts : List Seat) (rest : List VoiceReport),
        Statements.startsUpToEnd (s.due.reports ++ found) starts rest →
        exec .voiceEvaluation s = .next (Statements.startsTaken starts rest u)) ∧
      (slotFree s.floor = false →
        ∃ t : State, exec .voiceEvaluation s = .next t ∧ t.due.voice = none ∧ t.floor = s.floor ∧
          t.log = s.log ∧ t.gate.meters = s.gate.meters ∧ t.gate.lastPeak = s.gate.lastPeak ∧
          ∀ n : Seat, inFilteredSet s n = true → look t.gate.filters n = look u.gate.filters n)) ∧
  (∀ s : State, s.due.voice = none → s.due.reports = [] → exec .voiceEvaluation s = .next s) ∧
  (∀ (s : State) (n : Seat) (starts : List Seat) (behind rest : List VoiceReport),
    s.due.reports = { seat := n, started := false } :: behind →
    Statements.startsUpToEnd behind starts rest →
    let w := s.withDue { s.due with reports := behind }
    let ends := s.floor.phase = .running ∧ micState s.floor n = .opened ∧ inFilteredSet s n = true ∧
      (look s.gate.filters n).present = false
    (ends →
      exec (.presenceEnd n) s =
        .next (Statements.startsTaken starts rest
          (afterFloor (record (.micClose .voiceHold) (some n)
            (w.withFloor
              { s.floor with
                openList := s.floor.openList.filter (fun x => decide (x.seat ≠ n))
                armed := insertSeat n s.floor.armed }))))) ∧
    (¬ ends → exec (.presenceEnd n) s = .next (Statements.startsTaken starts rest w))) ∧
  (∀ (s : State) (n : Seat), s.due.reports.head? ≠ some { seat := n, started := false } →
    exec (.presenceEnd n) s = .next s) ∧
  (∀ (s : State) (n : Seat), s.due.reports = [{ seat := n, started := false }] →
    s.floor.phase = .running → micState s.floor n = .opened → inFilteredSet s n = true →
    (look s.gate.filters n).present = false →
    (∀ m : Seat, micState s.floor m = .armed → (look s.gate.filters m).present = false) →
    ∃ t : State, exec (.presenceEnd n) s = .next t ∧
      t.floor =
        { s.floor with
          openList := s.floor.openList.filter (fun x => decide (x.seat ≠ n))
          armed := insertSeat n s.floor.armed } ∧
      newestIs t (.micClose .voiceHold) (some n) (meetingId s.floor.meeting) ∧
      t.log.nextSeq = s.log.nextSeq + 1 ∧ t.due = { s.due with reports := [] } ∧
      t.seats = s.seats ∧ t.mixer = s.mixer ∧ t.screens = s.screens) ∧
  (∀ s : State, s.due.voice = none → s.due.reports = [] → settleVoice s = s) ∧
  (∀ s u : State, s.due.voice ≠ none → s.due.reports = [] → exec .voiceEvaluation s = .next u →
    settleVoice s = settleVoice u) ∧
  (∀ (s u : State) (n : Seat) (behind : List VoiceReport),
    s.due.reports = { seat := n, started := false } :: behind → exec (.presenceEnd n) s = .next u →
    settleVoice s = settleVoice u)

/-- The idle emitter takes the head of the queue (R149): a code with pairs is sent for the transmission time of R150,
with the preset copied; an empty code is logged, sets DISPLAY, whose rise makes the notice pending if DISPLAY is
enabled, and is complete at once, so that a missing POWER_ON still moves the display to TIMING (R152, R194). `emit`
takes it at once, at the frame boundary if that has been reached and else at a free instant of the present frame
(notes/assumptions/18.md, 19.md). At its end a transmission is complete, and the Display Sequencer moves by R144 to
R146. The pin of its display carries the carrier during its marks, and no other pin is high (R151). Instants count
cycles of REFCLK, 20 to a microsecond and 625 to a frame (R222; the form is the model's, notes/assumptions/18.md).
The clauses with a completion are for an empty queue behind it. A row whose event has not come about changes nothing
(notes/assumptions/7.md). -/
def Obligations.TransmissionsRunAndComplete : Prop :=
  (∀ (s : State) (instant : Nat) (e : IrEntry) (rest : List IrEntry) (c : CodeList) (p : Preset),
    s.displays.now ≤ instant → instant ≤ 625 → s.displays.inFlight = none →
    s.displays.queue = e :: rest →
    c = look s.displays.codes (codeSlot e.display e.code) → p = look s.displays.presets e.display →
    (c.pairs ≠ [] →
      ∀ x : Displays,
        x = { s.displays with
              queue := rest
              now := instant
              inFlight := some
                { entry := e, period := p.period, high := p.high
                  ends := instant +
                    20 * (c.times * (c.pairs.map (fun y => y.1 + y.2)).sum +
                      (c.times - 1) * c.gap * 1000) } } →
        exec (.irTransmissionStart instant) s = .next (s.withDisplays x) ∧
        (s.displays.now = 625 → emit s = (s.withDisplays x).withDraws (s.draws + 1))) ∧
    (c.pairs = [] → rest = [] → (e.code = .powerOn → 0 < p.warmUp) →
      (e.code = .powerOff → 0 < p.coolDown) →
      ∃ t : State, exec (.irTransmissionStart instant) s = .next t ∧
        newestIs t (.displayNocode (codeSlot e.display e.code)) none (meetingId s.floor.meeting) ∧
        t.notices.summary.display = true ∧
        (s.notices.pending = true ∨ s.notices.summary.display = false ∧ s.notices.mask.display = true →
          t.notices.pending = true) ∧
        t.displays.queue = [] ∧ t.displays.inFlight = none ∧
        (∀ r : DisplayRecord, r = look s.displays.records e.display →
          (∀ n : InputNo, e.code = .input n → r.state = .on →
            look t.displays.records e.display = { r with selected := some n }) ∧
          (e.code = .powerOn → r.state = .warming → r.phase = some .sending →
            look t.displays.records e.display =
              { r with phase := some .timing, timer := p.warmUp * 1000 }) ∧
          (e.code = .powerOff → r.phase = some .stopping →
            look t.displays.records e.display =
              { r with state := .cooling, phase := none, selected := none
                       timer := p.coolDown * 1000 })) ∧
        (∀ d : DisplayNo, d ≠ e.display →
          look t.displays.records d = look s.displays.records d) ∧
        t.floor = s.floor)) ∧
  (∀ s : State, s.displays.now ≤ 625 → s.displays.inFlight = none → s.displays.queue ≠ [] →
    ∃ instant : Nat, s.displays.now ≤ instant ∧ instant ≤ 625 ∧
      exec (.irTransmissionStart instant) (s.withDraws (s.draws + 1)) = .next (emit s)) ∧
  (∀ (s : State) (instant : Nat), s.displays.inFlight ≠ none ∨ s.displays.queue = [] →
    exec (.irTransmissionStart instant) s = .next s ∧ emit s = s) ∧
  (∀ (s : State) (f : InFlight) (r : DisplayRecord), s.displays.inFlight = some f →
    s.displays.queue = [] → r = look s.displays.records f.entry.display →
    let idle := s.withDisplays
      { s.displays with inFlight := none, now := max s.displays.now f.ends }
    (625 < f.ends → exec .irTransmissionComplete s = .next s) ∧
    (f.ends ≤ 625 →
      (∀ n : InputNo, f.entry.code = .input n → r.state = .on →
        exec .irTransmissionComplete s =
          .next (setRecord f.entry.display { r with selected := some n } idle)) ∧
      (f.entry.code = .powerOn → r.state = .warming → r.phase = some .sending →
        0 < (look s.displays.presets f.entry.display).warmUp →
        exec .irTransmissionComplete s =
          .next (setRecord f.entry.display
            { r with
              phase := some .timing
              timer := (look s.displays.presets f.entry.display).warmUp * 1000 } idle)) ∧
      (f.entry.code = .powerOn → r.phase = some .stopping →
        exec .irTransmissionComplete s = .next idle) ∧
      (f.entry.code = .powerOff → r.phase = some .stopping →
        0 < (look s.displays.presets f.entry.display).coolDown →
        exec .irTransmissionComplete s =
          .next (setRecord f.entry.display
            { r with
              state := .cooling, phase := none, selected := none
              timer := (look s.displays.presets f.entry.display).coolDown * 1000 } idle)))) ∧
  (∀ (s : State) (d : DisplayNo) (instant : Nat),
    s.displays.inFlight = none ∨ (∃ f, s.displays.inFlight = some f ∧ f.entry.display ≠ d) →
    pinHigh s d instant = false) ∧
  (∀ (s : State) (f : InFlight) (c : CodeList) (before behind : List (Nat × Nat))
      (mark space round offset instant : Nat),
    s.displays.inFlight = some f → c = look s.displays.codes (codeSlot f.entry.display f.entry.code) →
    c.pairs = before ++ (mark, space) :: behind → round < c.times →
    let frame := (c.pairs.map (fun y => y.1 + y.2)).sum
    let whole := c.times * frame + (c.times - 1) * c.gap * 1000
    instant < f.ends → f.ends - instant ≤ 20 * whole →
    (20 * whole - (f.ends - instant)) / 2 =
      round * (10 * (frame + c.gap * 1000)) +
        10 * (before.map (fun y => y.1 + y.2)).sum + offset →
    offset < 10 * (mark + space) →
    pinHigh s f.entry.display instant =
      (decide (offset < 10 * mark) &&
        decide (offset % f.period < (f.period * f.high + 50) / 100)))

/-! ### The cursor and the tables -/

/-- SELECT and GET (R206, R207), and a PUT past the end of its table or with the form of another table, which stores
nothing and leaves the cursor (R208). That a form of another table is a form error, answered with the cursor as it
stands, is the model's reading (notes/assumptions/26.md). -/
def Obligations.SelectAndGet : Prop :=
  ∀ (s : State) (rest : List CommandCell) (tag : Byte),
    (∀ (table : TableName) (index : Nat), Ready (.select tag (some (table, index))) s rest →
      (index < tableSize table →
        exec (.select tag (some (table, index))) s =
          .next (s.withPort (portMoved s.port rest tag 0x01 .done
            (b1 (tableByte table) ++ b1 index) { table := table, index := index }))) ∧
      (tableSize table ≤ index →
        exec (.select tag (some (table, index))) s =
          .next (s.withPort (portAfter s.port rest tag 0x01 .range (cursorBytes s.port.cursor))))) ∧
    (Ready (.get tag (some ())) s rest → ∀ c : Cursor, c = s.port.cursor →
      (c.index < tableSize c.table →
        exec (.get tag (some ())) s =
          .next (s.withPort (portMoved s.port rest tag 0x02 .done
            (b1 (tableByte c.table) ++ b1 c.index ++ b1 (tableByte c.table) ++ b1 (c.index + 1) ++
              entryBytes c.table s c.index)
            { c with index := c.index + 1 }))) ∧
      (tableSize c.table ≤ c.index →
        exec (.get tag (some ())) s =
          .next (s.withPort (portAfter s.port rest tag 0x02 .range
            (b1 (tableByte c.table) ++ b1 255 ++ cursorBytes c))))) ∧
    (∀ (c : Cursor) (out : Host.Outcome State Fault Refusal), c = s.port.cursor →
      out = .next (s.withPort (portAfter s.port rest tag 0x03 .range (actedAt c c))) →
      (∀ f, Ready (.putSeat tag (some f)) s rest → c.table ≠ .seat ∨ 64 ≤ c.index →
        exec (.putSeat tag (some f)) s = out) ∧
      (∀ f, Ready (.putName tag (some f)) s rest → c.table ≠ .name ∨ 128 ≤ c.index →
        exec (.putName tag (some f)) s = out) ∧
      (∀ f, Ready (.putGain tag (some f)) s rest →
        c.table ≠ .gain0 ∧ c.table ≠ .gain1 ∨ 65 ≤ c.index →
        exec (.putGain tag (some f)) s = out) ∧
      (∀ f, Ready (.putNom tag (some f)) s rest → c.table ≠ .nom ∨ 8 ≤ c.index →
        exec (.putNom tag (some f)) s = out) ∧
      (∀ f, Ready (.putBooking tag (some f)) s rest → c.table ≠ .booking ∨ 16 ≤ c.index →
        exec (.putBooking tag (some f)) s = out) ∧
      (∀ f, Ready (.putIdle tag (some f)) s rest → c.table ≠ .idle ∨ 1 ≤ c.index →
        exec (.putIdle tag (some f)) s = out) ∧
      (∀ f, Ready (.putDisplay tag (some f)) s rest → c.table ≠ .display ∨ 4 ≤ c.index →
        exec (.putDisplay tag (some f)) s = out))

/-- PUT to the Name Table, a gain bank, the NOM Table and the Display Preset Table (R88, R92, R121, R136, R208). -/
def Obligations.PlainPutsStore : Prop :=
  ∀ (s : State) (rest : List CommandCell) (tag : Byte),
    (∀ (x : Text) (i : NameNo), Ready (.putName tag (some x)) s rest →
      s.port.cursor = { table := .name, index := i.val } →
      (x.length ≤ 24 →
        exec (.putName tag (some x)) s =
          .next ((s.withScreens
            { s.screens with
              names := upd s.screens.names i
                (x.map (fun b => if 0x20 ≤ b.toNat ∧ b.toNat ≤ 0x7E then b else 0x3F)) }).withPort
            (putPort s.port rest tag .done))) ∧
      (24 < x.length →
        exec (.putName tag (some x)) s = .next (s.withPort (putPort s.port rest tag .range)))) ∧
    (∀ (g : Nat) (i : Fin 65), Ready (.putGain tag (some g)) s rest →
      (s.port.cursor = { table := .gain0, index := i.val } →
        exec (.putGain tag (some g)) s =
          .next ((s.withMixer { s.mixer with bank0 := upd s.mixer.bank0 i g }).withPort
            (putPort s.port rest tag .done))) ∧
      (s.port.cursor = { table := .gain1, index := i.val } →
        exec (.putGain tag (some g)) s =
          .next ((s.withMixer { s.mixer with bank1 := upd s.mixer.bank1 i g }).withPort
            (putPort s.port rest tag .done)))) ∧
    (∀ (a : Nat) (i : Fin 8), Ready (.putNom tag (some a)) s rest →
      s.port.cursor = { table := .nom, index := i.val } →
      exec (.putNom tag (some a)) s =
        .next ((s.withMixer
          { s.mixer with nom := upd s.mixer.nom i (if a ≤ 32768 then a else 32768) }).withPort
          (putPort s.port rest tag .done))) ∧
    (∀ (f : PresetFields) (d : DisplayNo), Ready (.putDisplay tag (some f)) s rest →
      s.port.cursor = { table := .display, index := d.val } →
      (100 ≤ f.period ∧ f.period ≤ 1000 ∧ 10 ≤ f.high ∧ f.high ≤ 50 ∧ f.warmUp ≤ 120 ∧
          f.coolDown ≤ 300 →
        exec (.putDisplay tag (some f)) s =
          .next ((s.withDisplays
            { s.displays with
              presets := upd s.displays.presets d
                { period := f.period, high := f.high, warmUp := f.warmUp
                  coolDown := f.coolDown } }).withPort
            (putPort s.port rest tag .done))) ∧
      (f.period < 100 ∨ 1000 < f.period ∨ f.high < 10 ∨ 50 < f.high ∨ 120 < f.warmUp ∨
          300 < f.coolDown →
        exec (.putDisplay tag (some f)) s = .next (s.withPort (putPort s.port rest tag .range))))

/-- PUT to the Seat Table (R22 to R24, R52): the refusals; a PUT that keeps the role, where a changed exempt flag of an
OPEN or HELD seat recomputes its timer and takes the matches that this brings (R80); and a change of role, which first
takes the seat off the floor and out of the holder set (R60). -/
def Obligations.PutSeatStores : Prop :=
  ∀ (s : State) (rest : List CommandCell) (tag : Byte) (f : SeatFields) (n : Seat),
    Ready (.putSeat tag (some f)) s rest → s.port.cursor = { table := .seat, index := n.val } →
    (2 < f.role ∨ 127 < f.name ∧ f.name ≠ 255 →
      exec (.putSeat tag (some f)) s = .next (s.withPort (putPort s.port rest tag .range))) ∧
    (f.role = 1 → (look s.seatTable n).role ≠ .chair → 2 ≤ otherChairs s n →
      exec (.putSeat tag (some f)) s = .next (s.withPort (putPort s.port rest tag .range))) ∧
    ∀ e : SeatEntry, seatEntry? f = some e →
      (e.role = (look s.seatTable n).role →
        (e.exempt = (look s.seatTable n).exempt ∨
            hasEntry s.floor.openList n = false ∧ hasEntry s.floor.shadow n = false →
          exec (.putSeat tag (some f)) s =
            .next ((s.withSeatTable (upd s.seatTable n e)).withPort
              (putPort s.port rest tag .done))) ∧
        (e.exempt ≠ (look s.seatTable n).exempt →
          micState s.floor n = .opened ∨ micState s.floor n = .held →
          ∀ (fix : Entry → Entry) (u : State),
            (∀ x : Entry, fix x =
              if x.seat = n
              then Statements.realigned s.floor.setup (upd s.seatTable n e) x else x) →
            u = ((taken s rest).withSeatTable (upd s.seatTable n e)).withFloor
              { s.floor with openList := s.floor.openList.map fix, shadow := s.floor.shadow.map fix } →
            exec (.putSeat tag (some f)) s =
                .next ((afterFloor (checkTimer n u)).withPort (putPort s.port rest tag .done)) ∧
              (e.exempt = true → nobodyWaits s →
                (afterFloor (checkTimer n u)).floor = u.floor ∧
                  (afterFloor (checkTimer n u)).log = s.log))) ∧
      (e.role ≠ (look s.seatTable n).role → otherChairs s n < 2 ∨ e.role ≠ .chair →
        exec (.putSeat tag (some f)) s =
          .next ((afterFloor
            ((Statements.withoutHolder n
              (withLeft .config .config n (taken s rest))).withSeatTable
                (upd s.seatTable n e))).withPort
            (putPort s.port rest tag .done)))

/-- PUT to a booking slot (R161) and to the Idle Setup (R180, R181). With the idle meeting on and enabled before and
after, the new Floor Setup is a setup change (R49, R69, R80), spelt out for a mode that stays. A meeting signal's
records stand behind those of the emptied floor (R50, R66), spelt out for no seat twice in a list. -/
def Obligations.PutBookingAndIdle : Prop :=
  ∀ (s : State) (rest : List CommandCell) (tag : Byte),
    (∀ (f : BookingFields) (k : SlotNo), Ready (.putBooking tag (some f)) s rest →
      s.port.cursor = { table := .booking, index := k.val } →
      (∀ (st : Stage) (x : Fixed) (items : List Item) (booked current : Nat),
        look s.sched.slots k = .committed st x items booked current →
        exec (.putBooking tag (some f)) s =
          .next (s.withPort (putPort s.port rest tag .occupied))) ∧
      (look s.sched.slots k = .free →
        (fixed? f = none →
          exec (.putBooking tag (some f)) s =
            .next (s.withPort (putPort s.port rest tag .range))) ∧
        (∀ x : Fixed, fixed? f = some x →
          exec (.putBooking tag (some f)) s =
            .next ((setSlot k (.draft x []) s).withPort (putPort s.port rest tag .done)))) ∧
      (∀ (old : Fixed) (items : List Item), look s.sched.slots k = .draft old items →
        (fixed? f = none →
          exec (.putBooking tag (some f)) s =
            .next (s.withPort (putPort s.port rest tag .range))) ∧
        (∀ x : Fixed, fixed? f = some x →
          exec (.putBooking tag (some f)) s =
            .next ((setSlot k (.draft x items) s).withPort (putPort s.port rest tag .done))))) ∧
    (∀ f : IdleFields, Ready (.putIdle tag (some f)) s rest →
      s.port.cursor = { table := .idle, index := 0 } →
      (idle? f = none →
        exec (.putIdle tag (some f)) s = .next (s.withPort (putPort s.port rest tag .range))) ∧
      ∀ x : IdleSetup, idle? f = some x →
        ∃ t : State, exec (.putIdle tag (some f)) s = .next t ∧
          t.sched = { s.sched with idle := x } ∧ t.port = putPort s.port rest tag .done ∧
          (bookingCurrent s.floor.meeting = true ∨
              s.sched.idle.enabled = false ∧ x.enabled = false →
            t.floor = s.floor ∧ t.mixer = s.mixer ∧ t.log = s.log ∧ t.screens = s.screens) ∧
          (bookingCurrent s.floor.meeting = false → s.sched.idle.enabled = false →
            x.enabled = true →
            t.floor = emptyFloor (if s.floor.phase = .alert then .alert else .running) x.setup .idle ∧
              t.mixer = { s.mixer with pending := some x.bank } ∧
              (∀ n : Seat, look t.screens.messages n = none) ∧
              newestIs t (.meetingStart .idle) none (some 0) ∧
              (seatsDistinct s.floor.openList → seatsDistinct s.floor.shadow →
                ∀ u : State,
                  u = appendWith (.meetingStart .idle) none (some 0) (Statements.emptied .meeting s) →
                  t.log = u.log ∧ t.notices = u.notices)) ∧
          (bookingCurrent s.floor.meeting = false → s.sched.idle.enabled = true →
            x.enabled = false →
            t.floor =
                emptyFloor (if s.floor.phase = .alert then .alert else .closed) s.floor.setup .none ∧
              t.mixer = { s.mixer with pending := some x.bank } ∧
              (∀ n : Seat, look t.screens.messages n = none) ∧
              newestIs t (.meetingEnd .idle) none (some 0) ∧
              (seatsDistinct s.floor.openList → seatsDistinct s.floor.shadow →
                ∀ u : State,
                  u = appendWith (.meetingEnd .idle) none (some 0) (Statements.emptied .meeting s) →
                  t.log = u.log ∧ t.notices = u.notices)) ∧
          (bookingCurrent s.floor.meeting = false → s.sched.idle.enabled = true →
            x.enabled = true →
            t.floor.setup = x.setup ∧ t.floor.meeting = s.floor.meeting ∧
              t.mixer =
                (if x.bank = s.sched.idle.bank then s.mixer
                  else { s.mixer with pending := some x.bank }) ∧
              (s.floor.phase = .alert → t.floor = { s.floor with setup := x.setup }) ∧
              (s.floor.phase ≠ .alert → x.setup.mode = s.floor.setup.mode →
                seatsDistinct s.floor.openList →
                ∀ u : State,
                  u = ((if s.floor.phase = .running
                    then (delegateSeats s.floor).take (delegates s.floor - x.setup.maxOpen)
                    else []).foldl (fun v n => withClosed .setup n v)
                      (s.withFloor { s.floor with setup := x.setup })) →
                  t.floor = (afterFloor (Statements.recomputed u)).floor ∧
                    t.log = (afterFloor (Statements.recomputed u)).log)))

/-- LIST CLEAR, LIST ADD and LIST GET on ASSIGN (R162 to R164). The bytes of the LIST GET answer are laid out as
notes/assumptions/25.md says. -/
def Obligations.AssignListCommands : Prop :=
  ∀ (s : State) (rest : List CommandCell) (tag : Byte) (slot : Nat),
    (Ready (.listClearAssign tag (some slot)) s rest →
      (15 < slot →
        exec (.listClearAssign tag (some slot)) s =
          .next (s.withPort (portAfter s.port rest tag 0x04 .range []))) ∧
      (∀ k : SlotNo, slot = k.val →
        (∀ (f : Fixed) (items : List Item), look s.sched.slots k = .draft f items →
          exec (.listClearAssign tag (some slot)) s =
            .next ((setSlot k (.draft f []) s).withPort (portAfter s.port rest tag 0x04 .done []))) ∧
        ((∀ (f : Fixed) (items : List Item), look s.sched.slots k ≠ .draft f items) →
          exec (.listClearAssign tag (some slot)) s =
            .next (s.withPort (portAfter s.port rest tag 0x04 .state []))))) ∧
    (∀ raw : List (Nat × Nat), Ready (.listAddAssign tag (some (slot, raw))) s rest →
      (15 < slot ∨ raw = [] ∨ 12 < raw.length ∨
          raw.any (fun p => decide (63 < p.1 ∨ 127 < p.2)) = true →
        exec (.listAddAssign tag (some (slot, raw))) s =
          .next (s.withPort (portAfter s.port rest tag 0x05 .range []))) ∧
      (∀ (k : SlotNo) (xs : List Item), slot = k.val → items? raw = some xs → 1 ≤ xs.length →
        xs.length ≤ 12 →
        ((∀ (f : Fixed) (items : List Item), look s.sched.slots k ≠ .draft f items) →
          exec (.listAddAssign tag (some (slot, raw))) s =
            .next (s.withPort (portAfter s.port rest tag 0x05 .state []))) ∧
        (∀ (f : Fixed) (items all : List Item), look s.sched.slots k = .draft f items →
          all = xs.foldl addItem items →
          (64 < all.length ∨ 256 < poolInUse s.sched + (all.length - items.length) →
            exec (.listAddAssign tag (some (slot, raw))) s =
              .next (s.withPort (portAfter s.port rest tag 0x05 .space []))) ∧
          (all.length ≤ 64 → poolInUse s.sched + (all.length - items.length) ≤ 256 →
            exec (.listAddAssign tag (some (slot, raw))) s =
              .next ((setSlot k (.draft f all) s).withPort
                (portAfter s.port rest tag 0x05 .done [])))))) ∧
    (∀ offset : Nat, Ready (.listGetAssign tag (some (slot, offset))) s rest →
      (15 < slot →
        exec (.listGetAssign tag (some (slot, offset))) s =
          .next (s.withPort (portAfter s.port rest tag 0x06 .range []))) ∧
      (∀ (k : SlotNo) (items : List Item), slot = k.val → items = slotItems (look s.sched.slots k) →
        (items.length < offset →
          exec (.listGetAssign tag (some (slot, offset))) s =
            .next (s.withPort (portAfter s.port rest tag 0x06 .range []))) ∧
        (offset ≤ items.length →
          exec (.listGetAssign tag (some (slot, offset))) s =
            .next (s.withPort (portAfter s.port rest tag 0x06 .done
              (b1 items.length ++ b1 (min 12 (items.length - offset)) ++
                ((items.drop offset).take 12).flatMap
                  (fun x => b1 x.seat.val ++ b1 x.name.val))))))) ∧
    (∀ (items : List Item) (x : Item), (items.map Item.seat).Nodup →
      ((addItem items x).map Item.seat).Nodup ∧ x ∈ addItem items x ∧
        ∀ y ∈ items, y.seat ≠ x.seat → y ∈ addItem items x)

/-- LIST CLEAR and LIST ADD on IRCODE (R138, R139). That LIST CLEAR answers `RANGE` before `BUSY` when both hold is the
model's choice (notes/assumptions/38.md). -/
def Obligations.CodeListWrites : Prop :=
  ∀ (s : State) (rest : List CommandCell) (tag : Byte) (slot : Nat),
    (∀ times gap : Nat, Ready (.listClearIrcode tag (some (slot, times, gap))) s rest →
      (23 < slot ∨ times = 0 ∨ 4 < times ∨ 255 < gap →
        exec (.listClearIrcode tag (some (slot, times, gap))) s =
          .next (s.withPort (portAfter s.port rest tag 0x04 .range []))) ∧
      (∀ c : CodeSlot, slot = c.val → 1 ≤ times → times ≤ 4 → gap ≤ 255 →
        (inFlightSlot s.displays = some c →
          exec (.listClearIrcode tag (some (slot, times, gap))) s =
            .next (s.withPort (portAfter s.port rest tag 0x04 .busy []))) ∧
        (inFlightSlot s.displays ≠ some c →
          exec (.listClearIrcode tag (some (slot, times, gap))) s =
            .next ((s.withDisplays
              { s.displays with
                codes := upd s.displays.codes c
                  { pairs := [], times := times, gap := gap } }).withPort
              (portAfter s.port rest tag 0x04 .done []))))) ∧
    (∀ pairs : List (Nat × Nat), Ready (.listAddIrcode tag (some (slot, pairs))) s rest →
      (23 < slot ∨ pairs = [] ∨ 6 < pairs.length ∨
          pairs.any (fun p => decide (p.1 = 0 ∨ p.2 = 0)) = true →
        exec (.listAddIrcode tag (some (slot, pairs))) s =
          .next (s.withPort (portAfter s.port rest tag 0x05 .range []))) ∧
      (∀ (c : CodeSlot) (x : CodeList), slot = c.val → x = look s.displays.codes c →
        1 ≤ pairs.length → pairs.length ≤ 6 → (∀ p ∈ pairs, 1 ≤ p.1 ∧ 1 ≤ p.2) →
        (inFlightSlot s.displays = some c →
          exec (.listAddIrcode tag (some (slot, pairs))) s =
            .next (s.withPort (portAfter s.port rest tag 0x05 .busy []))) ∧
        (inFlightSlot s.displays ≠ some c → 40 < x.pairs.length + pairs.length →
          exec (.listAddIrcode tag (some (slot, pairs))) s =
            .next (s.withPort (portAfter s.port rest tag 0x05 .space []))) ∧
        (inFlightSlot s.displays ≠ some c → x.pairs.length + pairs.length ≤ 40 →
          exec (.listAddIrcode tag (some (slot, pairs))) s =
            .next ((s.withDisplays
              { s.displays with
                codes := upd s.displays.codes c { x with pairs := x.pairs ++ pairs } }).withPort
              (portAfter s.port rest tag 0x05 .done [])))))

/-- LIST GET on IRCODE (R140). The bytes of its answer are laid out as notes/assumptions/25.md says. -/
def Obligations.CodeListRead : Prop :=
  ∀ (s : State) (rest : List CommandCell) (tag : Byte) (slot offset : Nat),
    Ready (.listGetIrcode tag (some (slot, offset))) s rest →
    (23 < slot →
      exec (.listGetIrcode tag (some (slot, offset))) s =
        .next (s.withPort (portAfter s.port rest tag 0x06 .range []))) ∧
    ∀ (c : CodeSlot) (x : CodeList), slot = c.val → x = look s.displays.codes c →
      (x.pairs.length < offset →
        exec (.listGetIrcode tag (some (slot, offset))) s =
          .next (s.withPort (portAfter s.port rest tag 0x06 .range []))) ∧
      (offset ≤ x.pairs.length →
        exec (.listGetIrcode tag (some (slot, offset))) s =
          .next (s.withPort (portAfter s.port rest tag 0x06 .done
            (b1 x.pairs.length ++ b1 x.times ++ b2 x.gap ++
              b1 (min 6 (x.pairs.length - offset)) ++
              ((x.pairs.drop offset).take 6).flatMap (fun p => b2 p.1 ++ b2 p.2)))))

/-! ### STATUS and RESTART -/

/-- STATUS and STATUS with a seat number: `DONE` with the values of R210 or R211, then LINK and DISPLAY clear and
nothing else changes; a seat above 63 is `RANGE` and clears neither (R210 to R212). Of the bytes the statement spells
out the lock states and the stamp, which come first, the two banks and the clip counters behind the floor's values,
where the byte for no pending bank is free but none of a bank (R89; notes/assumptions/21.md), and of a seat its
presence code, its buttons and its volume step; their codes are the model's reading (notes/assumptions/23.md, 24.md).
The count of free values is the model's own (notes/assumptions/22.md). -/
def Obligations.StatusAnswers : Prop :=
  (∀ (s : State) (rest : List CommandCell) (tag : Byte), Ready (.status tag (some ())) s rest →
    ∃ (t : State) (result : List Byte), exec (.status tag (some ())) s = .next t ∧
      t = ((s.withNotices
        { s.notices with
          summary := { s.notices.summary with link := false, display := false } }).withDraws
            t.draws).withPort (portAfter s.port rest tag 0x08 .done result) ∧
      result.take 7 =
        b1 (if s.links.chainA.locked then 0 else 1) ++ b1 (if s.links.chainB.locked then 0 else 1) ++
          b1 (if s.links.trunk.locked then 0 else 1) ++ b4 s.time.stamp.toNat ∧
      (∃ (x : Byte) (tail : List Byte),
        result.drop (7 + (floorStatus s).length) =
          b1 s.mixer.active.val ++ [x] ++ b2 s.mixer.clipFloor ++ b2 s.mixer.clipFar ++ tail ∧
        (∀ b : Fin 2, s.mixer.pending = some b → x = BitVec.ofNat 8 b.val) ∧
        (s.mixer.pending = none → x ≠ 0 ∧ x ≠ 1)) ∧
      ∃ front : List Byte, result = front ++ noticeStatus s ++
        (b1 rest.length ++ b1 s.port.answers.length ++ cursorBytes s.port.cursor)) ∧
  (∀ (s : State) (rest : List CommandCell) (tag : Byte) (k : Nat), Ready (.statusSeat tag k) s rest →
    (63 < k →
      exec (.statusSeat tag k) s = .next (s.withPort (portAfter s.port rest tag 0x08 .range []))) ∧
    (∀ n : Seat, k = n.val →
      ∃ result : List Byte,
        exec (.statusSeat tag k) s =
          .next ((s.withNotices
            { s.notices with
              summary := { s.notices.summary with link := false, display := false } }).withPort
            (portAfter s.port rest tag 0x08 .done result)) ∧
        result.take 5 =
          b1 (presenceByte (presenceOf s n)) ++ b1 (if (look s.seats n).mic.pressed then 0 else 1) ++
            b1 (if (look s.seats n).priority.pressed then 0 else 1) ++
            b1 (if (look s.seats n).next.pressed then 0 else 1) ++ b1 (look s.seats n).volume ∧
        result.getLast? = some (BitVec.ofNat 8 (sourceBits s.notices.summary))))

/-! ### Bookings: meeting signals and placing -/

/-- A meeting signal has been taken (R50): the floor is empty and RUNNING or CLOSED for the meeting that follows, or
still in ALERT (R69), its bank is requested, every message slot is empty, and the signal's record is the newest,
behind the records of the emptied floor (R50, R66; spelt for no seat twice in a list). -/
structure Statements.Signalled (next : Meeting) (setup : FloorSetup) (bank : Fin 2) (event : LogEvent)
    (seat : Option Seat) (id : Nat) (s u : State) : Prop where
  floor : u.floor =
    emptyFloor
      (if s.floor.phase = .alert then .alert else if next = .none then .closed else .running) setup next
  frame : floorFrame ((s.withMixer { s.mixer with pending := some bank }).withScreens
    { s.screens with messages := Vector.replicate 64 none }) u
  seats : u.seats = s.seats
  gate : gateFrame s u
  newest : newestIs u event seat (some id)
  records : seatsDistinct s.floor.openList → seatsDistinct s.floor.shadow →
    u.log = (appendWith event seat (some id) (Statements.emptied .meeting s)).log ∧
      u.notices = (appendWith event seat (some id) (Statements.emptied .meeting s)).notices

/-- A meeting start of a booking (R171). -/
def Statements.Started (cause : StartCause) (k : SlotNo) (f : Fixed) : State → State → Prop :=
  Statements.Signalled (.booking k f.id f.chair) f.setup f.bank (.meetingStart cause) f.chair f.id

/-- A meeting end of a booking: the idle meeting follows if it is enabled (R172). -/
def Statements.Ended (cause : EndCause) (f : Fixed) (s : State) : State → Prop :=
  Statements.Signalled (if s.sched.idle.enabled then .idle else .none)
    (if s.sched.idle.enabled then s.sched.idle.setup else s.floor.setup) s.sched.idle.bank
    (.meetingEnd cause) none f.id s

/-- A booking's finish: POWER OFF of its planned displays, then FREE, or PENDING again if it is weekly (R168). -/
def Statements.finished (k : SlotNo) (f : Fixed) (items : List Item) (booked : Nat) (s : State) : State :=
  setSlot k (if f.weekly then .committed .pending f items booked booked else .free) (powerOffPlan f s)

/-- The booking of a slot has been placed at a week minute (R169), by its due state (R167): window entry with POWER
ON of its planned displays, meeting start, meeting end, and finish. -/
def Statements.Placed (starts : StartCause) (ends : EndCause) (minute : Nat) (k : SlotNo) (stage : Stage)
    (f : Fixed) (items : List Item) (booked current : Nat) (s u : State) : Prop :=
  let moved := fun (x : Stage) (v : State) => setSlot k (.committed x f items booked current) v
  match dueStage f current minute with
  | none =>
    (stage = .pending → u = s) ∧
    (stage = .lead ∨ stage = .done → u = Statements.finished k f items booked s) ∧
    (stage.meets = true →
      ∃ v : State, Statements.Ended ends f s v ∧ u = Statements.finished k f items booked v)
  | some due =>
    (due = stage → u = s) ∧
    (stage = .pending → due = .lead → u = moved due (powerOnPlan f s)) ∧
    (stage = .pending → due.meets = true → Statements.Started starts k f (moved due (powerOnPlan f s)) u) ∧
    (stage = .pending → due = .done → u = moved due s) ∧
    (stage.meets = true → due.meets = false → Statements.Ended ends f (moved due s) u) ∧
    (stage = .lead ∨ stage = .done → due.meets = true → Statements.Started starts k f (moved due s) u) ∧
    (stage ≠ .pending → due ≠ stage → due.meets = stage.meets → u = moved due s)

/-- Every committed booking but those of these slots meets a test of its stage, fixed part and current end, by which it
stays as it is. -/
def Statements.othersRest (s : State) (but : List SlotNo) (rests : Stage → Fixed → Nat → Prop) : Prop :=
  ∀ (j : SlotNo) (st : Stage) (f : Fixed) (items : List Item) (b c : Nat), j ∉ but →
    look s.sched.slots j = .committed st f items b c → rests st f c

/-- A booking has been missed (R176). -/
def Statements.missed (k : SlotNo) (f : Fixed) (items : List Item) (booked : Nat) (s : State) : State :=
  setSlot k (if f.weekly then .committed .pending f items booked booked else .free)
    (appendWith (.bookingMissed k) none (some f.id) s)

/-- These slots have been taken in turn: a committed booking that is gone, by this test of its fixed part and current
end, is missed (R176), and any other is placed at the week minute (R169). -/
def Statements.PlacedEach (starts : StartCause) (ends : EndCause) (minute : Nat)
    (gone : Fixed → Nat → Prop) : List SlotNo → State → State → Prop
  | [], s, u => u = s
  | k :: l, s, u => ∃ v : State,
    (∀ (st : Stage) (f : Fixed) (items : List Item) (b c : Nat),
      look s.sched.slots k = .committed st f items b c →
      (gone f c → v = Statements.missed k f items b s) ∧
      (¬ gone f c → Statements.Placed starts ends minute k st f items b c s v)) ∧
    ((∀ (st : Stage) (f : Fixed) (items : List Item) (b c : Nat),
      look s.sched.slots k ≠ .committed st f items b c) → v = s) ∧
    Statements.PlacedEach starts ends minute gone l v u

/-- No booking is gone. -/
def Statements.neverGone (_ : Fixed) (_ : Nat) : Prop := False

/-- RESTART (R213, R214, Table 11-3): `DONE` joins the Answer FIFO, the Command FIFO empties, the cursor returns, and
every block takes its RESTART value or is kept; an answer that stood in the upstream slot waits again ahead of the
others if there is room, and a notice there is dropped (R9, R197; notes/assumptions/12.md). Last, with a valid clock,
the committed bookings are placed, each from PENDING and with its ends kept, in ascending slot order (R182); where all
but one are due outside their windows, that one is placed. The minute they are placed by while a boundary waits
(notes/assumptions/17.md), the idle emitter's taking at once (notes/assumptions/19.md), the emitter's instant
(notes/assumptions/18.md), the dropped cell (notes/assumptions/11.md) and the kept captured values
(notes/assumptions/35.md) are the model's. -/
def Obligations.RestartKeepsAndClears : Prop :=
  ∀ (s : State) (rest : List CommandCell) (tag : Byte), Ready (.restart tag (some ())) s rest →
    ∃ t : State,
      (s.clock.valid = false ∨
        (∀ (k : SlotNo) (st : Stage) (f : Fixed) (items : List Item) (b c : Nat),
          look s.sched.slots k = .committed st f items b c → dueStage f c (presentMinute s) = none) →
        exec (.restart tag (some ())) s = .next t) ∧
      (∀ (k : SlotNo) (st : Stage) (f : Fixed) (items : List Item) (b c : Nat), s.clock.valid = true →
        look s.sched.slots k = .committed st f items b c →
        Statements.othersRest s [k] (fun _ g d => dueStage g d (presentMinute s) = none) →
        ∃ u : State,
          Statements.Placed .late .clock (presentMinute s) k .pending f items b c t u ∧
          exec (.restart tag (some ())) s = .next u) ∧
      (∀ order : List SlotNo, s.clock.valid = true → order.Pairwise (· < ·) →
        (∀ k : SlotNo, k ∈ order ↔ ∃ st f items b c, look s.sched.slots k = .committed st f items b c) →
        ∃ u : State,
          Statements.PlacedEach .late .clock (presentMinute s) Statements.neverGone order t u ∧
          exec (.restart tag (some ())) s = .next u) ∧
      (∀ r : Answer, r = { tag := tag, code := 0x09, answer := .done, result := [] } →
        (∀ a : Answer, s.port.slot = some (.answer a) →
          (s.port.answers.length < 7 →
            t.port.answers = a :: (s.port.answers ++ [r]) ∧ t.port.slot = none) ∧
          (s.port.answers.length = 7 →
            t.port.answers = s.port.answers ++ [r] ∧ t.port.slot = s.port.slot)) ∧
        ((∀ a : Answer, s.port.slot ≠ some (.answer a)) →
          t.port.answers = s.port.answers ++ [r] ∧ t.port.slot = none)) ∧
      t.port.fifo = [] ∧ t.port.arrived = none ∧ t.port.cursor = { table := .seat, index := 0 } ∧
      (∀ link : Link, (linkState t.links link).locked = false ∧
        (linkState t.links link).goodRun = 0 ∧ (linkState t.links link).badRun = 0) ∧
      (∀ n : Seat, look t.seats n = .reset) ∧
      t.floor =
        emptyFloor (if s.sched.idle.enabled then .running else .closed) s.sched.idle.setup
          (if s.sched.idle.enabled then .idle else .none) ∧
      t.alert.level = false ∧ t.alert.run = 0 ∧
      t.mixer =
        { s.mixer with active := s.sched.idle.bank, pending := none, clipFloor := 0, clipFar := 0 } ∧
      (∀ n : Seat, look t.gate.filters n = .rest) ∧
      (∀ i : MeterNo, look t.gate.meters i = 0 ∧ look t.gate.lastPeak i = 0 ∧
        look t.gate.forming i = 0) ∧
      t.screens.names = s.screens.names ∧
      (∀ n : Seat, look t.screens.messages n = none ∧ look t.screens.shown n = .unknown) ∧
      t.displays.presets = s.displays.presets ∧ t.displays.codes = s.displays.codes ∧
      (∀ d : DisplayNo, look t.displays.records d = .reset) ∧ t.displays.queue = [] ∧
      t.displays.inFlight = none ∧ t.displays.now = s.displays.now ∧ t.seatTable = s.seatTable ∧
      t.clock = s.clock ∧ t.time = s.time ∧
      t.log = s.log ∧ t.notices.mask = s.notices.mask ∧ t.notices.trigger = s.notices.trigger ∧
      t.notices.summary =
        { log := decide (0 < s.log.unread), clip := false, link := false, display := false
          clock := !s.clock.valid } ∧
      t.notices.pending = false ∧ t.notices.quiet = 0 ∧ t.sched.idle = s.sched.idle ∧
      ∀ k : SlotNo,
        (∀ (st : Stage) (f : Fixed) (items : List Item) (b c : Nat),
          look s.sched.slots k = .committed st f items b c →
          look t.sched.slots k = .committed .pending f items b c) ∧
        (look s.sched.slots k = .free → look t.sched.slots k = .free) ∧
        (∀ (f : Fixed) (items : List Item), look s.sched.slots k = .draft f items →
          look t.sched.slots k = .draft f items)

/-! ### Audio -/

/-- BANK SELECT (R90), CLIP READ (R99) and METER READ (R108). The layout of the two results is the model's
(notes/assumptions/25.md). -/
def Obligations.AudioCommands : Prop :=
  ∀ (s : State) (rest : List CommandCell) (tag : Byte),
    (∀ b : Nat, Ready (.bankSelect tag (some b)) s rest →
      (∀ k : Fin 2, b = k.val →
        exec (.bankSelect tag (some b)) s =
          .next ((s.withMixer { s.mixer with pending := some k }).withPort
            (portAfter s.port rest tag 0x20 .done []))) ∧
      (1 < b →
        exec (.bankSelect tag (some b)) s =
          .next (s.withPort (portAfter s.port rest tag 0x20 .range [])))) ∧
    (Ready (.clipRead tag (some ())) s rest →
      exec (.clipRead tag (some ())) s =
        .next (((s.withMixer { s.mixer with clipFloor := 0, clipFar := 0 }).withNotices
          { s.notices with summary := { s.notices.summary with clip := false } }).withPort
          (portAfter s.port rest tag 0x21 .done
            (b2 s.mixer.clipFloor ++ b2 s.mixer.clipFar)))) ∧
    (∀ first count : Nat, Ready (.meterRead tag (some (first, count))) s rest →
      (65 < first ∨ count = 0 ∨ 8 < count ∨ 66 < first + count →
        exec (.meterRead tag (some (first, count))) s =
          .next (s.withPort (portAfter s.port rest tag 0x22 .range []))) ∧
      (1 ≤ count → count ≤ 8 → first + count ≤ 66 →
        ∃ (g : Gate) (result : List Byte),
          exec (.meterRead tag (some (first, count))) s =
            .next ((s.withGate g).withPort (portAfter s.port rest tag 0x22 .done result)) ∧
          g = { s.gate with meters := g.meters } ∧ result.length = 3 * count ∧
          ∀ i : MeterNo,
            (i.val < first ∨ first + count ≤ i.val → look g.meters i = look s.gate.meters i) ∧
            (first ≤ i.val → i.val < first + count →
              look g.meters i = 0 ∧
                (result.drop (3 * (i.val - first))).take 3 = b3 (look s.gate.meters i))))

/-- The room mix S of the captured set (R95): 0 for no seat, and otherwise A divided by 2^29 and rounded half up. -/
def Obligations.RoomMixRounds : Prop :=
  (∀ s : State, s.mixer.capFactor = none → roomMix s = 0) ∧
  (∀ (s : State) (a : Nat) (total : Int), s.mixer.capFactor = some a → total = productSum s * (a : Int) →
    roomMix s * 536870912 ≤ total + 268435456 ∧ total + 268435456 < (roomMix s + 1) * 536870912) ∧
  (∀ (s : State) (a : Nat) (q : Int), s.mixer.capFactor = some a →
    productSum s * (a : Int) = q * 536870912 + 268435456 → roomMix s = q + 1) ∧
  (∀ (s : State) (n : Seat), s.mixer.capSeats = [n] → seatGain s.mixer n = 16384 →
    s.mixer.capFactor = some 32768 → roomMix s = micSample s n) ∧
  (∀ s : State, (capture s).mixer.capSeats = [] → (capture s).mixer.capFactor = none) ∧
  (∀ (s : State) (k : Fin 8), (capture s).mixer.capSeats.length = k.val + 1 →
    (capture s).mixer.capFactor = some (look s.mixer.nom k))

/-- The far contribution R (R96): the product divided by 2^14 and rounded half up, within its bounds, which are reached;
it is not saturated, and it enters the floor bus of every frame outside ALERT and no far send. The samples of the
frame are those of the state in which what it owes has been taken (`settleFrame`, notes/assumptions/6.md). -/
def Obligations.FarContributionBounds : Prop :=
  (∀ (s : State) (y : Int) (g : Nat), y = farSample s → g = look s.mixer.capGains (64 : Fin 65) →
    farPart s * 16384 ≤ y * (g : Int) + 8192 ∧ y * (g : Int) + 8192 < (farPart s + 1) * 16384 ∧
      (-524288 ≤ y → y ≤ 524287 → g ≤ 65535 →
        -2097120 ≤ farPart s ∧ farPart s ≤ 2097116) ∧
      (y = 524287 → g = 65535 → farPart s = 2097116) ∧
      (y = -524288 → g = 65535 → farPart s = -2097120)) ∧
  (∀ before s : State, s = settleFrame before → s.floor.phase ≠ .alert →
    ∃ (t : State) (x : TrunkFrame), exec .outgoingFrame before = .next t ∧ t.sent.trunk = some x ∧
      x.floorBus = max (-524288) (min 524287 (roomMix s + farPart s)) ∧
      x.farSend = max (-524288) (min 524287 (roomMix s)))

/-! ### Screens and displays -/

/-- SEAT MESSAGE and MESSAGE CLEAR (R127, R128); 255 is ALL (R220). -/
def Obligations.SeatMessageCommands : Prop :=
  ∀ (s : State) (rest : List CommandCell) (tag : Byte),
    (∀ (target duration : Nat) (text : Text),
      Ready (.seatMessage tag (some (target, duration, text))) s rest →
      (63 < target ∧ target ≠ 255 ∨ text = [] ∨ 24 < text.length ∨ 255 < duration →
        exec (.seatMessage tag (some (target, duration, text))) s =
          .next (s.withPort (portAfter s.port rest tag 0x28 .range []))) ∧
      (target ≤ 63 ∨ target = 255 → 1 ≤ text.length → text.length ≤ 24 → duration ≤ 255 →
        ∃ m : Vector (Option Message) 64,
          exec (.seatMessage tag (some (target, duration, text))) s =
            .next ((s.withScreens { s.screens with messages := m }).withPort
              (portAfter s.port rest tag 0x28 .done [])) ∧
          ∀ n : Seat,
            (target = n.val ∨ target = 255 →
              look m n = some
                { text := text.map (fun b => if 0x20 ≤ b.toNat ∧ b.toNat ≤ 0x7E then b else 0x3F)
                  left := if duration = 0 then none else some (duration * 1000) }) ∧
            (target ≠ n.val → target ≠ 255 → look m n = look s.screens.messages n))) ∧
    (∀ target : Nat, Ready (.messageClear tag (some target)) s rest →
      (63 < target → target ≠ 255 →
        exec (.messageClear tag (some target)) s =
          .next (s.withPort (portAfter s.port rest tag 0x29 .range []))) ∧
      (target ≤ 63 ∨ target = 255 →
        ∃ m : Vector (Option Message) 64,
          exec (.messageClear tag (some target)) s =
            .next ((s.withScreens { s.screens with messages := m }).withPort
              (portAfter s.port rest tag 0x29 .done [])) ∧
          ∀ n : Seat, (target = n.val ∨ target = 255 → look m n = none) ∧
            (target ≠ n.val → target ≠ 255 → look m n = look s.screens.messages n)))

/-- DISPLAY POWER and DISPLAY INPUT by the display's state and phase (R142 to R147): the display's record and the IR
Send Queue as the request leaves them, from which the idle emitter then takes what waits (R149; `emit`). That it acts
within the same command, at an instant that is free within the present frame, is the model's choice
(notes/assumptions/18.md, 19.md). An input 0 is absent (R220). That DISPLAY POWER off checks the input it ignores is
the model's choice (notes/assumptions/28.md). -/
def Obligations.DisplayRequests : Prop :=
  ∀ (s : State) (rest : List CommandCell) (tag : Byte) (display input : Nat),
    let asked := fun (d : DisplayNo) (r : DisplayRecord) (q : List IrEntry) (code : Byte) =>
      answered tag code .done []
        (emit ((taken s rest).withDisplays
          { s.displays with records := upd s.displays.records d r, queue := q }))
    let refused := fun (code : Byte) => s.withPort (portAfter s.port rest tag code .range [])
    let others := fun (d : DisplayNo) => s.displays.queue.filter (fun e => decide (e.display ≠ d))
    let sameOrNew := fun (d : DisplayNo) (n : InputNo) =>
      if s.displays.queue.any (fun e => decide (e.display = d) && isInput e.code) then
        s.displays.queue.map (fun e =>
          if e.display = d ∧ isInput e.code = true then { display := d, code := .input n } else e)
      else s.displays.queue ++ [{ display := d, code := .input n }]
    (Ready (.displayPowerOn tag (some (display, input))) s rest →
      let out := exec (.displayPowerOn tag (some (display, input))) s
      (3 < display ∨ 4 < input → out = .next (refused 0x30)) ∧
      ∀ (d : DisplayNo) (r : DisplayRecord) (wanted : Option InputNo), display = d.val →
        r = look s.displays.records d →
        (input = 0 ∧ wanted = r.pending ∨ ∃ n : InputNo, input = n.val + 1 ∧ wanted = some n) →
        (r.state = .off →
          out = .next (asked d
            { r with state := .warming, phase := some .sending, pending := wanted }
            (s.displays.queue ++ [{ display := d, code := .powerOn }]) 0x30)) ∧
        (r.state = .cooling ∨ r.state ≠ .off ∧ r.phase = some .stopping →
          out = .next (asked d { r with pending := wanted, pendingOn := true } s.displays.queue 0x30)) ∧
        (r.state = .warming → r.phase ≠ some .stopping →
          out = .next (asked d { r with pending := wanted } s.displays.queue 0x30)) ∧
        (r.state = .on → r.phase = some .steady →
          (input = 0 → out = .next (asked d r s.displays.queue 0x30)) ∧
          (∀ n : InputNo, input = n.val + 1 → out = .next (asked d r (sameOrNew d n) 0x30)))) ∧
    (Ready (.displayPowerOff tag (some (display, input))) s rest →
      let out := exec (.displayPowerOff tag (some (display, input))) s
      (3 < display ∨ 4 < input → out = .next (refused 0x30)) ∧
      ∀ (d : DisplayNo) (r : DisplayRecord), display = d.val → r = look s.displays.records d →
        input ≤ 4 →
        (r.state = .off → out = .next (asked d r s.displays.queue 0x30)) ∧
        (r.state = .cooling ∨ r.state ≠ .off ∧ r.phase = some .stopping →
          out = .next (asked d { r with pendingOn := false } s.displays.queue 0x30)) ∧
        (r.state = .warming ∨ r.state = .on → r.phase ≠ some .stopping →
          out = .next (asked d { r with timer := 0, phase := some .stopping }
            (others d ++ [{ display := d, code := .powerOff }]) 0x30))) ∧
    (Ready (.displayInput tag (some (display, input))) s rest →
      let out := exec (.displayInput tag (some (display, input))) s
      (3 < display ∨ input = 0 ∨ 4 < input → out = .next (refused 0x31)) ∧
      ∀ (d : DisplayNo) (r : DisplayRecord) (n : InputNo), display = d.val →
        r = look s.displays.records d → input = n.val + 1 →
        (r.state = .on → r.phase = some .steady → out = .next (asked d r (sameOrNew d n) 0x31)) ∧
        (r.state ≠ .on ∨ r.phase = some .stopping →
          out = .next (asked d { r with pending := some n } s.displays.queue 0x31)))

/-! ### Clock and bookings -/

/-- CLOCK SET (R158, R175, R176) and CLOCK GET (R159). For every table: a booking in progress is placed (step 1 of
R175), and then, in ascending slot order, each that was PENDING is missed if its window start was swept and its
window has gone, and is otherwise placed, late if its window holds the new time (step 2, R174, R176). Then the same
for a table in which all bookings, or all but one, are PENDING and neither swept nor due. The bytes of CLOCK GET are
laid out as notes/assumptions/25.md says. That a minute boundary which waits is dropped, neither taken nor swept, is
the model's choice (notes/assumptions/17.md), and so is that the idle emitter takes at once
(notes/assumptions/19.md). -/
def Obligations.ClockCommands : Prop :=
  ∀ (s : State) (rest : List CommandCell) (tag : Byte),
    (∀ day hour minute second : Nat, Ready (.clockSet tag (some (day, hour, minute, second))) s rest →
      let out := exec (.clockSet tag (some (day, hour, minute, second))) s
      let now := day * 1440 + hour * 60 + minute
      (6 < day ∨ 23 < hour ∨ 59 < minute ∨ 59 < second →
        out = .next (s.withPort (portAfter s.port rest tag 0x38 .range []))) ∧
      (day ≤ 6 → hour ≤ 23 → minute ≤ 59 → second ≤ 59 →
        ∀ u : State,
          u = record (.clockSet now) none
            ((((taken s rest).withClock
              { time := { day := day, hour := hour, minute := minute, second := second, ms := 0 }
                valid := true }).withDue { s.due with boundary := none }).withNotices
              { s.notices with summary := { s.notices.summary with clock := false } }) →
          (∃ t : State, out = .next t ∧ t.clock = u.clock ∧ t.notices.summary.clock = false ∧
            t.due.boundary = none ∧ t.port = portAfter s.port rest tag 0x38 .done []) ∧
          let new := now * 60000 + second * 1000
          let sweeps := fun f : Fixed =>
            s.clock.valid = true ∧ swept (weekMs s.clock.time) new (f.start - f.lead) = true
          let rests := fun (x : Stage) (f : Fixed) (c : Nat) =>
            x = .pending ∧ ¬ sweeps f ∧ dueStage f c now = none
          (∃ v w : State,
            Statements.PlacedEach .late .clock now Statements.neverGone (progressSlots s) u v ∧
            Statements.PlacedEach .late .clock now
              (fun f c => sweeps f ∧ outsideWindow f c now = true) (pendingSlots s) v w ∧
            out = .next (answered tag 0x38 .done [] w)) ∧
          (Statements.othersRest s [] rests →
            out = .next (answered tag 0x38 .done [] u)) ∧
          (∀ (k : SlotNo) (st : Stage) (f : Fixed) (items : List Item) (b c : Nat),
            look s.sched.slots k = .committed st f items b c → Statements.othersRest s [k] rests →
            let gone := sweeps f ∧ outsideWindow f c now = true
            let missed := Statements.missed k f items b u
            (st ≠ .pending ∨ ¬ gone →
              ∃ v : State, Statements.Placed .late .clock now k st f items b c u v ∧
                out = .next (answered tag 0x38 .done [] v)) ∧
            (st = .pending → gone → out = .next (answered tag 0x38 .done [] missed)) ∧
            (st = .pending → s.clock.valid = true →
              weekMs s.clock.time < (f.start - f.lead) * 60000 → (f.start - f.lead) * 60000 ≤ new →
              new - weekMs s.clock.time ≤ 302399999 → c + f.grace ≤ now →
              out = .next (answered tag 0x38 .done [] missed))))) ∧
    (Ready (.clockGet tag (some ())) s rest →
      exec (.clockGet tag (some ())) s =
        .next (s.withPort (portAfter s.port rest tag 0x39 .done
          (b1 s.clock.time.day ++ b1 s.clock.time.hour ++ b1 s.clock.time.minute ++
            b1 s.clock.time.second ++ b2 s.clock.time.ms ++
            b2 (s.clock.time.day * 1440 + s.clock.time.hour * 60 + s.clock.time.minute) ++
            b1 (if s.clock.valid then 1 else 0)))))

/-- COMMIT (R166), EXTEND (R177), END NOW (R178) and CANCEL (R179): their checks in order and their effects. COMMIT
leaves a booking that waits while the clock is invalid and is placed at once while it is valid, late if its window
has begun (R167, R169, R174). EXTEND and END NOW place the booking by its new current end. CANCEL of a booking in
progress ends its meeting if it has begun, makes the POWER OFF requests of its plan (R168) and frees the slot. The
minute by which the commands place while a minute boundary waits is the model's reading (notes/assumptions/17.md),
and so is that the idle emitter takes requests at once (notes/assumptions/19.md). -/
def Obligations.BookingCommands : Prop :=
  ∀ (s : State) (rest : List CommandCell) (tag : Byte) (slot : Nat),
    (Ready (.commit tag (some slot)) s rest →
      let answer := fun (c : AnswerCode) => s.withPort (portAfter s.port rest tag 0x40 c [])
      let out := exec (.commit tag (some slot)) s
      (15 < slot → out = .next (answer .range)) ∧
      ∀ k : SlotNo, slot = k.val →
        ((∀ (f : Fixed) (items : List Item), look s.sched.slots k ≠ .draft f items) →
          out = .next (answer .state)) ∧
        (∀ (f : Fixed) (items : List Item), look s.sched.slots k = .draft f items →
          let bad := f.start < f.lead ∨ 10080 < f.finish + f.grace ∨ f.finish < f.start + 5 ∨
            f.start + 720 < f.finish
          let taken' := idTaken s.sched k f.id = true ∨
            windowTaken s.sched k (f.start - f.lead, f.finish + f.grace) = true
          let waits := setSlot k (.committed .pending f items f.finish f.finish) (taken s rest)
          (bad → out = .next (answer .range)) ∧
          (¬ bad → taken' → out = .next (answer .conflict)) ∧
          (¬ bad → ¬ taken' →
            (s.clock.valid = false → out = .next (answered tag 0x40 .done [] waits)) ∧
            (s.clock.valid = true →
              ∃ u : State,
                Statements.Placed .late .clock (presentMinute s) k .pending f items f.finish f.finish
                  waits u ∧
                out = .next (answered tag 0x40 .done [] u))))) ∧
    (∀ minutes : Nat, Ready (.extend tag (some (slot, minutes))) s rest →
      let answer := fun (c : AnswerCode) => s.withPort (portAfter s.port rest tag 0x41 c [])
      let out := exec (.extend tag (some (slot, minutes))) s
      (15 < slot ∨ minutes = 0 ∨ 120 < minutes → out = .next (answer .range)) ∧
      ∀ k : SlotNo, slot = k.val → 1 ≤ minutes → minutes ≤ 120 →
        ((∀ (st : Stage) (f : Fixed) (items : List Item) (b c : Nat), st ≠ .done →
            look s.sched.slots k ≠ .committed st f items b c) → out = .next (answer .state)) ∧
        (∀ (st : Stage) (f : Fixed) (items : List Item) (b c : Nat), st ≠ .done →
          look s.sched.slots k = .committed st f items b c →
          let bad := f.start + 720 < c + minutes ∨ 10080 < c + minutes + f.grace
          let taken' := windowTaken s.sched k
            (f.start - f.lead, max b (c + minutes) + f.grace) = true
          let longer := setSlot k (.committed st f items b (c + minutes)) (taken s rest)
          (bad → out = .next (answer .range)) ∧
          (¬ bad → taken' → out = .next (answer .conflict)) ∧
          (¬ bad → ¬ taken' →
            (st = .pending → out = .next (answered tag 0x41 .done [] longer)) ∧
            (st ≠ .pending →
              ∃ u : State,
                Statements.Placed .late .clock (presentMinute s) k st f items b (c + minutes) longer u ∧
                out = .next (answered tag 0x41 .done [] u))))) ∧
    (Ready (.endNow tag (some slot)) s rest →
      let answer := fun (c : AnswerCode) => s.withPort (portAfter s.port rest tag 0x42 c [])
      let out := exec (.endNow tag (some slot)) s
      (15 < slot → out = .next (answer .range)) ∧
      ∀ k : SlotNo, slot = k.val →
        ((∀ (st : Stage) (f : Fixed) (items : List Item) (b c : Nat), st.meets = true →
            look s.sched.slots k ≠ .committed st f items b c) → out = .next (answer .state)) ∧
        (∀ (st : Stage) (f : Fixed) (items : List Item) (b c m : Nat), st.meets = true →
          look s.sched.slots k = .committed st f items b c → m = presentMinute s →
          let cut := setSlot k (.committed st f items b m) (taken s rest)
          (∃ u : State, Statements.Placed .late .endNow m k st f items b m cut u ∧
            out = .next (answered tag 0x42 .done [] u)) ∧
          (f.start ≤ m → 0 < f.grace →
            ∃ u : State,
              Statements.Ended .endNow f (setSlot k (.committed .done f items b m) cut) u ∧
              out = .next (answered tag 0x42 .done [] u)) ∧
          (f.start ≤ m → f.grace = 0 →
            ∃ u : State, Statements.Ended .endNow f cut u ∧
              out = .next (answered tag 0x42 .done [] (Statements.finished k f items b u))))) ∧
    (Ready (.cancel tag (some slot)) s rest →
      let out := exec (.cancel tag (some slot)) s
      let freed := fun (k : SlotNo) (u : State) => answered tag 0x43 .done [] (setSlot k .free u)
      (15 < slot → out = .next (s.withPort (portAfter s.port rest tag 0x43 .range []))) ∧
      ∀ k : SlotNo, slot = k.val →
        (look s.sched.slots k = .free →
          out = .next (s.withPort (portAfter s.port rest tag 0x43 .state []))) ∧
        (∀ (f : Fixed) (items : List Item), look s.sched.slots k = .draft f items →
          out = .next (freed k (taken s rest))) ∧
        (∀ (st : Stage) (f : Fixed) (items : List Item) (b c : Nat),
          look s.sched.slots k = .committed st f items b c →
          (st = .pending → out = .next (freed k (taken s rest))) ∧
          (st = .lead ∨ st = .done → out = .next (freed k (powerOffPlan f (taken s rest)))) ∧
          (st.meets = true →
            ∃ u : State, Statements.Ended .cancel f (taken s rest) u ∧
              out = .next (freed k (powerOffPlan f u)))))

/-- A minute boundary (R157, R170): it places nothing while the clock is invalid, and else, for every table, the booking
in progress and then, in ascending slot order, each PENDING booking whose window starts at this minute. So with every
other booking PENDING and not entering, the one booking moves by R169; and of two that meet, the first finishes and the
second then enters, so the POWER OFF requests come before the POWER ON requests. The due state is that of R167, and the
requests of a plan are made for its used displays, in ascending order (R142, R168, R169); that the idle emitter takes
each at once is the model's choice (notes/assumptions/19.md), and `due` is its own (notes/assumptions/6.md). -/
def Obligations.MinuteBoundaryPlaces : Prop :=
  (∀ (s : State) (m : Nat), s.due.boundary = some m →
    let u := s.withDue { s.due with boundary := none }
    (s.clock.valid = false → exec .minuteBoundary s = .next u) ∧
    (s.clock.valid = true →
      let rests := fun (x : Stage) (f : Fixed) (_ : Nat) => x = .pending ∧ f.start ≠ m + f.lead
      (∃ t : State, exec .minuteBoundary s = .next t ∧
        Statements.PlacedEach .scheduled .scheduled m Statements.neverGone
          (progressSlots s ++ (pendingSlots s).filter (fun k => startsAt m (look s.sched.slots k))) u t) ∧
      (Statements.othersRest s [] rests →
        exec .minuteBoundary s = .next u) ∧
      (∀ (k j : SlotNo) (st : Stage) (f g : Fixed) (items others : List Item) (b c d e : Nat), k ≠ j →
        look s.sched.slots k = .committed st f items b c → st ≠ .pending →
        look s.sched.slots j = .committed .pending g others d e → g.start = m + g.lead →
        Statements.othersRest s [k, j] rests →
        (∃ v t : State, Statements.Placed .scheduled .scheduled m k st f items b c u v ∧
          Statements.Placed .scheduled .scheduled m j .pending g others d e v t ∧
          exec .minuteBoundary s = .next t) ∧
        (st = .done → m = c + f.grace → 0 < g.lead → m < e + g.grace →
          exec .minuteBoundary s =
            .next (setSlot j (.committed .lead g others d e)
              (powerOnPlan g (Statements.finished k f items b u))))) ∧
      ∀ (k : SlotNo) (st : Stage) (f : Fixed) (items : List Item) (b c : Nat),
        look s.sched.slots k = .committed st f items b c → Statements.othersRest s [k] rests →
        (st = .pending → f.start ≠ m + f.lead → exec .minuteBoundary s = .next u) ∧
        (st ≠ .pending ∨ f.start = m + f.lead →
          ∃ t : State, exec .minuteBoundary s = .next t ∧
            Statements.Placed .scheduled .scheduled m k st f items b c u t) ∧
        (st = .pending → f.start = m + f.lead → 0 < f.lead → m < c + f.grace →
          exec .minuteBoundary s =
            .next (setSlot k (.committed .lead f items b c) (powerOnPlan f u))) ∧
        (st = .pending ∨ st = .lead → f.start = m → m < c → st = .lead ∨ f.lead = 0 →
          ∀ due : Stage, due = (if f.endWarn = 0 ∨ m + f.endWarn < c then .active else .ending) →
          ∃ t : State, exec .minuteBoundary s = .next t ∧
            Statements.Started .scheduled k f
              (setSlot k (.committed due f items b c) (if st = .lead then u else powerOnPlan f u)) t) ∧
        (st.meets = true → m = c → f.start ≤ m →
          (0 < f.grace →
            ∃ t : State, exec .minuteBoundary s = .next t ∧
              Statements.Ended .scheduled f (setSlot k (.committed .done f items b c) u) t) ∧
          (f.grace = 0 →
            ∃ v : State, Statements.Ended .scheduled f u v ∧
              exec .minuteBoundary s = .next (Statements.finished k f items b v))) ∧
        (st = .done → m = c + f.grace →
          exec .minuteBoundary s = .next (Statements.finished k f items b u)))) ∧
  (∀ (f : Fixed) (c t : Nat),
    dueStage f c t =
      if t + f.lead < f.start ∨ c + f.grace ≤ t then none
      else if t < f.start then some .lead
      else if c ≤ t then some .done
      else if f.endWarn = 0 ∨ t + f.endWarn < c then some .active else some .ending) ∧
  (∀ s : State, (progressSlots s).Pairwise (· < ·) ∧ (pendingSlots s).Pairwise (· < ·) ∧
    ∀ k : SlotNo,
      (k ∈ progressSlots s ↔ ∃ st f items b c, st ≠ .pending ∧
        look s.sched.slots k = .committed st f items b c) ∧
      (k ∈ pendingSlots s ↔ ∃ f items b c, look s.sched.slots k = .committed .pending f items b c) ∧
      (k ∈ pendingSlots s → ∀ m : Nat,
        (startsAt m (look s.sched.slots k) = true ↔ ∃ f items b c,
          look s.sched.slots k = .committed .pending f items b c ∧ f.start = m + f.lead))) ∧
  (∀ (f : Fixed) (s : State),
    powerOnPlan f s =
      ([0, 1, 2, 3] : List DisplayNo).foldl (fun t d =>
        if (look f.plan d).used then emit (handleOn d (some (look f.plan d).input) t) else t) s ∧
    powerOffPlan f s =
      ([0, 1, 2, 3] : List DisplayNo).foldl (fun t d =>
        if (look f.plan d).used then emit (handleOff d t) else t) s)

/-! ### Log and notices -/

/-- LOG READ (R189) and NOTICE SET (R191). The layout of the results is the model's (notes/assumptions/25.md). -/
def Obligations.LogReadAndNoticeSet : Prop :=
  ∀ (s : State) (rest : List CommandCell) (tag : Byte),
    (Ready (.logRead tag (some ())) s rest →
      (∀ (older newer : List LogRecord) (r : LogRecord), s.log.ring = older ++ r :: newer →
        s.log.unread = newer.length + 1 →
        exec (.logRead tag (some ())) s =
          .next (((s.withLog { s.log with unread := newer.length }).withNotices
            { s.notices with
              summary :=
                { s.notices.summary with
                  log := s.notices.summary.log && decide (newer ≠ []) }
              quiet := 0 }).withPort
            (portAfter s.port rest tag 0x48 .done (recordBytes r newer.length)))) ∧
      (s.log.unread = 0 → s.notices.summary.log = false →
        exec (.logRead tag (some ())) s =
          .next ((s.withNotices { s.notices with quiet := 0 }).withPort
            (portAfter s.port rest tag 0x48 .empty [])))) ∧
    (∀ mask trigger : Nat, Ready (.noticeSet tag (some (mask, trigger))) s rest →
      (trigger ∉ [1, 4, 16, 64] →
        exec (.noticeSet tag (some (mask, trigger))) s =
          .next (s.withPort (portAfter s.port rest tag 0x49 .range []))) ∧
      (trigger ∈ [1, 4, 16, 64] →
        exec (.noticeSet tag (some (mask, trigger))) s =
          .next ((s.withNotices
            { s.notices with
              mask :=
                { log := mask.testBit 0, clip := mask.testBit 1, link := mask.testBit 2
                  display := mask.testBit 3, clock := mask.testBit 4 }
              trigger := trigger }).withPort
            (portAfter s.port rest tag 0x49 .done (b1 (sourceBits s.notices.summary))))))

end Statements
end

