-- ==== Sys2Proof/Laws/State.lean ====
section
/-!
SUPPORT. One lemma per field per update of the state, each true by rfl, so that no later proof unfolds a record
update.
-/

namespace Sys2Proof.Machine

/-! ### withTime -/

@[simp] theorem withTime_time (s : State) (x : TimeBase) :
    (s.withTime x).time = x := rfl
@[simp] theorem withTime_links (s : State) (x : TimeBase) :
    (s.withTime x).links = s.links := rfl
@[simp] theorem withTime_audio (s : State) (x : TimeBase) :
    (s.withTime x).audio = s.audio := rfl
@[simp] theorem withTime_seats (s : State) (x : TimeBase) :
    (s.withTime x).seats = s.seats := rfl
@[simp] theorem withTime_seatTable (s : State) (x : TimeBase) :
    (s.withTime x).seatTable = s.seatTable := rfl
@[simp] theorem withTime_floor (s : State) (x : TimeBase) :
    (s.withTime x).floor = s.floor := rfl
@[simp] theorem withTime_alert (s : State) (x : TimeBase) :
    (s.withTime x).alert = s.alert := rfl
@[simp] theorem withTime_mixer (s : State) (x : TimeBase) :
    (s.withTime x).mixer = s.mixer := rfl
@[simp] theorem withTime_gate (s : State) (x : TimeBase) :
    (s.withTime x).gate = s.gate := rfl
@[simp] theorem withTime_screens (s : State) (x : TimeBase) :
    (s.withTime x).screens = s.screens := rfl
@[simp] theorem withTime_displays (s : State) (x : TimeBase) :
    (s.withTime x).displays = s.displays := rfl
@[simp] theorem withTime_clock (s : State) (x : TimeBase) :
    (s.withTime x).clock = s.clock := rfl
@[simp] theorem withTime_sched (s : State) (x : TimeBase) :
    (s.withTime x).sched = s.sched := rfl
@[simp] theorem withTime_log (s : State) (x : TimeBase) :
    (s.withTime x).log = s.log := rfl
@[simp] theorem withTime_notices (s : State) (x : TimeBase) :
    (s.withTime x).notices = s.notices := rfl
@[simp] theorem withTime_port (s : State) (x : TimeBase) :
    (s.withTime x).port = s.port := rfl
@[simp] theorem withTime_sent (s : State) (x : TimeBase) :
    (s.withTime x).sent = s.sent := rfl
@[simp] theorem withTime_due (s : State) (x : TimeBase) :
    (s.withTime x).due = s.due := rfl
@[simp] theorem withTime_draws (s : State) (x : TimeBase) :
    (s.withTime x).draws = s.draws := rfl
@[simp] theorem withTime_pending (s : State) (x : TimeBase) :
    (s.withTime x).pending = s.pending := rfl

/-! ### withLinks -/

@[simp] theorem withLinks_time (s : State) (x : Links) :
    (s.withLinks x).time = s.time := rfl
@[simp] theorem withLinks_links (s : State) (x : Links) :
    (s.withLinks x).links = x := rfl
@[simp] theorem withLinks_audio (s : State) (x : Links) :
    (s.withLinks x).audio = s.audio := rfl
@[simp] theorem withLinks_seats (s : State) (x : Links) :
    (s.withLinks x).seats = s.seats := rfl
@[simp] theorem withLinks_seatTable (s : State) (x : Links) :
    (s.withLinks x).seatTable = s.seatTable := rfl
@[simp] theorem withLinks_floor (s : State) (x : Links) :
    (s.withLinks x).floor = s.floor := rfl
@[simp] theorem withLinks_alert (s : State) (x : Links) :
    (s.withLinks x).alert = s.alert := rfl
@[simp] theorem withLinks_mixer (s : State) (x : Links) :
    (s.withLinks x).mixer = s.mixer := rfl
@[simp] theorem withLinks_gate (s : State) (x : Links) :
    (s.withLinks x).gate = s.gate := rfl
@[simp] theorem withLinks_screens (s : State) (x : Links) :
    (s.withLinks x).screens = s.screens := rfl
@[simp] theorem withLinks_displays (s : State) (x : Links) :
    (s.withLinks x).displays = s.displays := rfl
@[simp] theorem withLinks_clock (s : State) (x : Links) :
    (s.withLinks x).clock = s.clock := rfl
@[simp] theorem withLinks_sched (s : State) (x : Links) :
    (s.withLinks x).sched = s.sched := rfl
@[simp] theorem withLinks_log (s : State) (x : Links) :
    (s.withLinks x).log = s.log := rfl
@[simp] theorem withLinks_notices (s : State) (x : Links) :
    (s.withLinks x).notices = s.notices := rfl
@[simp] theorem withLinks_port (s : State) (x : Links) :
    (s.withLinks x).port = s.port := rfl
@[simp] theorem withLinks_sent (s : State) (x : Links) :
    (s.withLinks x).sent = s.sent := rfl
@[simp] theorem withLinks_due (s : State) (x : Links) :
    (s.withLinks x).due = s.due := rfl
@[simp] theorem withLinks_draws (s : State) (x : Links) :
    (s.withLinks x).draws = s.draws := rfl
@[simp] theorem withLinks_pending (s : State) (x : Links) :
    (s.withLinks x).pending = s.pending := rfl

/-! ### withAudio -/

@[simp] theorem withAudio_time (s : State) (x : AudioIn) :
    (s.withAudio x).time = s.time := rfl
@[simp] theorem withAudio_links (s : State) (x : AudioIn) :
    (s.withAudio x).links = s.links := rfl
@[simp] theorem withAudio_audio (s : State) (x : AudioIn) :
    (s.withAudio x).audio = x := rfl
@[simp] theorem withAudio_seats (s : State) (x : AudioIn) :
    (s.withAudio x).seats = s.seats := rfl
@[simp] theorem withAudio_seatTable (s : State) (x : AudioIn) :
    (s.withAudio x).seatTable = s.seatTable := rfl
@[simp] theorem withAudio_floor (s : State) (x : AudioIn) :
    (s.withAudio x).floor = s.floor := rfl
@[simp] theorem withAudio_alert (s : State) (x : AudioIn) :
    (s.withAudio x).alert = s.alert := rfl
@[simp] theorem withAudio_mixer (s : State) (x : AudioIn) :
    (s.withAudio x).mixer = s.mixer := rfl
@[simp] theorem withAudio_gate (s : State) (x : AudioIn) :
    (s.withAudio x).gate = s.gate := rfl
@[simp] theorem withAudio_screens (s : State) (x : AudioIn) :
    (s.withAudio x).screens = s.screens := rfl
@[simp] theorem withAudio_displays (s : State) (x : AudioIn) :
    (s.withAudio x).displays = s.displays := rfl
@[simp] theorem withAudio_clock (s : State) (x : AudioIn) :
    (s.withAudio x).clock = s.clock := rfl
@[simp] theorem withAudio_sched (s : State) (x : AudioIn) :
    (s.withAudio x).sched = s.sched := rfl
@[simp] theorem withAudio_log (s : State) (x : AudioIn) :
    (s.withAudio x).log = s.log := rfl
@[simp] theorem withAudio_notices (s : State) (x : AudioIn) :
    (s.withAudio x).notices = s.notices := rfl
@[simp] theorem withAudio_port (s : State) (x : AudioIn) :
    (s.withAudio x).port = s.port := rfl
@[simp] theorem withAudio_sent (s : State) (x : AudioIn) :
    (s.withAudio x).sent = s.sent := rfl
@[simp] theorem withAudio_due (s : State) (x : AudioIn) :
    (s.withAudio x).due = s.due := rfl
@[simp] theorem withAudio_draws (s : State) (x : AudioIn) :
    (s.withAudio x).draws = s.draws := rfl
@[simp] theorem withAudio_pending (s : State) (x : AudioIn) :
    (s.withAudio x).pending = s.pending := rfl

/-! ### withSeats -/

@[simp] theorem withSeats_time (s : State) (x : Vector SeatUnit 64) :
    (s.withSeats x).time = s.time := rfl
@[simp] theorem withSeats_links (s : State) (x : Vector SeatUnit 64) :
    (s.withSeats x).links = s.links := rfl
@[simp] theorem withSeats_audio (s : State) (x : Vector SeatUnit 64) :
    (s.withSeats x).audio = s.audio := rfl
@[simp] theorem withSeats_seats (s : State) (x : Vector SeatUnit 64) :
    (s.withSeats x).seats = x := rfl
@[simp] theorem withSeats_seatTable (s : State) (x : Vector SeatUnit 64) :
    (s.withSeats x).seatTable = s.seatTable := rfl
@[simp] theorem withSeats_floor (s : State) (x : Vector SeatUnit 64) :
    (s.withSeats x).floor = s.floor := rfl
@[simp] theorem withSeats_alert (s : State) (x : Vector SeatUnit 64) :
    (s.withSeats x).alert = s.alert := rfl
@[simp] theorem withSeats_mixer (s : State) (x : Vector SeatUnit 64) :
    (s.withSeats x).mixer = s.mixer := rfl
@[simp] theorem withSeats_gate (s : State) (x : Vector SeatUnit 64) :
    (s.withSeats x).gate = s.gate := rfl
@[simp] theorem withSeats_screens (s : State) (x : Vector SeatUnit 64) :
    (s.withSeats x).screens = s.screens := rfl
@[simp] theorem withSeats_displays (s : State) (x : Vector SeatUnit 64) :
    (s.withSeats x).displays = s.displays := rfl
@[simp] theorem withSeats_clock (s : State) (x : Vector SeatUnit 64) :
    (s.withSeats x).clock = s.clock := rfl
@[simp] theorem withSeats_sched (s : State) (x : Vector SeatUnit 64) :
    (s.withSeats x).sched = s.sched := rfl
@[simp] theorem withSeats_log (s : State) (x : Vector SeatUnit 64) :
    (s.withSeats x).log = s.log := rfl
@[simp] theorem withSeats_notices (s : State) (x : Vector SeatUnit 64) :
    (s.withSeats x).notices = s.notices := rfl
@[simp] theorem withSeats_port (s : State) (x : Vector SeatUnit 64) :
    (s.withSeats x).port = s.port := rfl
@[simp] theorem withSeats_sent (s : State) (x : Vector SeatUnit 64) :
    (s.withSeats x).sent = s.sent := rfl
@[simp] theorem withSeats_due (s : State) (x : Vector SeatUnit 64) :
    (s.withSeats x).due = s.due := rfl
@[simp] theorem withSeats_draws (s : State) (x : Vector SeatUnit 64) :
    (s.withSeats x).draws = s.draws := rfl
@[simp] theorem withSeats_pending (s : State) (x : Vector SeatUnit 64) :
    (s.withSeats x).pending = s.pending := rfl

/-! ### withSeatTable -/

@[simp] theorem withSeatTable_time (s : State) (x : Vector SeatEntry 64) :
    (s.withSeatTable x).time = s.time := rfl
@[simp] theorem withSeatTable_links (s : State) (x : Vector SeatEntry 64) :
    (s.withSeatTable x).links = s.links := rfl
@[simp] theorem withSeatTable_audio (s : State) (x : Vector SeatEntry 64) :
    (s.withSeatTable x).audio = s.audio := rfl
@[simp] theorem withSeatTable_seats (s : State) (x : Vector SeatEntry 64) :
    (s.withSeatTable x).seats = s.seats := rfl
@[simp] theorem withSeatTable_seatTable (s : State) (x : Vector SeatEntry 64) :
    (s.withSeatTable x).seatTable = x := rfl
@[simp] theorem withSeatTable_floor (s : State) (x : Vector SeatEntry 64) :
    (s.withSeatTable x).floor = s.floor := rfl
@[simp] theorem withSeatTable_alert (s : State) (x : Vector SeatEntry 64) :
    (s.withSeatTable x).alert = s.alert := rfl
@[simp] theorem withSeatTable_mixer (s : State) (x : Vector SeatEntry 64) :
    (s.withSeatTable x).mixer = s.mixer := rfl
@[simp] theorem withSeatTable_gate (s : State) (x : Vector SeatEntry 64) :
    (s.withSeatTable x).gate = s.gate := rfl
@[simp] theorem withSeatTable_screens (s : State) (x : Vector SeatEntry 64) :
    (s.withSeatTable x).screens = s.screens := rfl
@[simp] theorem withSeatTable_displays (s : State) (x : Vector SeatEntry 64) :
    (s.withSeatTable x).displays = s.displays := rfl
@[simp] theorem withSeatTable_clock (s : State) (x : Vector SeatEntry 64) :
    (s.withSeatTable x).clock = s.clock := rfl
@[simp] theorem withSeatTable_sched (s : State) (x : Vector SeatEntry 64) :
    (s.withSeatTable x).sched = s.sched := rfl
@[simp] theorem withSeatTable_log (s : State) (x : Vector SeatEntry 64) :
    (s.withSeatTable x).log = s.log := rfl
@[simp] theorem withSeatTable_notices (s : State) (x : Vector SeatEntry 64) :
    (s.withSeatTable x).notices = s.notices := rfl
@[simp] theorem withSeatTable_port (s : State) (x : Vector SeatEntry 64) :
    (s.withSeatTable x).port = s.port := rfl
@[simp] theorem withSeatTable_sent (s : State) (x : Vector SeatEntry 64) :
    (s.withSeatTable x).sent = s.sent := rfl
@[simp] theorem withSeatTable_due (s : State) (x : Vector SeatEntry 64) :
    (s.withSeatTable x).due = s.due := rfl
@[simp] theorem withSeatTable_draws (s : State) (x : Vector SeatEntry 64) :
    (s.withSeatTable x).draws = s.draws := rfl
@[simp] theorem withSeatTable_pending (s : State) (x : Vector SeatEntry 64) :
    (s.withSeatTable x).pending = s.pending := rfl

/-! ### withFloor -/

@[simp] theorem withFloor_time (s : State) (x : Floor) :
    (s.withFloor x).time = s.time := rfl
@[simp] theorem withFloor_links (s : State) (x : Floor) :
    (s.withFloor x).links = s.links := rfl
@[simp] theorem withFloor_audio (s : State) (x : Floor) :
    (s.withFloor x).audio = s.audio := rfl
@[simp] theorem withFloor_seats (s : State) (x : Floor) :
    (s.withFloor x).seats = s.seats := rfl
@[simp] theorem withFloor_seatTable (s : State) (x : Floor) :
    (s.withFloor x).seatTable = s.seatTable := rfl
@[simp] theorem withFloor_floor (s : State) (x : Floor) :
    (s.withFloor x).floor = x := rfl
@[simp] theorem withFloor_alert (s : State) (x : Floor) :
    (s.withFloor x).alert = s.alert := rfl
@[simp] theorem withFloor_mixer (s : State) (x : Floor) :
    (s.withFloor x).mixer = s.mixer := rfl
@[simp] theorem withFloor_gate (s : State) (x : Floor) :
    (s.withFloor x).gate = s.gate := rfl
@[simp] theorem withFloor_screens (s : State) (x : Floor) :
    (s.withFloor x).screens = s.screens := rfl
@[simp] theorem withFloor_displays (s : State) (x : Floor) :
    (s.withFloor x).displays = s.displays := rfl
@[simp] theorem withFloor_clock (s : State) (x : Floor) :
    (s.withFloor x).clock = s.clock := rfl
@[simp] theorem withFloor_sched (s : State) (x : Floor) :
    (s.withFloor x).sched = s.sched := rfl
@[simp] theorem withFloor_log (s : State) (x : Floor) :
    (s.withFloor x).log = s.log := rfl
@[simp] theorem withFloor_notices (s : State) (x : Floor) :
    (s.withFloor x).notices = s.notices := rfl
@[simp] theorem withFloor_port (s : State) (x : Floor) :
    (s.withFloor x).port = s.port := rfl
@[simp] theorem withFloor_sent (s : State) (x : Floor) :
    (s.withFloor x).sent = s.sent := rfl
@[simp] theorem withFloor_due (s : State) (x : Floor) :
    (s.withFloor x).due = s.due := rfl
@[simp] theorem withFloor_draws (s : State) (x : Floor) :
    (s.withFloor x).draws = s.draws := rfl
@[simp] theorem withFloor_pending (s : State) (x : Floor) :
    (s.withFloor x).pending = s.pending := rfl

/-! ### withAlert -/

@[simp] theorem withAlert_time (s : State) (x : AlertFilter) :
    (s.withAlert x).time = s.time := rfl
@[simp] theorem withAlert_links (s : State) (x : AlertFilter) :
    (s.withAlert x).links = s.links := rfl
@[simp] theorem withAlert_audio (s : State) (x : AlertFilter) :
    (s.withAlert x).audio = s.audio := rfl
@[simp] theorem withAlert_seats (s : State) (x : AlertFilter) :
    (s.withAlert x).seats = s.seats := rfl
@[simp] theorem withAlert_seatTable (s : State) (x : AlertFilter) :
    (s.withAlert x).seatTable = s.seatTable := rfl
@[simp] theorem withAlert_floor (s : State) (x : AlertFilter) :
    (s.withAlert x).floor = s.floor := rfl
@[simp] theorem withAlert_alert (s : State) (x : AlertFilter) :
    (s.withAlert x).alert = x := rfl
@[simp] theorem withAlert_mixer (s : State) (x : AlertFilter) :
    (s.withAlert x).mixer = s.mixer := rfl
@[simp] theorem withAlert_gate (s : State) (x : AlertFilter) :
    (s.withAlert x).gate = s.gate := rfl
@[simp] theorem withAlert_screens (s : State) (x : AlertFilter) :
    (s.withAlert x).screens = s.screens := rfl
@[simp] theorem withAlert_displays (s : State) (x : AlertFilter) :
    (s.withAlert x).displays = s.displays := rfl
@[simp] theorem withAlert_clock (s : State) (x : AlertFilter) :
    (s.withAlert x).clock = s.clock := rfl
@[simp] theorem withAlert_sched (s : State) (x : AlertFilter) :
    (s.withAlert x).sched = s.sched := rfl
@[simp] theorem withAlert_log (s : State) (x : AlertFilter) :
    (s.withAlert x).log = s.log := rfl
@[simp] theorem withAlert_notices (s : State) (x : AlertFilter) :
    (s.withAlert x).notices = s.notices := rfl
@[simp] theorem withAlert_port (s : State) (x : AlertFilter) :
    (s.withAlert x).port = s.port := rfl
@[simp] theorem withAlert_sent (s : State) (x : AlertFilter) :
    (s.withAlert x).sent = s.sent := rfl
@[simp] theorem withAlert_due (s : State) (x : AlertFilter) :
    (s.withAlert x).due = s.due := rfl
@[simp] theorem withAlert_draws (s : State) (x : AlertFilter) :
    (s.withAlert x).draws = s.draws := rfl
@[simp] theorem withAlert_pending (s : State) (x : AlertFilter) :
    (s.withAlert x).pending = s.pending := rfl

/-! ### withMixer -/

@[simp] theorem withMixer_time (s : State) (x : Mixer) :
    (s.withMixer x).time = s.time := rfl
@[simp] theorem withMixer_links (s : State) (x : Mixer) :
    (s.withMixer x).links = s.links := rfl
@[simp] theorem withMixer_audio (s : State) (x : Mixer) :
    (s.withMixer x).audio = s.audio := rfl
@[simp] theorem withMixer_seats (s : State) (x : Mixer) :
    (s.withMixer x).seats = s.seats := rfl
@[simp] theorem withMixer_seatTable (s : State) (x : Mixer) :
    (s.withMixer x).seatTable = s.seatTable := rfl
@[simp] theorem withMixer_floor (s : State) (x : Mixer) :
    (s.withMixer x).floor = s.floor := rfl
@[simp] theorem withMixer_alert (s : State) (x : Mixer) :
    (s.withMixer x).alert = s.alert := rfl
@[simp] theorem withMixer_mixer (s : State) (x : Mixer) :
    (s.withMixer x).mixer = x := rfl
@[simp] theorem withMixer_gate (s : State) (x : Mixer) :
    (s.withMixer x).gate = s.gate := rfl
@[simp] theorem withMixer_screens (s : State) (x : Mixer) :
    (s.withMixer x).screens = s.screens := rfl
@[simp] theorem withMixer_displays (s : State) (x : Mixer) :
    (s.withMixer x).displays = s.displays := rfl
@[simp] theorem withMixer_clock (s : State) (x : Mixer) :
    (s.withMixer x).clock = s.clock := rfl
@[simp] theorem withMixer_sched (s : State) (x : Mixer) :
    (s.withMixer x).sched = s.sched := rfl
@[simp] theorem withMixer_log (s : State) (x : Mixer) :
    (s.withMixer x).log = s.log := rfl
@[simp] theorem withMixer_notices (s : State) (x : Mixer) :
    (s.withMixer x).notices = s.notices := rfl
@[simp] theorem withMixer_port (s : State) (x : Mixer) :
    (s.withMixer x).port = s.port := rfl
@[simp] theorem withMixer_sent (s : State) (x : Mixer) :
    (s.withMixer x).sent = s.sent := rfl
@[simp] theorem withMixer_due (s : State) (x : Mixer) :
    (s.withMixer x).due = s.due := rfl
@[simp] theorem withMixer_draws (s : State) (x : Mixer) :
    (s.withMixer x).draws = s.draws := rfl
@[simp] theorem withMixer_pending (s : State) (x : Mixer) :
    (s.withMixer x).pending = s.pending := rfl

/-! ### withGate -/

@[simp] theorem withGate_time (s : State) (x : Gate) :
    (s.withGate x).time = s.time := rfl
@[simp] theorem withGate_links (s : State) (x : Gate) :
    (s.withGate x).links = s.links := rfl
@[simp] theorem withGate_audio (s : State) (x : Gate) :
    (s.withGate x).audio = s.audio := rfl
@[simp] theorem withGate_seats (s : State) (x : Gate) :
    (s.withGate x).seats = s.seats := rfl
@[simp] theorem withGate_seatTable (s : State) (x : Gate) :
    (s.withGate x).seatTable = s.seatTable := rfl
@[simp] theorem withGate_floor (s : State) (x : Gate) :
    (s.withGate x).floor = s.floor := rfl
@[simp] theorem withGate_alert (s : State) (x : Gate) :
    (s.withGate x).alert = s.alert := rfl
@[simp] theorem withGate_mixer (s : State) (x : Gate) :
    (s.withGate x).mixer = s.mixer := rfl
@[simp] theorem withGate_gate (s : State) (x : Gate) :
    (s.withGate x).gate = x := rfl
@[simp] theorem withGate_screens (s : State) (x : Gate) :
    (s.withGate x).screens = s.screens := rfl
@[simp] theorem withGate_displays (s : State) (x : Gate) :
    (s.withGate x).displays = s.displays := rfl
@[simp] theorem withGate_clock (s : State) (x : Gate) :
    (s.withGate x).clock = s.clock := rfl
@[simp] theorem withGate_sched (s : State) (x : Gate) :
    (s.withGate x).sched = s.sched := rfl
@[simp] theorem withGate_log (s : State) (x : Gate) :
    (s.withGate x).log = s.log := rfl
@[simp] theorem withGate_notices (s : State) (x : Gate) :
    (s.withGate x).notices = s.notices := rfl
@[simp] theorem withGate_port (s : State) (x : Gate) :
    (s.withGate x).port = s.port := rfl
@[simp] theorem withGate_sent (s : State) (x : Gate) :
    (s.withGate x).sent = s.sent := rfl
@[simp] theorem withGate_due (s : State) (x : Gate) :
    (s.withGate x).due = s.due := rfl
@[simp] theorem withGate_draws (s : State) (x : Gate) :
    (s.withGate x).draws = s.draws := rfl
@[simp] theorem withGate_pending (s : State) (x : Gate) :
    (s.withGate x).pending = s.pending := rfl

/-! ### withScreens -/

@[simp] theorem withScreens_time (s : State) (x : Screens) :
    (s.withScreens x).time = s.time := rfl
@[simp] theorem withScreens_links (s : State) (x : Screens) :
    (s.withScreens x).links = s.links := rfl
@[simp] theorem withScreens_audio (s : State) (x : Screens) :
    (s.withScreens x).audio = s.audio := rfl
@[simp] theorem withScreens_seats (s : State) (x : Screens) :
    (s.withScreens x).seats = s.seats := rfl
@[simp] theorem withScreens_seatTable (s : State) (x : Screens) :
    (s.withScreens x).seatTable = s.seatTable := rfl
@[simp] theorem withScreens_floor (s : State) (x : Screens) :
    (s.withScreens x).floor = s.floor := rfl
@[simp] theorem withScreens_alert (s : State) (x : Screens) :
    (s.withScreens x).alert = s.alert := rfl
@[simp] theorem withScreens_mixer (s : State) (x : Screens) :
    (s.withScreens x).mixer = s.mixer := rfl
@[simp] theorem withScreens_gate (s : State) (x : Screens) :
    (s.withScreens x).gate = s.gate := rfl
@[simp] theorem withScreens_screens (s : State) (x : Screens) :
    (s.withScreens x).screens = x := rfl
@[simp] theorem withScreens_displays (s : State) (x : Screens) :
    (s.withScreens x).displays = s.displays := rfl
@[simp] theorem withScreens_clock (s : State) (x : Screens) :
    (s.withScreens x).clock = s.clock := rfl
@[simp] theorem withScreens_sched (s : State) (x : Screens) :
    (s.withScreens x).sched = s.sched := rfl
@[simp] theorem withScreens_log (s : State) (x : Screens) :
    (s.withScreens x).log = s.log := rfl
@[simp] theorem withScreens_notices (s : State) (x : Screens) :
    (s.withScreens x).notices = s.notices := rfl
@[simp] theorem withScreens_port (s : State) (x : Screens) :
    (s.withScreens x).port = s.port := rfl
@[simp] theorem withScreens_sent (s : State) (x : Screens) :
    (s.withScreens x).sent = s.sent := rfl
@[simp] theorem withScreens_due (s : State) (x : Screens) :
    (s.withScreens x).due = s.due := rfl
@[simp] theorem withScreens_draws (s : State) (x : Screens) :
    (s.withScreens x).draws = s.draws := rfl
@[simp] theorem withScreens_pending (s : State) (x : Screens) :
    (s.withScreens x).pending = s.pending := rfl

/-! ### withDisplays -/

@[simp] theorem withDisplays_time (s : State) (x : Displays) :
    (s.withDisplays x).time = s.time := rfl
@[simp] theorem withDisplays_links (s : State) (x : Displays) :
    (s.withDisplays x).links = s.links := rfl
@[simp] theorem withDisplays_audio (s : State) (x : Displays) :
    (s.withDisplays x).audio = s.audio := rfl
@[simp] theorem withDisplays_seats (s : State) (x : Displays) :
    (s.withDisplays x).seats = s.seats := rfl
@[simp] theorem withDisplays_seatTable (s : State) (x : Displays) :
    (s.withDisplays x).seatTable = s.seatTable := rfl
@[simp] theorem withDisplays_floor (s : State) (x : Displays) :
    (s.withDisplays x).floor = s.floor := rfl
@[simp] theorem withDisplays_alert (s : State) (x : Displays) :
    (s.withDisplays x).alert = s.alert := rfl
@[simp] theorem withDisplays_mixer (s : State) (x : Displays) :
    (s.withDisplays x).mixer = s.mixer := rfl
@[simp] theorem withDisplays_gate (s : State) (x : Displays) :
    (s.withDisplays x).gate = s.gate := rfl
@[simp] theorem withDisplays_screens (s : State) (x : Displays) :
    (s.withDisplays x).screens = s.screens := rfl
@[simp] theorem withDisplays_displays (s : State) (x : Displays) :
    (s.withDisplays x).displays = x := rfl
@[simp] theorem withDisplays_clock (s : State) (x : Displays) :
    (s.withDisplays x).clock = s.clock := rfl
@[simp] theorem withDisplays_sched (s : State) (x : Displays) :
    (s.withDisplays x).sched = s.sched := rfl
@[simp] theorem withDisplays_log (s : State) (x : Displays) :
    (s.withDisplays x).log = s.log := rfl
@[simp] theorem withDisplays_notices (s : State) (x : Displays) :
    (s.withDisplays x).notices = s.notices := rfl
@[simp] theorem withDisplays_port (s : State) (x : Displays) :
    (s.withDisplays x).port = s.port := rfl
@[simp] theorem withDisplays_sent (s : State) (x : Displays) :
    (s.withDisplays x).sent = s.sent := rfl
@[simp] theorem withDisplays_due (s : State) (x : Displays) :
    (s.withDisplays x).due = s.due := rfl
@[simp] theorem withDisplays_draws (s : State) (x : Displays) :
    (s.withDisplays x).draws = s.draws := rfl
@[simp] theorem withDisplays_pending (s : State) (x : Displays) :
    (s.withDisplays x).pending = s.pending := rfl

/-! ### withClock -/

@[simp] theorem withClock_time (s : State) (x : Clock) :
    (s.withClock x).time = s.time := rfl
@[simp] theorem withClock_links (s : State) (x : Clock) :
    (s.withClock x).links = s.links := rfl
@[simp] theorem withClock_audio (s : State) (x : Clock) :
    (s.withClock x).audio = s.audio := rfl
@[simp] theorem withClock_seats (s : State) (x : Clock) :
    (s.withClock x).seats = s.seats := rfl
@[simp] theorem withClock_seatTable (s : State) (x : Clock) :
    (s.withClock x).seatTable = s.seatTable := rfl
@[simp] theorem withClock_floor (s : State) (x : Clock) :
    (s.withClock x).floor = s.floor := rfl
@[simp] theorem withClock_alert (s : State) (x : Clock) :
    (s.withClock x).alert = s.alert := rfl
@[simp] theorem withClock_mixer (s : State) (x : Clock) :
    (s.withClock x).mixer = s.mixer := rfl
@[simp] theorem withClock_gate (s : State) (x : Clock) :
    (s.withClock x).gate = s.gate := rfl
@[simp] theorem withClock_screens (s : State) (x : Clock) :
    (s.withClock x).screens = s.screens := rfl
@[simp] theorem withClock_displays (s : State) (x : Clock) :
    (s.withClock x).displays = s.displays := rfl
@[simp] theorem withClock_clock (s : State) (x : Clock) :
    (s.withClock x).clock = x := rfl
@[simp] theorem withClock_sched (s : State) (x : Clock) :
    (s.withClock x).sched = s.sched := rfl
@[simp] theorem withClock_log (s : State) (x : Clock) :
    (s.withClock x).log = s.log := rfl
@[simp] theorem withClock_notices (s : State) (x : Clock) :
    (s.withClock x).notices = s.notices := rfl
@[simp] theorem withClock_port (s : State) (x : Clock) :
    (s.withClock x).port = s.port := rfl
@[simp] theorem withClock_sent (s : State) (x : Clock) :
    (s.withClock x).sent = s.sent := rfl
@[simp] theorem withClock_due (s : State) (x : Clock) :
    (s.withClock x).due = s.due := rfl
@[simp] theorem withClock_draws (s : State) (x : Clock) :
    (s.withClock x).draws = s.draws := rfl
@[simp] theorem withClock_pending (s : State) (x : Clock) :
    (s.withClock x).pending = s.pending := rfl

/-! ### withSched -/

@[simp] theorem withSched_time (s : State) (x : Scheduler) :
    (s.withSched x).time = s.time := rfl
@[simp] theorem withSched_links (s : State) (x : Scheduler) :
    (s.withSched x).links = s.links := rfl
@[simp] theorem withSched_audio (s : State) (x : Scheduler) :
    (s.withSched x).audio = s.audio := rfl
@[simp] theorem withSched_seats (s : State) (x : Scheduler) :
    (s.withSched x).seats = s.seats := rfl
@[simp] theorem withSched_seatTable (s : State) (x : Scheduler) :
    (s.withSched x).seatTable = s.seatTable := rfl
@[simp] theorem withSched_floor (s : State) (x : Scheduler) :
    (s.withSched x).floor = s.floor := rfl
@[simp] theorem withSched_alert (s : State) (x : Scheduler) :
    (s.withSched x).alert = s.alert := rfl
@[simp] theorem withSched_mixer (s : State) (x : Scheduler) :
    (s.withSched x).mixer = s.mixer := rfl
@[simp] theorem withSched_gate (s : State) (x : Scheduler) :
    (s.withSched x).gate = s.gate := rfl
@[simp] theorem withSched_screens (s : State) (x : Scheduler) :
    (s.withSched x).screens = s.screens := rfl
@[simp] theorem withSched_displays (s : State) (x : Scheduler) :
    (s.withSched x).displays = s.displays := rfl
@[simp] theorem withSched_clock (s : State) (x : Scheduler) :
    (s.withSched x).clock = s.clock := rfl
@[simp] theorem withSched_sched (s : State) (x : Scheduler) :
    (s.withSched x).sched = x := rfl
@[simp] theorem withSched_log (s : State) (x : Scheduler) :
    (s.withSched x).log = s.log := rfl
@[simp] theorem withSched_notices (s : State) (x : Scheduler) :
    (s.withSched x).notices = s.notices := rfl
@[simp] theorem withSched_port (s : State) (x : Scheduler) :
    (s.withSched x).port = s.port := rfl
@[simp] theorem withSched_sent (s : State) (x : Scheduler) :
    (s.withSched x).sent = s.sent := rfl
@[simp] theorem withSched_due (s : State) (x : Scheduler) :
    (s.withSched x).due = s.due := rfl
@[simp] theorem withSched_draws (s : State) (x : Scheduler) :
    (s.withSched x).draws = s.draws := rfl
@[simp] theorem withSched_pending (s : State) (x : Scheduler) :
    (s.withSched x).pending = s.pending := rfl

/-! ### withLog -/

@[simp] theorem withLog_time (s : State) (x : SpeechLog) :
    (s.withLog x).time = s.time := rfl
@[simp] theorem withLog_links (s : State) (x : SpeechLog) :
    (s.withLog x).links = s.links := rfl
@[simp] theorem withLog_audio (s : State) (x : SpeechLog) :
    (s.withLog x).audio = s.audio := rfl
@[simp] theorem withLog_seats (s : State) (x : SpeechLog) :
    (s.withLog x).seats = s.seats := rfl
@[simp] theorem withLog_seatTable (s : State) (x : SpeechLog) :
    (s.withLog x).seatTable = s.seatTable := rfl
@[simp] theorem withLog_floor (s : State) (x : SpeechLog) :
    (s.withLog x).floor = s.floor := rfl
@[simp] theorem withLog_alert (s : State) (x : SpeechLog) :
    (s.withLog x).alert = s.alert := rfl
@[simp] theorem withLog_mixer (s : State) (x : SpeechLog) :
    (s.withLog x).mixer = s.mixer := rfl
@[simp] theorem withLog_gate (s : State) (x : SpeechLog) :
    (s.withLog x).gate = s.gate := rfl
@[simp] theorem withLog_screens (s : State) (x : SpeechLog) :
    (s.withLog x).screens = s.screens := rfl
@[simp] theorem withLog_displays (s : State) (x : SpeechLog) :
    (s.withLog x).displays = s.displays := rfl
@[simp] theorem withLog_clock (s : State) (x : SpeechLog) :
    (s.withLog x).clock = s.clock := rfl
@[simp] theorem withLog_sched (s : State) (x : SpeechLog) :
    (s.withLog x).sched = s.sched := rfl
@[simp] theorem withLog_log (s : State) (x : SpeechLog) :
    (s.withLog x).log = x := rfl
@[simp] theorem withLog_notices (s : State) (x : SpeechLog) :
    (s.withLog x).notices = s.notices := rfl
@[simp] theorem withLog_port (s : State) (x : SpeechLog) :
    (s.withLog x).port = s.port := rfl
@[simp] theorem withLog_sent (s : State) (x : SpeechLog) :
    (s.withLog x).sent = s.sent := rfl
@[simp] theorem withLog_due (s : State) (x : SpeechLog) :
    (s.withLog x).due = s.due := rfl
@[simp] theorem withLog_draws (s : State) (x : SpeechLog) :
    (s.withLog x).draws = s.draws := rfl
@[simp] theorem withLog_pending (s : State) (x : SpeechLog) :
    (s.withLog x).pending = s.pending := rfl

/-! ### withNotices -/

@[simp] theorem withNotices_time (s : State) (x : Notices) :
    (s.withNotices x).time = s.time := rfl
@[simp] theorem withNotices_links (s : State) (x : Notices) :
    (s.withNotices x).links = s.links := rfl
@[simp] theorem withNotices_audio (s : State) (x : Notices) :
    (s.withNotices x).audio = s.audio := rfl
@[simp] theorem withNotices_seats (s : State) (x : Notices) :
    (s.withNotices x).seats = s.seats := rfl
@[simp] theorem withNotices_seatTable (s : State) (x : Notices) :
    (s.withNotices x).seatTable = s.seatTable := rfl
@[simp] theorem withNotices_floor (s : State) (x : Notices) :
    (s.withNotices x).floor = s.floor := rfl
@[simp] theorem withNotices_alert (s : State) (x : Notices) :
    (s.withNotices x).alert = s.alert := rfl
@[simp] theorem withNotices_mixer (s : State) (x : Notices) :
    (s.withNotices x).mixer = s.mixer := rfl
@[simp] theorem withNotices_gate (s : State) (x : Notices) :
    (s.withNotices x).gate = s.gate := rfl
@[simp] theorem withNotices_screens (s : State) (x : Notices) :
    (s.withNotices x).screens = s.screens := rfl
@[simp] theorem withNotices_displays (s : State) (x : Notices) :
    (s.withNotices x).displays = s.displays := rfl
@[simp] theorem withNotices_clock (s : State) (x : Notices) :
    (s.withNotices x).clock = s.clock := rfl
@[simp] theorem withNotices_sched (s : State) (x : Notices) :
    (s.withNotices x).sched = s.sched := rfl
@[simp] theorem withNotices_log (s : State) (x : Notices) :
    (s.withNotices x).log = s.log := rfl
@[simp] theorem withNotices_notices (s : State) (x : Notices) :
    (s.withNotices x).notices = x := rfl
@[simp] theorem withNotices_port (s : State) (x : Notices) :
    (s.withNotices x).port = s.port := rfl
@[simp] theorem withNotices_sent (s : State) (x : Notices) :
    (s.withNotices x).sent = s.sent := rfl
@[simp] theorem withNotices_due (s : State) (x : Notices) :
    (s.withNotices x).due = s.due := rfl
@[simp] theorem withNotices_draws (s : State) (x : Notices) :
    (s.withNotices x).draws = s.draws := rfl
@[simp] theorem withNotices_pending (s : State) (x : Notices) :
    (s.withNotices x).pending = s.pending := rfl

/-! ### withPort -/

@[simp] theorem withPort_time (s : State) (x : Port) :
    (s.withPort x).time = s.time := rfl
@[simp] theorem withPort_links (s : State) (x : Port) :
    (s.withPort x).links = s.links := rfl
@[simp] theorem withPort_audio (s : State) (x : Port) :
    (s.withPort x).audio = s.audio := rfl
@[simp] theorem withPort_seats (s : State) (x : Port) :
    (s.withPort x).seats = s.seats := rfl
@[simp] theorem withPort_seatTable (s : State) (x : Port) :
    (s.withPort x).seatTable = s.seatTable := rfl
@[simp] theorem withPort_floor (s : State) (x : Port) :
    (s.withPort x).floor = s.floor := rfl
@[simp] theorem withPort_alert (s : State) (x : Port) :
    (s.withPort x).alert = s.alert := rfl
@[simp] theorem withPort_mixer (s : State) (x : Port) :
    (s.withPort x).mixer = s.mixer := rfl
@[simp] theorem withPort_gate (s : State) (x : Port) :
    (s.withPort x).gate = s.gate := rfl
@[simp] theorem withPort_screens (s : State) (x : Port) :
    (s.withPort x).screens = s.screens := rfl
@[simp] theorem withPort_displays (s : State) (x : Port) :
    (s.withPort x).displays = s.displays := rfl
@[simp] theorem withPort_clock (s : State) (x : Port) :
    (s.withPort x).clock = s.clock := rfl
@[simp] theorem withPort_sched (s : State) (x : Port) :
    (s.withPort x).sched = s.sched := rfl
@[simp] theorem withPort_log (s : State) (x : Port) :
    (s.withPort x).log = s.log := rfl
@[simp] theorem withPort_notices (s : State) (x : Port) :
    (s.withPort x).notices = s.notices := rfl
@[simp] theorem withPort_port (s : State) (x : Port) :
    (s.withPort x).port = x := rfl
@[simp] theorem withPort_sent (s : State) (x : Port) :
    (s.withPort x).sent = s.sent := rfl
@[simp] theorem withPort_due (s : State) (x : Port) :
    (s.withPort x).due = s.due := rfl
@[simp] theorem withPort_draws (s : State) (x : Port) :
    (s.withPort x).draws = s.draws := rfl
@[simp] theorem withPort_pending (s : State) (x : Port) :
    (s.withPort x).pending = s.pending := rfl

/-! ### withSent -/

@[simp] theorem withSent_time (s : State) (x : Sent) :
    (s.withSent x).time = s.time := rfl
@[simp] theorem withSent_links (s : State) (x : Sent) :
    (s.withSent x).links = s.links := rfl
@[simp] theorem withSent_audio (s : State) (x : Sent) :
    (s.withSent x).audio = s.audio := rfl
@[simp] theorem withSent_seats (s : State) (x : Sent) :
    (s.withSent x).seats = s.seats := rfl
@[simp] theorem withSent_seatTable (s : State) (x : Sent) :
    (s.withSent x).seatTable = s.seatTable := rfl
@[simp] theorem withSent_floor (s : State) (x : Sent) :
    (s.withSent x).floor = s.floor := rfl
@[simp] theorem withSent_alert (s : State) (x : Sent) :
    (s.withSent x).alert = s.alert := rfl
@[simp] theorem withSent_mixer (s : State) (x : Sent) :
    (s.withSent x).mixer = s.mixer := rfl
@[simp] theorem withSent_gate (s : State) (x : Sent) :
    (s.withSent x).gate = s.gate := rfl
@[simp] theorem withSent_screens (s : State) (x : Sent) :
    (s.withSent x).screens = s.screens := rfl
@[simp] theorem withSent_displays (s : State) (x : Sent) :
    (s.withSent x).displays = s.displays := rfl
@[simp] theorem withSent_clock (s : State) (x : Sent) :
    (s.withSent x).clock = s.clock := rfl
@[simp] theorem withSent_sched (s : State) (x : Sent) :
    (s.withSent x).sched = s.sched := rfl
@[simp] theorem withSent_log (s : State) (x : Sent) :
    (s.withSent x).log = s.log := rfl
@[simp] theorem withSent_notices (s : State) (x : Sent) :
    (s.withSent x).notices = s.notices := rfl
@[simp] theorem withSent_port (s : State) (x : Sent) :
    (s.withSent x).port = s.port := rfl
@[simp] theorem withSent_sent (s : State) (x : Sent) :
    (s.withSent x).sent = x := rfl
@[simp] theorem withSent_due (s : State) (x : Sent) :
    (s.withSent x).due = s.due := rfl
@[simp] theorem withSent_draws (s : State) (x : Sent) :
    (s.withSent x).draws = s.draws := rfl
@[simp] theorem withSent_pending (s : State) (x : Sent) :
    (s.withSent x).pending = s.pending := rfl

/-! ### withDue -/

@[simp] theorem withDue_time (s : State) (x : Due) :
    (s.withDue x).time = s.time := rfl
@[simp] theorem withDue_links (s : State) (x : Due) :
    (s.withDue x).links = s.links := rfl
@[simp] theorem withDue_audio (s : State) (x : Due) :
    (s.withDue x).audio = s.audio := rfl
@[simp] theorem withDue_seats (s : State) (x : Due) :
    (s.withDue x).seats = s.seats := rfl
@[simp] theorem withDue_seatTable (s : State) (x : Due) :
    (s.withDue x).seatTable = s.seatTable := rfl
@[simp] theorem withDue_floor (s : State) (x : Due) :
    (s.withDue x).floor = s.floor := rfl
@[simp] theorem withDue_alert (s : State) (x : Due) :
    (s.withDue x).alert = s.alert := rfl
@[simp] theorem withDue_mixer (s : State) (x : Due) :
    (s.withDue x).mixer = s.mixer := rfl
@[simp] theorem withDue_gate (s : State) (x : Due) :
    (s.withDue x).gate = s.gate := rfl
@[simp] theorem withDue_screens (s : State) (x : Due) :
    (s.withDue x).screens = s.screens := rfl
@[simp] theorem withDue_displays (s : State) (x : Due) :
    (s.withDue x).displays = s.displays := rfl
@[simp] theorem withDue_clock (s : State) (x : Due) :
    (s.withDue x).clock = s.clock := rfl
@[simp] theorem withDue_sched (s : State) (x : Due) :
    (s.withDue x).sched = s.sched := rfl
@[simp] theorem withDue_log (s : State) (x : Due) :
    (s.withDue x).log = s.log := rfl
@[simp] theorem withDue_notices (s : State) (x : Due) :
    (s.withDue x).notices = s.notices := rfl
@[simp] theorem withDue_port (s : State) (x : Due) :
    (s.withDue x).port = s.port := rfl
@[simp] theorem withDue_sent (s : State) (x : Due) :
    (s.withDue x).sent = s.sent := rfl
@[simp] theorem withDue_due (s : State) (x : Due) :
    (s.withDue x).due = x := rfl
@[simp] theorem withDue_draws (s : State) (x : Due) :
    (s.withDue x).draws = s.draws := rfl
@[simp] theorem withDue_pending (s : State) (x : Due) :
    (s.withDue x).pending = s.pending := rfl

/-! ### withDraws -/

@[simp] theorem withDraws_time (s : State) (x : Nat) :
    (s.withDraws x).time = s.time := rfl
@[simp] theorem withDraws_links (s : State) (x : Nat) :
    (s.withDraws x).links = s.links := rfl
@[simp] theorem withDraws_audio (s : State) (x : Nat) :
    (s.withDraws x).audio = s.audio := rfl
@[simp] theorem withDraws_seats (s : State) (x : Nat) :
    (s.withDraws x).seats = s.seats := rfl
@[simp] theorem withDraws_seatTable (s : State) (x : Nat) :
    (s.withDraws x).seatTable = s.seatTable := rfl
@[simp] theorem withDraws_floor (s : State) (x : Nat) :
    (s.withDraws x).floor = s.floor := rfl
@[simp] theorem withDraws_alert (s : State) (x : Nat) :
    (s.withDraws x).alert = s.alert := rfl
@[simp] theorem withDraws_mixer (s : State) (x : Nat) :
    (s.withDraws x).mixer = s.mixer := rfl
@[simp] theorem withDraws_gate (s : State) (x : Nat) :
    (s.withDraws x).gate = s.gate := rfl
@[simp] theorem withDraws_screens (s : State) (x : Nat) :
    (s.withDraws x).screens = s.screens := rfl
@[simp] theorem withDraws_displays (s : State) (x : Nat) :
    (s.withDraws x).displays = s.displays := rfl
@[simp] theorem withDraws_clock (s : State) (x : Nat) :
    (s.withDraws x).clock = s.clock := rfl
@[simp] theorem withDraws_sched (s : State) (x : Nat) :
    (s.withDraws x).sched = s.sched := rfl
@[simp] theorem withDraws_log (s : State) (x : Nat) :
    (s.withDraws x).log = s.log := rfl
@[simp] theorem withDraws_notices (s : State) (x : Nat) :
    (s.withDraws x).notices = s.notices := rfl
@[simp] theorem withDraws_port (s : State) (x : Nat) :
    (s.withDraws x).port = s.port := rfl
@[simp] theorem withDraws_sent (s : State) (x : Nat) :
    (s.withDraws x).sent = s.sent := rfl
@[simp] theorem withDraws_due (s : State) (x : Nat) :
    (s.withDraws x).due = s.due := rfl
@[simp] theorem withDraws_draws (s : State) (x : Nat) :
    (s.withDraws x).draws = x := rfl
@[simp] theorem withDraws_pending (s : State) (x : Nat) :
    (s.withDraws x).pending = s.pending := rfl

/-! ### withPending -/

@[simp] theorem withPending_time (s : State) (x : List Instr) :
    (s.withPending x).time = s.time := rfl
@[simp] theorem withPending_links (s : State) (x : List Instr) :
    (s.withPending x).links = s.links := rfl
@[simp] theorem withPending_audio (s : State) (x : List Instr) :
    (s.withPending x).audio = s.audio := rfl
@[simp] theorem withPending_seats (s : State) (x : List Instr) :
    (s.withPending x).seats = s.seats := rfl
@[simp] theorem withPending_seatTable (s : State) (x : List Instr) :
    (s.withPending x).seatTable = s.seatTable := rfl
@[simp] theorem withPending_floor (s : State) (x : List Instr) :
    (s.withPending x).floor = s.floor := rfl
@[simp] theorem withPending_alert (s : State) (x : List Instr) :
    (s.withPending x).alert = s.alert := rfl
@[simp] theorem withPending_mixer (s : State) (x : List Instr) :
    (s.withPending x).mixer = s.mixer := rfl
@[simp] theorem withPending_gate (s : State) (x : List Instr) :
    (s.withPending x).gate = s.gate := rfl
@[simp] theorem withPending_screens (s : State) (x : List Instr) :
    (s.withPending x).screens = s.screens := rfl
@[simp] theorem withPending_displays (s : State) (x : List Instr) :
    (s.withPending x).displays = s.displays := rfl
@[simp] theorem withPending_clock (s : State) (x : List Instr) :
    (s.withPending x).clock = s.clock := rfl
@[simp] theorem withPending_sched (s : State) (x : List Instr) :
    (s.withPending x).sched = s.sched := rfl
@[simp] theorem withPending_log (s : State) (x : List Instr) :
    (s.withPending x).log = s.log := rfl
@[simp] theorem withPending_notices (s : State) (x : List Instr) :
    (s.withPending x).notices = s.notices := rfl
@[simp] theorem withPending_port (s : State) (x : List Instr) :
    (s.withPending x).port = s.port := rfl
@[simp] theorem withPending_sent (s : State) (x : List Instr) :
    (s.withPending x).sent = s.sent := rfl
@[simp] theorem withPending_due (s : State) (x : List Instr) :
    (s.withPending x).due = s.due := rfl
@[simp] theorem withPending_draws (s : State) (x : List Instr) :
    (s.withPending x).draws = s.draws := rfl
@[simp] theorem withPending_pending (s : State) (x : List Instr) :
    (s.withPending x).pending = x := rfl

end Sys2Proof.Machine
end

