-- ==== Sys2Proof/Laws/Port.lean ====
section
/-!
SUPPORT. What the shared shell of every command can do, said once: a command that is carried out gives its owner's
state with the answer at the tail of the Answer FIFO; any other leaves the state as it is.
-/

namespace Sys2Proof.Machine

/-- A command that is ready is taken from the head of the Command FIFO. -/
theorem takeCommand_of_ready {i : Instr} {s : State} {rest : List CommandCell} (h : Ready i s rest) :
    takeCommand i s = some (s.withPort { s.port with fifo := rest }) := by
  obtain ⟨hl, ⟨hf, ht, rfl⟩ | ⟨c, hf, hc⟩⟩ := h
  · have e : s.withPort { s.port with fifo := [] } = s := by rw [← hf]; rfl
    simp [takeCommand, hl, hf, ht, e]
  · simp [takeCommand, hl, hf, hc]

/-- Whatever `takeCommand` answers, the command was ready. -/
theorem ready_of_takeCommand {i : Instr} {s t : State} (h : takeCommand i s = some t) :
    ∃ rest, Ready i s rest ∧ t = s.withPort { s.port with fifo := rest } := by
  unfold takeCommand at h
  split at h
  · rename_i hl
    split at h
    · rename_i hf
      have e : s.withPort { s.port with fifo := [] } = s := by rw [← hf]; rfl
      split at h
      · rename_i ht
        cases h
        exact ⟨[], ⟨hl, Or.inl ⟨hf, ht, rfl⟩⟩, e.symm⟩
      · cases h
    · rename_i c rest hf
      split at h
      · rename_i hc
        cases h
        exact ⟨rest, ⟨hl, Or.inr ⟨c, hf, hc⟩⟩, rfl⟩
      · cases h
  · cases h

/-- One execution (R201). -/
theorem runCommand_of_ready {i : Instr} {s : State} {rest : List CommandCell} (h : Ready i s rest)
    (tag code : Byte) (act : State → Reply) :
    runCommand i tag code act s =
      placeAnswer
        { tag := tag, code := code, answer := (act (s.withPort { s.port with fifo := rest })).code
          result := (act (s.withPort { s.port with fifo := rest })).result }
        (act (s.withPort { s.port with fifo := rest })).state := by
  simp [runCommand, takeCommand_of_ready h]

/-- What `runCommand` can do: nothing, or one execution of a ready command. -/
theorem runCommand_cases (i : Instr) (tag code : Byte) (act : State → Reply) (s : State) :
    runCommand i tag code act s = s ∨
      ∃ rest, Ready i s rest ∧
        runCommand i tag code act s =
          placeAnswer
            { tag := tag, code := code, answer := (act (s.withPort { s.port with fifo := rest })).code
              result := (act (s.withPort { s.port with fifo := rest })).result }
            (act (s.withPort { s.port with fifo := rest })).state := by
  cases ht : takeCommand i s with
  | none => left; simp [runCommand, ht]
  | some t =>
    obtain ⟨rest, hr, -⟩ := ready_of_takeCommand ht
    exact Or.inr ⟨rest, hr, runCommand_of_ready hr tag code act⟩

/-- A command with eight answers waiting is not taken (R201). -/
theorem takeCommand_of_full {i : Instr} {s : State} (h : 8 ≤ s.port.answers.length) :
    takeCommand i s = none := by
  have : ¬ s.port.answers.length < 8 := by omega
  simp [takeCommand, this]

theorem runCommand_of_full {i : Instr} {s : State} (h : 8 ≤ s.port.answers.length) (tag code : Byte)
    (act : State → Reply) : runCommand i tag code act s = s := by
  simp [runCommand, takeCommand_of_full h]

/-- An owner that leaves the port alone: the port after the execution. -/
theorem placeAnswer_port (a : Answer) (s : State) :
    (placeAnswer a s).port = { s.port with answers := s.port.answers ++ [a] } := rfl

end Sys2Proof.Machine
end

