-- ==== Sys2Proof/Laws/Basics.lean ====
section
/-!
SUPPORT. Lemmas of the shared operations that every block uses: tables, indexes, the newest record, and the shell of a
command in the terms of Safety.lean.
-/

namespace Sys2Proof.Machine

theorem index?_val {k : Nat} (i : Fin k) : index? k i.val = some i := by simp [index?]

theorem index?_of_le {k n : Nat} (h : k ≤ n) : index? k n = none := by simp [index?]; omega

theorem look_upd {α : Type} {k : Nat} (v : Vector α k) (i j : Fin k) (x : α) :
    look (upd v i x) j = if i = j then x else look v j := by
  simp [look, upd, Vector.getElem_set, Fin.ext_iff]

@[simp] theorem look_upd_self {α : Type} {k : Nat} (v : Vector α k) (i : Fin k) (x : α) :
    look (upd v i x) i = x := by simp [look_upd]

@[simp] theorem upd_look {α : Type} {k : Nat} (v : Vector α k) (i : Fin k) : upd v i (look v i) = v := by
  simp [upd, look]

@[simp] theorem upd_upd {α : Type} {k : Nat} (v : Vector α k) (i : Fin k) (x y : α) :
    upd (upd v i x) i y = upd v i y := by
  apply Vector.ext; intro j hj; simp [upd, Vector.getElem_set]

/-- The newest record after an append is the one appended (R186, R187). -/
theorem newestIs_appendWith (event : LogEvent) (seat : Option Seat) (booking : Option Nat) (s : State) :
    newestIs (appendWith event seat booking s) event seat booking := by
  simp [newestIs, appendWith, pushRecord]; split <;> simp

theorem newestIs_record (event : LogEvent) (seat : Option Seat) (s : State) :
    newestIs (record event seat s) event seat (meetingId s.floor.meeting) :=
  newestIs_appendWith _ _ _ _

/-- One execution of a ready command, in the terms of the statements (R201). -/
theorem runCommand_taken {i : Instr} {s : State} {rest : List CommandCell} (h : Ready i s rest)
    (tag code : Byte) (act : State → Reply) :
    runCommand i tag code act s =
      answered tag code (act (taken s rest)).code (act (taken s rest)).result
        (act (taken s rest)).state :=
  runCommand_of_ready h tag code act

end Sys2Proof.Machine
end

