-- ==== Sys2Proof/Laws/Floor.lean ====
section
/-!
SUPPORT. Every operation of the Floor Controller and of the Speaking Timers keeps all blocks but the floor, the
seat units, the log, the notices and the Voice Gate: one lemma per operation, so that no frame is proved by
unfolding twice.
-/

namespace Sys2Proof.Machine

theorem floorFrame_refl (s : State) : floorFrame s s :=
  ⟨rfl, rfl, rfl, rfl, rfl, rfl, rfl, rfl, rfl, rfl, rfl, rfl, rfl, rfl, rfl⟩

theorem floorFrame_trans {s t u : State} (h : floorFrame s t) (k : floorFrame t u) : floorFrame s u :=
  ⟨k.time.trans h.time, k.links.trans h.links, k.audio.trans h.audio, k.seatTable.trans h.seatTable,
    k.alert.trans h.alert, k.mixer.trans h.mixer, k.screens.trans h.screens,
    k.displays.trans h.displays, k.clock.trans h.clock, k.sched.trans h.sched, k.port.trans h.port,
    k.sent.trans h.sent, k.due.trans h.due, k.draws.trans h.draws, k.pending.trans h.pending⟩

theorem floorFrame_withFloor (s : State) (x : Floor) : floorFrame s (s.withFloor x) :=
  ⟨rfl, rfl, rfl, rfl, rfl, rfl, rfl, rfl, rfl, rfl, rfl, rfl, rfl, rfl, rfl⟩

theorem floorFrame_withGate (s : State) (x : Gate) : floorFrame s (s.withGate x) :=
  ⟨rfl, rfl, rfl, rfl, rfl, rfl, rfl, rfl, rfl, rfl, rfl, rfl, rfl, rfl, rfl⟩

theorem floorFrame_withSeats (s : State) (x : Vector SeatUnit 64) : floorFrame s (s.withSeats x) :=
  ⟨rfl, rfl, rfl, rfl, rfl, rfl, rfl, rfl, rfl, rfl, rfl, rfl, rfl, rfl, rfl⟩

theorem floorFrame_appendWith (e : LogEvent) (n : Option Seat) (b : Option Nat) (s : State) :
    floorFrame s (appendWith e n b s) :=
  ⟨rfl, rfl, rfl, rfl, rfl, rfl, rfl, rfl, rfl, rfl, rfl, rfl, rfl, rfl, rfl⟩

theorem floorFrame_record (e : LogEvent) (n : Option Seat) (s : State) : floorFrame s (record e n s) :=
  floorFrame_appendWith e n _ s

/-- A record of a state whose floor alone was written. -/
theorem floorFrame_recordFloor (e : LogEvent) (n : Option Seat) (x : Floor) (s : State) :
    floorFrame s (record e n (s.withFloor x)) :=
  floorFrame_trans (floorFrame_withFloor s x) (floorFrame_record e n _)

theorem floorFrame_refuse (n : Seat) (s : State) : floorFrame s (refuse n s) :=
  floorFrame_withSeats s _

/-- A fold of framed steps is framed. -/
theorem floorFrame_foldl {α : Type} (f : State → α → State) (h : ∀ s a, floorFrame s (f s a))
    (l : List α) (s : State) : floorFrame s (l.foldl f s) := by
  induction l generalizing s with
  | nil => exact floorFrame_refl s
  | cons a l ih => exact floorFrame_trans (h s a) (ih (f s a))

/-! ### Lists -/

theorem floorFrame_closeOpen (r : CloseReason) (n : Seat) (s : State) :
    floorFrame s (closeOpen r n s) := by
  unfold closeOpen; split
  · exact floorFrame_recordFloor _ _ _ s
  · exact floorFrame_refl s

theorem floorFrame_closeVoiceHold (n : Seat) (s : State) : floorFrame s (closeVoiceHold n s) := by
  unfold closeVoiceHold; split
  · exact floorFrame_recordFloor _ _ _ s
  · exact floorFrame_refl s

theorem floorFrame_closeShadow (r : CloseReason) (n : Seat) (s : State) :
    floorFrame s (closeShadow r n s) := by
  unfold closeShadow; split
  · exact floorFrame_recordFloor _ _ _ s
  · exact floorFrame_refl s

theorem floorFrame_leaveQueue (r : CancelReason) (n : Seat) (s : State) :
    floorFrame s (leaveQueue r n s) := by
  unfold leaveQueue; split
  · exact floorFrame_recordFloor _ _ _ s
  · exact floorFrame_refl s

theorem floorFrame_arm (n : Seat) (s : State) : floorFrame s (arm n s) := floorFrame_withFloor s _

theorem floorFrame_disarm (n : Seat) (s : State) : floorFrame s (disarm n s) := floorFrame_withFloor s _

theorem floorFrame_joinQueue (n : Seat) (st : Stamp) (s : State) : floorFrame s (joinQueue n st s) :=
  floorFrame_recordFloor _ _ _ s

theorem floorFrame_clearQueue (s : State) : floorFrame s (clearQueue s) := by
  unfold clearQueue; split
  · exact floorFrame_refl s
  · exact floorFrame_recordFloor _ _ _ s

theorem floorFrame_clearArming (s : State) : floorFrame s (clearArming s) := floorFrame_withFloor s _

theorem floorFrame_clearHolders (s : State) : floorFrame s (clearHolders s) := by
  unfold clearHolders; split
  · exact floorFrame_recordFloor _ _ _ s
  · exact floorFrame_refl s

theorem floorFrame_closeOpenSeats (r : CloseReason) (l : List Seat) (s : State) :
    floorFrame s (closeOpenSeats r l s) :=
  floorFrame_foldl _ (fun t n => floorFrame_closeOpen r n t) l s

theorem floorFrame_closeShadowSeats (r : CloseReason) (l : List Seat) (s : State) :
    floorFrame s (closeShadowSeats r l s) :=
  floorFrame_foldl _ (fun t n => floorFrame_closeShadow r n t) l s

/-! ### Timers -/

theorem floorFrame_checkWarning (n : Seat) (s : State) : floorFrame s (checkWarning n s) := by
  unfold checkWarning
  split
  · split
    · exact floorFrame_recordFloor _ _ _ s
    · exact floorFrame_refl s
  · exact floorFrame_refl s

theorem floorFrame_limitClose (n : Seat) (s : State) : floorFrame s (limitClose n s) := by
  unfold limitClose
  split
  · split
    · exact floorFrame_closeOpen _ n s
    · exact floorFrame_refl s
  · exact floorFrame_refl s

theorem floorFrame_limitNotify (n : Seat) (s : State) : floorFrame s (limitNotify n s) := by
  unfold limitNotify
  split
  · split
    · exact floorFrame_recordFloor _ _ _ s
    · exact floorFrame_refl s
  · exact floorFrame_refl s

theorem floorFrame_checkLimit (n : Seat) (s : State) : floorFrame s (checkLimit n s) := by
  unfold checkLimit; split
  · exact floorFrame_limitClose n s
  · exact floorFrame_limitNotify n s

theorem floorFrame_checkTimer (n : Seat) (s : State) : floorFrame s (checkTimer n s) :=
  floorFrame_trans (floorFrame_checkWarning n s) (floorFrame_checkLimit n _)

theorem floorFrame_checkTimers (l : List Seat) (s : State) : floorFrame s (checkTimers l s) :=
  floorFrame_foldl _ (fun t n => floorFrame_checkTimer n t) l s

theorem floorFrame_recomputeAll (s : State) : floorFrame s (recomputeAll s) :=
  floorFrame_trans (floorFrame_withFloor s _) (floorFrame_checkTimers _ _)

theorem floorFrame_recomputeSeat (n : Seat) (s : State) : floorFrame s (recomputeSeat n s) :=
  floorFrame_trans (floorFrame_withFloor s _) (floorFrame_checkTimer n _)

theorem floorFrame_oweCounts (s : State) : floorFrame s (oweCounts s) := floorFrame_withFloor s _

/-! ### Opening and advancing -/

theorem floorFrame_joinOpen (h : How) (n : Seat) (s : State) : floorFrame s (joinOpen h n s) :=
  floorFrame_trans (floorFrame_recordFloor _ _ _ s) (floorFrame_checkTimer n _)

theorem floorFrame_restFilters (s : State) : floorFrame s (restFilters s) := floorFrame_withGate s _

theorem floorFrame_advanceOnce {s t : State} (h : advanceOnce s = some t) : floorFrame s t := by
  have key : ∀ how : How, ∀ o : Option Seat, o.map (fun n => joinOpen how n s) = some t →
      floorFrame s t := by
    intro how o ho
    cases o with
    | none => cases ho
    | some n => cases ho; exact floorFrame_joinOpen how n s
  have head : ∀ how : How, s.floor.queue.head?.map (fun r => joinOpen how r.seat s) = some t →
      floorFrame s t := by
    intro how ho
    exact key how (s.floor.queue.head?.map Request.seat) (by simpa [Option.map_map] using ho)
  unfold advanceOnce at h
  split at h
  · split at h
    · exact head _ h
    · split at h
      · exact head _ h
      · cases h
    · cases h
    · exact key _ _ h
  · cases h

theorem floorFrame_advanceUpTo (k : Nat) (s : State) : floorFrame s (advanceUpTo k s) := by
  induction k generalizing s with
  | zero => exact floorFrame_refl s
  | succ k ih =>
    unfold advanceUpTo
    split
    · rename_i t ht
      exact floorFrame_trans (floorFrame_advanceOnce ht) (ih t)
    · exact floorFrame_refl s

theorem floorFrame_afterFloor (s : State) : floorFrame s (afterFloor s) :=
  floorFrame_trans (floorFrame_advanceUpTo _ s) (floorFrame_restFilters _)

theorem floorFrame_takeOut (c : CloseReason) (r : CancelReason) (n : Seat) (s : State) :
    floorFrame s (takeOut c r n s) := by
  unfold takeOut; split
  · exact floorFrame_closeOpen c n s
  · exact floorFrame_leaveQueue r n s
  · exact floorFrame_closeShadow c n s
  · exact floorFrame_disarm n s
  · exact floorFrame_refl s

/-! ### Holds -/

theorem floorFrame_holdStart (o : Option Seat) (s : State) : floorFrame s (holdStart o s) :=
  floorFrame_recordFloor _ _ _ s

theorem floorFrame_voiceCheck (s : State) (n : Seat) : floorFrame s (voiceCheck s n) := by
  unfold voiceCheck; split
  · exact floorFrame_refl s
  · exact floorFrame_closeVoiceHold n s

theorem floorFrame_holdEnd (s : State) : floorFrame s (holdEnd s) := by
  have h4 : ∀ room back, floorFrame s (checkTimers (seatsOf back)
      (record (.holdEnd back.length) none
        ((closeShadowSeats .restoreFull (seatsOf (s.floor.shadow.drop room))
          (back.foldl restoreEntry s)).withFloor
          { (closeShadowSeats .restoreFull (seatsOf (s.floor.shadow.drop room))
              (back.foldl restoreEntry s)).floor with phase := .running }))) := by
    intro room back
    exact floorFrame_trans (floorFrame_foldl _ (fun t e => floorFrame_recordFloor _ _ _ t) back s)
      (floorFrame_trans (floorFrame_closeShadowSeats _ _ _)
        (floorFrame_trans (floorFrame_recordFloor _ _ _ _) (floorFrame_checkTimers _ _)))
  refine floorFrame_trans ?_ (floorFrame_afterFloor _)
  dsimp only
  split
  · exact floorFrame_trans (h4 _ _) (floorFrame_foldl _ floorFrame_voiceCheck _ _)
  · exact h4 _ _

theorem floorFrame_endHoldIfFree (s : State) : floorFrame s (endHoldIfFree s) := by
  unfold endHoldIfFree; split
  · exact floorFrame_holdEnd s
  · exact floorFrame_refl s

theorem floorFrame_leaveHolders (n : Seat) (s : State) : floorFrame s (leaveHolders n s) := by
  unfold leaveHolders; split
  · exact floorFrame_trans (floorFrame_withFloor s _) (floorFrame_endHoldIfFree _)
  · exact floorFrame_refl s

/-! ### Presses -/

theorem floorFrame_pressQueue (n : Seat) (st : Stamp) (s : State) : floorFrame s (pressQueue n st s) := by
  unfold pressQueue; split
  · exact floorFrame_joinQueue n st s
  · exact floorFrame_refuse n s

theorem floorFrame_overrideOpen (h : How) (n : Seat) (s : State) : floorFrame s (overrideOpen h n s) := by
  refine floorFrame_trans ?_ (floorFrame_joinOpen h n _)
  split
  · exact floorFrame_closeOpenSeats _ _ s
  · exact floorFrame_refl s

theorem floorFrame_delegatePress (n : Seat) (st : Stamp) (s : State) :
    floorFrame s (delegatePress n st s) := by
  unfold delegatePress
  split
  · split
    · exact floorFrame_joinOpen _ n s
    · exact floorFrame_pressQueue n st s
  · exact floorFrame_leaveQueue _ n s
  · exact floorFrame_closeOpen _ n s
  · exact floorFrame_pressQueue n st s
  · exact floorFrame_leaveQueue _ n s
  · exact floorFrame_closeOpen _ n s
  · exact floorFrame_overrideOpen _ n s
  · exact floorFrame_closeOpen _ n s
  · exact floorFrame_arm n s
  · exact floorFrame_disarm n s
  · exact floorFrame_closeOpen _ n s
  · exact floorFrame_refl s

theorem floorFrame_delegatePressHold (n : Seat) (st : Stamp) (s : State) :
    floorFrame s (delegatePressHold n st s) := by
  unfold delegatePressHold
  split
  · exact floorFrame_pressQueue n st s
  · exact floorFrame_pressQueue n st s
  · exact floorFrame_refuse n s
  · exact floorFrame_refuse n s
  · exact floorFrame_leaveQueue _ n s
  · exact floorFrame_leaveQueue _ n s
  · exact floorFrame_disarm n s
  · exact floorFrame_closeShadow _ n s
  · exact floorFrame_refl s

theorem floorFrame_chairPress (n : Seat) (s : State) : floorFrame s (chairPress n s) := by
  unfold chairPress; split
  · exact floorFrame_closeOpen _ n s
  · exact floorFrame_joinOpen _ n s

theorem floorFrame_grant {s t : State} (h : grant s = some t) : floorFrame s t := by
  unfold grant at h
  split at h
  · cases hq : s.floor.queue.head? with
    | none => simp [hq] at h
    | some r => simp [hq] at h; subst h; exact floorFrame_joinOpen _ _ s
  · cases h

theorem floorFrame_priorityPress (n : Seat) (s : State) : floorFrame s (priorityPress n s) := by
  unfold priorityPress
  dsimp only
  split
  · exact floorFrame_trans (floorFrame_withFloor s _) (floorFrame_holdStart _ _)
  · exact floorFrame_withFloor s _

theorem floorFrame_pressEffect (b : ButtonName) (n : Seat) (st : Stamp) (s : State) :
    floorFrame s (pressEffect b n st s) := by
  unfold pressEffect
  split
  · exact floorFrame_refuse n s
  · exact floorFrame_refuse n s
  · unfold pressRunning; split
    · exact floorFrame_delegatePress n st s
    · exact floorFrame_chairPress n s
    · cases hg : grant s with
      | none => exact floorFrame_refuse n s
      | some t => exact floorFrame_grant hg
    · exact floorFrame_priorityPress n s
    · exact floorFrame_refuse n s
  · unfold pressHold; split
    · exact floorFrame_delegatePressHold n st s
    · exact floorFrame_chairPress n s
    · exact floorFrame_priorityPress n s
    · exact floorFrame_refuse n s

theorem floorFrame_buttonEvent (b : ButtonName) (e : Bool) (n : Seat) (st : Stamp) (s : State) :
    floorFrame s (buttonEvent b e n st s) := by
  unfold buttonEvent
  cases e
  · refine floorFrame_trans ?_ (floorFrame_afterFloor _)
    simp only [Bool.false_eq_true, if_false]
    unfold releaseEffect; split
    · exact floorFrame_leaveHolders n s
    · exact floorFrame_refl s
  · exact floorFrame_trans (floorFrame_pressEffect b n st s) (floorFrame_afterFloor _)

/-! ### Setup changes, loss, the alert, matches -/

theorem floorFrame_emptyForMode (s : State) : floorFrame s (emptyForMode s) := by
  have h2 : floorFrame s (clearArming (clearQueue
      (closeOpenSeats .setup (delegateSeats s.floor) s))) :=
    floorFrame_trans (floorFrame_closeOpenSeats _ _ s)
      (floorFrame_trans (floorFrame_clearQueue _) (floorFrame_clearArming _))
  unfold emptyForMode
  dsimp only
  split
  · exact floorFrame_trans h2 (floorFrame_closeShadowSeats _ _ _)
  · exact h2

theorem floorFrame_trimOpen (s : State) : floorFrame s (trimOpen s) := by
  unfold trimOpen; split
  · exact floorFrame_closeOpenSeats _ _ s
  · exact floorFrame_refl s

theorem floorFrame_setupChange (f : FloorSetup) (s : State) : floorFrame s (setupChange f s) := by
  refine floorFrame_trans ?_ (floorFrame_trans (floorFrame_recomputeAll _) (floorFrame_afterFloor _))
  dsimp only
  split
  · exact floorFrame_trans (floorFrame_withFloor s _) (floorFrame_trimOpen _)
  · exact floorFrame_trans (floorFrame_emptyForMode s) (floorFrame_withFloor _ _)

theorem floorFrame_closeEverything (r : CloseReason) (s : State) : floorFrame s (closeEverything r s) :=
  floorFrame_trans (floorFrame_closeOpenSeats _ _ s) (floorFrame_closeShadowSeats _ _ _)

theorem floorFrame_floorSeatLost (n : Seat) (s : State) : floorFrame s (floorSeatLost n s) :=
  floorFrame_trans (floorFrame_takeOut _ _ n s)
    (floorFrame_trans (floorFrame_leaveHolders n _) (floorFrame_afterFloor _))

theorem floorFrame_alertEntry (s : State) : floorFrame s (alertEntry s) :=
  floorFrame_trans (floorFrame_closeEverything _ s)
    (floorFrame_trans (floorFrame_clearQueue _)
      (floorFrame_trans (floorFrame_clearArming _)
        (floorFrame_trans (floorFrame_clearHolders _)
          (floorFrame_trans (floorFrame_recordFloor _ _ _ _) (floorFrame_restFilters _)))))

theorem floorFrame_alertExit (s : State) : floorFrame s (alertExit s) :=
  floorFrame_trans (floorFrame_record _ _ s)
    (floorFrame_trans (floorFrame_withFloor _ _) (floorFrame_afterFloor _))

theorem floorFrame_takeCount (n : Seat) (s : State) : floorFrame s (takeCount n s) := by
  unfold takeCount; split
  · split
    · exact floorFrame_trans (floorFrame_withFloor s _)
        (floorFrame_trans (floorFrame_checkTimer n _) (floorFrame_afterFloor _))
    · exact floorFrame_refl s
  · exact floorFrame_refl s

theorem floorFrame_takeCounts (s : State) : floorFrame s (takeCounts s) :=
  floorFrame_foldl _ (fun t n => floorFrame_takeCount n t) _ s

end Sys2Proof.Machine
end

