-- ==== Sys2Proof/Laws/Lists.lean ====
section
/-!
SUPPORT. What each operation on the lists of the floor does, said once in the terms of Safety.lean (R30 to R32, R46, R54,
R59), and what a meeting signal leaves (R50).
-/

namespace Sys2Proof.Machine

/-! ### Mic states -/

theorem micState_opened {f : Floor} {n : Seat} :
    micState f n = .opened ↔ hasEntry f.openList n = true := by
  unfold micState
  by_cases h1 : hasEntry f.openList n <;> by_cases h2 : hasRequest f.queue n <;>
    by_cases h3 : hasEntry f.shadow n <;> by_cases h4 : n ∈ f.armed <;> simp_all

theorem hasRequest_of_waiting {f : Floor} {n : Seat} (h : micState f n = .waiting) :
    hasRequest f.queue n = true := by
  unfold micState at h
  by_cases h1 : hasEntry f.openList n <;> by_cases h2 : hasRequest f.queue n <;>
    by_cases h3 : hasEntry f.shadow n <;> by_cases h4 : n ∈ f.armed <;> simp_all

theorem hasEntry_of_held {f : Floor} {n : Seat} (h : micState f n = .held) :
    hasEntry f.shadow n = true := by
  unfold micState at h
  by_cases h1 : hasEntry f.openList n <;> by_cases h2 : hasRequest f.queue n <;>
    by_cases h3 : hasEntry f.shadow n <;> by_cases h4 : n ∈ f.armed <;> simp_all

theorem lists_of_off {f : Floor} {n : Seat} (h : micState f n = .off) :
    hasEntry f.openList n = false ∧ hasRequest f.queue n = false ∧ hasEntry f.shadow n = false ∧
      n ∉ f.armed := by
  unfold micState at h
  by_cases h1 : hasEntry f.openList n <;> by_cases h2 : hasRequest f.queue n <;>
    by_cases h3 : hasEntry f.shadow n <;> by_cases h4 : n ∈ f.armed <;> simp_all

/-! ### Joining and leaving -/

/-- A seat opens: it joins the Open List, and its new timer is checked (R31, R76). -/
theorem joinOpen_eq (how : How) (n : Seat) (s : State) :
    joinOpen how n s = checkTimer n (withOpened how n s) := by
  simp only [joinOpen, withOpened, freshEntry, comparesOf, newTimer, dropRequest, eraseSeat]
  congr 3
  by_cases h1 : effectiveRole s n = .chair <;> by_cases h2 : (look s.seatTable n).exempt = true <;>
    cases h3 : s.floor.setup.limit <;> simp_all

/-- A chair's new timer has no point, so its check does nothing (R75). -/
theorem checkTimer_withOpened_chair (how : How) (n : Seat) (s : State)
    (hc : effectiveRole s n = .chair) (he : hasEntry s.floor.openList n = false) :
    checkTimer n (withOpened how n s) = withOpened how n s := by
  have hf : s.floor.openList.find? (fun e => decide (e.seat = n)) = none := by
    simp [hasEntry] at he; simpa using he
  have h1 : openTimer (withOpened how n s).floor n = some (freshEntry s how n).timer := by
    simp [openTimer, withOpened, record, appendWith, hf, freshEntry]
  have h2 : checkWarning n (withOpened how n s) = withOpened how n s := by
    simp [checkWarning, h1, warnDue, freshEntry, hc, reached]
  simp only [checkTimer, h2, checkLimit]
  split <;> simp [limitClose, limitNotify, h1, limitDue, freshEntry, hc, reached]

theorem closeOpen_eq {r : CloseReason} {n : Seat} {s : State}
    (h : hasEntry s.floor.openList n = true) : closeOpen r n s = withClosed r n s := by
  simp [closeOpen, h, withClosed, dropSeat]

theorem closeShadow_eq {r : CloseReason} {n : Seat} {s : State}
    (h : hasEntry s.floor.shadow n = true) : closeShadow r n s = withUnheld r n s := by
  simp [closeShadow, h, withUnheld, dropSeat]

theorem leaveQueue_eq {r : CancelReason} {n : Seat} {s : State}
    (h : hasRequest s.floor.queue n = true) : leaveQueue r n s = withCancelled r n s := by
  simp [leaveQueue, h, withCancelled, dropRequest]

/-- OVERRIDE with every slot taken closes the oldest delegate entry first (R37). -/
theorem overrideOpen_full {how : How} {n : Seat} {s : State} {e : Entry}
    (h : delegates s.floor = s.floor.setup.maxOpen)
    (he : (s.floor.openList.filter (fun x => !x.chair)).head? = some e) :
    overrideOpen how n s = checkTimer n (withOpened how n (withClosed .overridden e.seat s)) := by
  obtain ⟨l, hl⟩ : ∃ l, s.floor.openList.filter (fun x => !x.chair) = e :: l := by
    cases hh : s.floor.openList.filter (fun x => !x.chair) with
    | nil => simp [hh] at he
    | cons a l => simp [hh] at he; subst he; exact ⟨l, rfl⟩
  have hm : e ∈ s.floor.openList :=
    (List.mem_filter.mp (by rw [hl]; exact List.mem_cons_self :
      e ∈ s.floor.openList.filter (fun x => !x.chair))).1
  have : hasEntry s.floor.openList e.seat = true := by simp [hasEntry]; exact ⟨e, hm, rfl⟩
  simp [overrideOpen, h, delegateSeats, hl, seatsOf, closeOpenSeats, closeOpen_eq this, joinOpen_eq]

/-! ### The order of the queue -/

/-- A request joins before every entry that orders after it (R32). -/
theorem insertRequest_split (now : Stamp) (r : Request) (l : List Request) :
    ∃ a b, l = a ++ b ∧ insertRequest now r l = a ++ r :: b ∧
      (∀ e ∈ a, ordersBefore now r e = false) ∧ (∀ e ∈ b.head?, ordersBefore now r e = true) := by
  induction l with
  | nil => exact ⟨[], [], rfl, rfl, by simp, by simp⟩
  | cons e l ih =>
    by_cases h : ordersBefore now r e = true
    · exact ⟨[], e :: l, rfl, by simp [insertRequest, h], by simp, by simp [h]⟩
    · obtain ⟨a, b, h1, h2, h3, h4⟩ := ih
      refine ⟨e :: a, b, by simp [h1], by simp [insertRequest, h, h2], ?_, h4⟩
      intro x hx
      rcases List.mem_cons.mp hx with rfl | hx
      · simpa using h
      · exact h3 x hx

theorem queuePosition_split (n : Seat) (x : Request) (hx : x.seat = n) (a b : List Request)
    (h : ∀ e ∈ a, e.seat ≠ n) : queuePosition n (a ++ x :: b) = a.length + 1 := by
  induction a with
  | nil => simp [queuePosition, hx]
  | cons e a ih =>
    have h1 : e.seat ≠ n := h e (by simp)
    have : hasRequest (a ++ x :: b) n = true := by simp [hasRequest, hx]
    simp [queuePosition, h1, this, ih (fun e he => h e (by simp [he]))]

/-! ### Closing several seats -/

theorem closeOpenSeats_floor (r : CloseReason) (l : List Seat) (s : State) :
    (closeOpenSeats r l s).floor =
      { s.floor with openList := s.floor.openList.filter (fun e => !l.contains e.seat) } := by
  induction l generalizing s with
  | nil => simp [closeOpenSeats]
  | cons n l ih =>
    show (closeOpenSeats r l (closeOpen r n s)).floor = _
    rw [ih]
    unfold closeOpen
    split
    · simp [record, appendWith, dropSeat, List.filter_filter]
      apply List.filter_congr; intro e _; exact Bool.and_comm _ _
    · rename_i h; simp [hasEntry] at h
      have : s.floor.openList.filter (fun e => !l.contains e.seat) =
          s.floor.openList.filter (fun e => !(n :: l).contains e.seat) := by
        apply List.filter_congr; intro e he; have := h e he; simp [this]
      rw [this]

theorem closeShadowSeats_floor (r : CloseReason) (l : List Seat) (s : State) :
    (closeShadowSeats r l s).floor =
      { s.floor with shadow := s.floor.shadow.filter (fun e => !l.contains e.seat) } := by
  induction l generalizing s with
  | nil => simp [closeShadowSeats]
  | cons n l ih =>
    show (closeShadowSeats r l (closeShadow r n s)).floor = _
    rw [ih]
    unfold closeShadow
    split
    · simp [record, appendWith, dropSeat, List.filter_filter]
      apply List.filter_congr; intro e _; exact Bool.and_comm _ _
    · rename_i h; simp [hasEntry] at h
      have : s.floor.shadow.filter (fun e => !l.contains e.seat) =
          s.floor.shadow.filter (fun e => !(n :: l).contains e.seat) := by
        apply List.filter_congr; intro e he; have := h e he; simp [this]
      rw [this]

theorem closeEverything_floor (r : CloseReason) (s : State) :
    (closeEverything r s).floor = { s.floor with openList := [], shadow := [] } := by
  unfold closeEverything
  simp only [closeShadowSeats_floor, closeOpenSeats_floor]
  have h1 : s.floor.openList.filter (fun e => !(seatsOf s.floor.openList).contains e.seat) = [] := by
    rw [List.filter_eq_nil_iff]; intro e he; simp [seatsOf]; exact ⟨e, he, rfl⟩
  have h2 : s.floor.shadow.filter (fun e => !(seatsOf s.floor.shadow).contains e.seat) = [] := by
    rw [List.filter_eq_nil_iff]; intro e he; simp [seatsOf]; exact ⟨e, he, rfl⟩
  rw [h1, h2]

/-- Steps 2 to 4 of a meeting signal and of the alert entry: queue, arming and holders empty (R50, R66, R68). -/
theorem clearWaiting_floor (s : State) :
    (clearHolders (clearArming (clearQueue s))).floor =
      { s.floor with queue := [], armed := [], holders := [], remote := false } := by
  have h1 : (clearQueue s).floor = { s.floor with queue := [] } := by
    unfold clearQueue; split
    · rename_i h; simp at h; rw [← h]
    · rfl
  have h2 : (clearArming (clearQueue s)).floor = { s.floor with queue := [], armed := [] } := by
    show ({(clearQueue s).floor with armed := []} : Floor) = _; rw [h1]
  unfold clearHolders; split
  · show ({(clearArming (clearQueue s)).floor with holders := [], remote := false} : Floor) = _
    rw [h2]
  · rename_i h; rw [h2] at h ⊢; simp [holdersSome] at h; simp [h.1, h.2]

/-! ### Meeting signals -/

theorem afterFloor_of_nobody {s : State} (h : nobodyWaits s) : afterFloor s = restFilters s := by
  simp [afterFloor, h.1, h.2, advanceUpTo]

/-- The floor that a meeting signal leaves (R50, R66, R69). -/
theorem meetingSignal_floor (next : Meeting) (f : FloorSetup) (s : State) :
    (meetingSignal next f s).floor =
      emptyFloor
        (if s.floor.phase = .alert then .alert
          else match next with
            | .none => .closed
            | _ => .running)
        (setupAfter next f s.floor.setup) next := by
  unfold meetingSignal
  rw [afterFloor_of_nobody]
  · cases next <;>
      simp [restFilters, emptyMessages, clearWaiting_floor, closeEverything_floor, emptyFloor]
  · exact ⟨by simp [emptyMessages, clearWaiting_floor], by simp [emptyMessages, clearWaiting_floor]⟩

theorem meetingSignal_screens (next : Meeting) (f : FloorSetup) (s : State) :
    (meetingSignal next f s).screens = { s.screens with messages := Vector.replicate 64 none } := by
  unfold meetingSignal
  have h := fun t => (floorFrame_afterFloor t).screens
  simp only [h, emptyMessages]
  simp [(floorFrame_closeEverything _ _).screens, (floorFrame_clearHolders _).screens, clearArming,
    (floorFrame_clearQueue _).screens]

/-- The blocks that a meeting signal leaves as they are. -/
theorem meetingSignal_frame (next : Meeting) (f : FloorSetup) (s : State) :
    (meetingSignal next f s).sched = s.sched ∧ (meetingSignal next f s).mixer = s.mixer ∧
      (meetingSignal next f s).port = s.port ∧ (meetingSignal next f s).displays = s.displays ∧
      (meetingSignal next f s).clock = s.clock ∧ (meetingSignal next f s).due = s.due ∧
      (meetingSignal next f s).pending = s.pending := by
  have k : floorFrame s (clearHolders (clearArming (clearQueue (closeEverything .meeting s)))) :=
    floorFrame_trans (floorFrame_closeEverything _ _)
      (floorFrame_trans (floorFrame_clearQueue _)
        (floorFrame_trans (floorFrame_withFloor _ _) (floorFrame_clearHolders _)))
  unfold meetingSignal
  refine ⟨?_, ?_, ?_, ?_, ?_, ?_, ?_⟩ <;>
    simp only [fun t => (floorFrame_afterFloor t).sched, fun t => (floorFrame_afterFloor t).mixer,
      fun t => (floorFrame_afterFloor t).port, fun t => (floorFrame_afterFloor t).displays,
      fun t => (floorFrame_afterFloor t).clock, fun t => (floorFrame_afterFloor t).due,
      fun t => (floorFrame_afterFloor t).pending, emptyMessages]
  exacts [k.sched, k.mixer, k.port, k.displays, k.clock, k.due, k.pending]

end Sys2Proof.Machine
end

