-- ==== Sys2Proof/Laws/Displays.lean ====
section
/-!
SUPPORT. The blocks that the Display Sequencer and the IR Emitter leave alone, said once for each of their functions:
all but the displays, the log and the notices (R142 to R152).
-/

namespace Sys2Proof.Machine

theorem emitterFrame_refl (s : State) : emitterFrame s s := by constructor <;> rfl

theorem emitterFrame_trans {s t u : State} (h : emitterFrame s t) (k : emitterFrame t u) :
    emitterFrame s u :=
  ⟨k.time.trans h.time, k.links.trans h.links, k.audio.trans h.audio, k.seats.trans h.seats,
    k.seatTable.trans h.seatTable, k.floor.trans h.floor, k.alert.trans h.alert, k.mixer.trans h.mixer,
    k.gate.trans h.gate, k.screens.trans h.screens, k.clock.trans h.clock, k.sched.trans h.sched,
    k.port.trans h.port, k.sent.trans h.sent, k.due.trans h.due, k.pending.trans h.pending⟩

theorem emitterFrame_withDisplays (s : State) (x : Displays) : emitterFrame s (s.withDisplays x) := by
  constructor <;> rfl

theorem emitterFrame_withDraws (s : State) (x : Nat) : emitterFrame s (s.withDraws x) := by
  constructor <;> rfl

theorem emitterFrame_record (e : LogEvent) (n : Option Seat) (s : State) :
    emitterFrame s (record e n s) := by
  constructor <;> rfl

theorem emitterFrame_setRecord (d : DisplayNo) (r : DisplayRecord) (s : State) :
    emitterFrame s (setRecord d r s) := emitterFrame_withDisplays s _

theorem emitterFrame_queueCode (d : DisplayNo) (c : IrCode) (s : State) :
    emitterFrame s (queueCode d c s) := emitterFrame_withDisplays s _

theorem emitterFrame_startUp (d : DisplayNo) (i : Option InputNo) (s : State) :
    emitterFrame s (startUp d i s) :=
  emitterFrame_trans (emitterFrame_setRecord d _ s) (emitterFrame_queueCode d _ _)

theorem emitterFrame_steadyInput (d : DisplayNo) (n : InputNo) (s : State) :
    emitterFrame s (steadyInput d n s) := by
  unfold steadyInput; split
  · exact emitterFrame_withDisplays s _
  · exact emitterFrame_queueCode d _ s

theorem emitterFrame_stopDisplay (d : DisplayNo) (s : State) : emitterFrame s (stopDisplay d s) :=
  emitterFrame_trans (emitterFrame_withDisplays s _)
    (emitterFrame_trans (emitterFrame_setRecord d _ _) (emitterFrame_queueCode d _ _))

theorem emitterFrame_handleOn (d : DisplayNo) (i : Option InputNo) (s : State) :
    emitterFrame s (handleOn d i s) := by
  unfold handleOn; dsimp only; split
  · exact emitterFrame_startUp d i s
  · exact emitterFrame_setRecord d _ s
  · exact emitterFrame_setRecord d _ s
  · exact emitterFrame_setRecord d _ s
  · split
    · exact emitterFrame_steadyInput d _ s
    · exact emitterFrame_refl s

theorem emitterFrame_handleOff (d : DisplayNo) (s : State) : emitterFrame s (handleOff d s) := by
  unfold handleOff; dsimp only; split
  · exact emitterFrame_refl s
  · exact emitterFrame_setRecord d _ s
  · exact emitterFrame_setRecord d _ s
  · exact emitterFrame_stopDisplay d s
  · exact emitterFrame_stopDisplay d s

theorem emitterFrame_handleInput (d : DisplayNo) (n : InputNo) (s : State) :
    emitterFrame s (handleInput d n s) := by
  unfold handleInput; dsimp only; split
  · exact emitterFrame_setRecord d _ s
  · exact emitterFrame_steadyInput d n s
  · exact emitterFrame_setRecord d _ s

theorem emitterFrame_warmExpired (d : DisplayNo) (s : State) : emitterFrame s (warmExpired d s) := by
  unfold warmExpired; dsimp only; split
  · exact emitterFrame_trans (emitterFrame_setRecord d _ s) (emitterFrame_queueCode d _ _)
  · exact emitterFrame_setRecord d _ s

theorem emitterFrame_coolExpired (d : DisplayNo) (s : State) : emitterFrame s (coolExpired d s) := by
  unfold coolExpired; dsimp only; split
  · exact emitterFrame_trans (emitterFrame_setRecord d _ s) (emitterFrame_startUp d _ _)
  · exact emitterFrame_setRecord d _ s

theorem emitterFrame_completion (e : IrEntry) (s : State) : emitterFrame s (completion e s) := by
  unfold completion; dsimp only; split
  · unfold powerOnComplete; dsimp only; split
    · exact emitterFrame_trans (emitterFrame_setRecord _ _ s) (emitterFrame_warmExpired _ _)
    · exact emitterFrame_setRecord _ _ s
  · unfold powerOffComplete; dsimp only; split
    · exact emitterFrame_trans (emitterFrame_setRecord _ _ s) (emitterFrame_coolExpired _ _)
    · exact emitterFrame_setRecord _ _ s
  · exact emitterFrame_setRecord _ _ s
  · exact emitterFrame_refl s

theorem emitterFrame_emptyCode (e : IrEntry) (s : State) : emitterFrame s (emptyCode e s) := by
  have h : ∀ x : Notices, emitterFrame s
      ((record (.displayNocode (codeSlot e.display e.code)) none s).withNotices x) := by
    intro x; constructor <;> rfl
  exact emitterFrame_trans (h _) (emitterFrame_completion e _)

theorem emitterFrame_takeHead (k instant : Nat) (s : State) : emitterFrame s (takeHead k instant s) := by
  induction k generalizing s with
  | zero => exact emitterFrame_refl s
  | succ k ih =>
    unfold takeHead; split
    · dsimp only; split
      · exact emitterFrame_trans (emitterFrame_withDisplays s _)
          (emitterFrame_trans (emitterFrame_emptyCode _ _) (ih _))
      · exact emitterFrame_trans (emitterFrame_withDisplays s _) (emitterFrame_withDisplays _ _)
    · exact emitterFrame_refl s

theorem emitterFrame_runEmitter (instant : Nat) (s : State) : emitterFrame s (runEmitter instant s) :=
  emitterFrame_trans (emitterFrame_withDisplays s _) (emitterFrame_takeHead _ _ _)

theorem emitterFrame_emit (s : State) : emitterFrame s (emit s) := by
  unfold emit; split
  · exact emitterFrame_trans (emitterFrame_withDraws s _) (emitterFrame_runEmitter _ _)
  · exact emitterFrame_refl s

theorem emitterFrame_requestOn (d : DisplayNo) (i : Option InputNo) (s : State) :
    emitterFrame s (requestOn d i s) :=
  emitterFrame_trans (emitterFrame_handleOn d i s) (emitterFrame_emit _)

theorem emitterFrame_requestOff (d : DisplayNo) (s : State) : emitterFrame s (requestOff d s) :=
  emitterFrame_trans (emitterFrame_handleOff d s) (emitterFrame_emit _)

theorem emitterFrame_requestInput (d : DisplayNo) (n : InputNo) (s : State) :
    emitterFrame s (requestInput d n s) :=
  emitterFrame_trans (emitterFrame_handleInput d n s) (emitterFrame_emit _)

theorem emitterFrame_foldl {α : Type} (f : State → α → State) (h : ∀ s a, emitterFrame s (f s a))
    (l : List α) (s : State) : emitterFrame s (l.foldl f s) := by
  induction l generalizing s with
  | nil => exact emitterFrame_refl s
  | cons a l ih => exact emitterFrame_trans (h s a) (ih _)

theorem emitterFrame_powerOnPlan (f : Fixed) (s : State) : emitterFrame s (powerOnPlan f s) :=
  emitterFrame_foldl _ (fun t d => emitterFrame_requestOn d _ t) _ s

theorem emitterFrame_powerOffPlan (f : Fixed) (s : State) : emitterFrame s (powerOffPlan f s) :=
  emitterFrame_foldl _ (fun t d => emitterFrame_requestOff d t) _ s

theorem emitterFrame_finishTransmission (s : State) : emitterFrame s (finishTransmission s) := by
  unfold finishTransmission; split
  · exact emitterFrame_refl s
  · exact emitterFrame_trans (emitterFrame_withDisplays s _)
      (emitterFrame_trans (emitterFrame_completion _ _) (emitterFrame_runEmitter _ _))

/-- An emitter that may not take leaves everything as it is (R149). -/
theorem emit_of_not {s : State} (h : mayTake s = false) : emit s = s := by simp [emit, h]

/-- While the emitter sends, it takes nothing (R149). -/
theorem mayTake_of_inFlight {s : State} {f : InFlight} (h : s.displays.inFlight = some f) :
    mayTake s = false := by simp [mayTake, h]

end Sys2Proof.Machine
end

