-- ==== Sys2Proof/Laws/PerInstr.lean ====
section
/-!
SUPPORT. The statement made per instruction: whether a command is well formed does not depend on its tag, and a
form error (`none`) is always well formed.
-/

namespace Sys2Proof.Laws

/-- The command with its parameters replaced by a form error, where it carries parameters (R204). -/
def formError : Instr → Instr
  | .resetPin lowNs => .resetPin lowNs
  | .incomingFrame link bytes => .incomingFrame link bytes
  | .outgoingFrame => .outgoingFrame
  | .answerSent => .answerSent
  | .noticeSent => .noticeSent
  | .superframeStart limitsFirst => .superframeStart limitsFirst
  | .speakingWarning seat => .speakingWarning seat
  | .speakingLimitClose seat => .speakingLimitClose seat
  | .speakingLimitNotify seat => .speakingLimitNotify seat
  | .minuteBoundary => .minuteBoundary
  | .superframeEnd => .superframeEnd
  | .chainLock link => .chainLock link
  | .chainUnlock link => .chainUnlock link
  | .alertSample level => .alertSample level
  | .refusedTimerExpiry seat => .refusedTimerExpiry seat
  | .messageExpiry seat => .messageExpiry seat
  | .voiceEvaluation => .voiceEvaluation
  | .presenceEnd seat => .presenceEnd seat
  | .quietTimeout => .quietTimeout
  | .warmExpiry display => .warmExpiry display
  | .coolExpiry display => .coolExpiry display
  | .irTransmissionStart instant => .irTransmissionStart instant
  | .irTransmissionComplete => .irTransmissionComplete
  | .commandCellArrival => .commandCellArrival
  | .unknownCommand tag code => .unknownCommand tag code
  | .select tag _ => .select tag none
  | .get tag _ => .get tag none
  | .putSeat tag _ => .putSeat tag none
  | .putName tag _ => .putName tag none
  | .putGain tag _ => .putGain tag none
  | .putNom tag _ => .putNom tag none
  | .putBooking tag _ => .putBooking tag none
  | .putIdle tag _ => .putIdle tag none
  | .putDisplay tag _ => .putDisplay tag none
  | .listClearAssign tag _ => .listClearAssign tag none
  | .listClearIrcode tag _ => .listClearIrcode tag none
  | .listAddAssign tag _ => .listAddAssign tag none
  | .listAddIrcode tag _ => .listAddIrcode tag none
  | .listGetAssign tag _ => .listGetAssign tag none
  | .listGetIrcode tag _ => .listGetIrcode tag none
  | .status tag _ => .status tag none
  | .statusSeat tag seat => .statusSeat tag seat
  | .restart tag _ => .restart tag none
  | .seatOpen tag _ => .seatOpen tag none
  | .seatClose tag _ => .seatClose tag none
  | .grantNext tag _ => .grantNext tag none
  | .queueClear tag _ => .queueClear tag none
  | .floorSet tag _ => .floorSet tag none
  | .priorityOn tag _ => .priorityOn tag none
  | .priorityOff tag _ => .priorityOff tag none
  | .bankSelect tag _ => .bankSelect tag none
  | .clipRead tag _ => .clipRead tag none
  | .meterRead tag _ => .meterRead tag none
  | .seatMessage tag _ => .seatMessage tag none
  | .messageClear tag _ => .messageClear tag none
  | .displayPowerOn tag _ => .displayPowerOn tag none
  | .displayPowerOff tag _ => .displayPowerOff tag none
  | .displayInput tag _ => .displayInput tag none
  | .clockSet tag _ => .clockSet tag none
  | .clockGet tag _ => .clockGet tag none
  | .commit tag _ => .commit tag none
  | .extend tag _ => .extend tag none
  | .endNow tag _ => .endNow tag none
  | .cancel tag _ => .cancel tag none
  | .logRead tag _ => .logRead tag none
  | .noticeSet tag _ => .noticeSet tag none

/-- A well-formed command stays well formed when its parameters are replaced by a form error. -/
def WellFormedFits.Statement (i : Instr) : Prop := i.wf = true → (formError i).wf = true

/-- The case of `resetPin`. -/
theorem WellFormedFits.resetPin (lowNs : Nat) :
    WellFormedFits.Statement (.resetPin lowNs) := fun h => h

/-- The case of `incomingFrame`. -/
theorem WellFormedFits.incomingFrame (link : Link) (bytes : List Byte) :
    WellFormedFits.Statement (.incomingFrame link bytes) := fun h => h

/-- The case of `outgoingFrame`. -/
theorem WellFormedFits.outgoingFrame :
    WellFormedFits.Statement (.outgoingFrame) := fun h => h

/-- The case of `answerSent`. -/
theorem WellFormedFits.answerSent :
    WellFormedFits.Statement (.answerSent) := fun h => h

/-- The case of `noticeSent`. -/
theorem WellFormedFits.noticeSent :
    WellFormedFits.Statement (.noticeSent) := fun h => h

/-- The case of `superframeStart`. -/
theorem WellFormedFits.superframeStart (limitsFirst : Bool) :
    WellFormedFits.Statement (.superframeStart limitsFirst) := fun h => h

/-- The case of `speakingWarning`. -/
theorem WellFormedFits.speakingWarning (seat : Seat) :
    WellFormedFits.Statement (.speakingWarning seat) := fun h => h

/-- The case of `speakingLimitClose`. -/
theorem WellFormedFits.speakingLimitClose (seat : Seat) :
    WellFormedFits.Statement (.speakingLimitClose seat) := fun h => h

/-- The case of `speakingLimitNotify`. -/
theorem WellFormedFits.speakingLimitNotify (seat : Seat) :
    WellFormedFits.Statement (.speakingLimitNotify seat) := fun h => h

/-- The case of `minuteBoundary`. -/
theorem WellFormedFits.minuteBoundary :
    WellFormedFits.Statement (.minuteBoundary) := fun h => h

/-- The case of `superframeEnd`. -/
theorem WellFormedFits.superframeEnd :
    WellFormedFits.Statement (.superframeEnd) := fun h => h

/-- The case of `chainLock`. -/
theorem WellFormedFits.chainLock (link : Link) :
    WellFormedFits.Statement (.chainLock link) := fun h => h

/-- The case of `chainUnlock`. -/
theorem WellFormedFits.chainUnlock (link : Link) :
    WellFormedFits.Statement (.chainUnlock link) := fun h => h

/-- The case of `alertSample`. -/
theorem WellFormedFits.alertSample (level : AlertLevel) :
    WellFormedFits.Statement (.alertSample level) := fun h => h

/-- The case of `refusedTimerExpiry`. -/
theorem WellFormedFits.refusedTimerExpiry (seat : Seat) :
    WellFormedFits.Statement (.refusedTimerExpiry seat) := fun h => h

/-- The case of `messageExpiry`. -/
theorem WellFormedFits.messageExpiry (seat : Seat) :
    WellFormedFits.Statement (.messageExpiry seat) := fun h => h

/-- The case of `voiceEvaluation`. -/
theorem WellFormedFits.voiceEvaluation :
    WellFormedFits.Statement (.voiceEvaluation) := fun h => h

/-- The case of `presenceEnd`. -/
theorem WellFormedFits.presenceEnd (seat : Seat) :
    WellFormedFits.Statement (.presenceEnd seat) := fun h => h

/-- The case of `quietTimeout`. -/
theorem WellFormedFits.quietTimeout :
    WellFormedFits.Statement (.quietTimeout) := fun h => h

/-- The case of `warmExpiry`. -/
theorem WellFormedFits.warmExpiry (display : DisplayNo) :
    WellFormedFits.Statement (.warmExpiry display) := fun h => h

/-- The case of `coolExpiry`. -/
theorem WellFormedFits.coolExpiry (display : DisplayNo) :
    WellFormedFits.Statement (.coolExpiry display) := fun h => h

/-- The case of `irTransmissionStart`. -/
theorem WellFormedFits.irTransmissionStart (instant : Nat) :
    WellFormedFits.Statement (.irTransmissionStart instant) := fun h => h

/-- The case of `irTransmissionComplete`. -/
theorem WellFormedFits.irTransmissionComplete :
    WellFormedFits.Statement (.irTransmissionComplete) := fun h => h

/-- The case of `commandCellArrival`. -/
theorem WellFormedFits.commandCellArrival :
    WellFormedFits.Statement (.commandCellArrival) := fun h => h

/-- The case of `unknownCommand`. -/
theorem WellFormedFits.unknownCommand (tag : Byte) (code : Byte) :
    WellFormedFits.Statement (.unknownCommand tag code) := fun h => h

/-- The case of `select`. -/
theorem WellFormedFits.select (tag : Byte) (params : Option (TableName × Nat)) :
    WellFormedFits.Statement (.select tag params) := fun _ => rfl

/-- The case of `get`. -/
theorem WellFormedFits.get (tag : Byte) (params : Option Unit) :
    WellFormedFits.Statement (.get tag params) := fun _ => rfl

/-- The case of `putSeat`. -/
theorem WellFormedFits.putSeat (tag : Byte) (params : Option SeatFields) :
    WellFormedFits.Statement (.putSeat tag params) := fun _ => rfl

/-- The case of `putName`. -/
theorem WellFormedFits.putName (tag : Byte) (params : Option Text) :
    WellFormedFits.Statement (.putName tag params) := fun _ => rfl

/-- The case of `putGain`. -/
theorem WellFormedFits.putGain (tag : Byte) (params : Option Nat) :
    WellFormedFits.Statement (.putGain tag params) := fun _ => rfl

/-- The case of `putNom`. -/
theorem WellFormedFits.putNom (tag : Byte) (params : Option Nat) :
    WellFormedFits.Statement (.putNom tag params) := fun _ => rfl

/-- The case of `putBooking`. -/
theorem WellFormedFits.putBooking (tag : Byte) (params : Option BookingFields) :
    WellFormedFits.Statement (.putBooking tag params) := fun _ => rfl

/-- The case of `putIdle`. -/
theorem WellFormedFits.putIdle (tag : Byte) (params : Option IdleFields) :
    WellFormedFits.Statement (.putIdle tag params) := fun _ => rfl

/-- The case of `putDisplay`. -/
theorem WellFormedFits.putDisplay (tag : Byte) (params : Option PresetFields) :
    WellFormedFits.Statement (.putDisplay tag params) := fun _ => rfl

/-- The case of `listClearAssign`. -/
theorem WellFormedFits.listClearAssign (tag : Byte) (params : Option Nat) :
    WellFormedFits.Statement (.listClearAssign tag params) := fun _ => rfl

/-- The case of `listClearIrcode`. -/
theorem WellFormedFits.listClearIrcode (tag : Byte) (params : Option (Nat × Nat × Nat)) :
    WellFormedFits.Statement (.listClearIrcode tag params) := fun _ => rfl

/-- The case of `listAddAssign`. -/
theorem WellFormedFits.listAddAssign (tag : Byte) (params : Option (Nat × List (Nat × Nat))) :
    WellFormedFits.Statement (.listAddAssign tag params) := fun _ => rfl

/-- The case of `listAddIrcode`. -/
theorem WellFormedFits.listAddIrcode (tag : Byte) (params : Option (Nat × List (Nat × Nat))) :
    WellFormedFits.Statement (.listAddIrcode tag params) := fun _ => rfl

/-- The case of `listGetAssign`. -/
theorem WellFormedFits.listGetAssign (tag : Byte) (params : Option (Nat × Nat)) :
    WellFormedFits.Statement (.listGetAssign tag params) := fun _ => rfl

/-- The case of `listGetIrcode`. -/
theorem WellFormedFits.listGetIrcode (tag : Byte) (params : Option (Nat × Nat)) :
    WellFormedFits.Statement (.listGetIrcode tag params) := fun _ => rfl

/-- The case of `status`. -/
theorem WellFormedFits.status (tag : Byte) (params : Option Unit) :
    WellFormedFits.Statement (.status tag params) := fun _ => rfl

/-- The case of `statusSeat`. -/
theorem WellFormedFits.statusSeat (tag : Byte) (seat : Nat) :
    WellFormedFits.Statement (.statusSeat tag seat) := fun h => h

/-- The case of `restart`. -/
theorem WellFormedFits.restart (tag : Byte) (params : Option Unit) :
    WellFormedFits.Statement (.restart tag params) := fun _ => rfl

/-- The case of `seatOpen`. -/
theorem WellFormedFits.seatOpen (tag : Byte) (seat : Option Nat) :
    WellFormedFits.Statement (.seatOpen tag seat) := fun _ => rfl

/-- The case of `seatClose`. -/
theorem WellFormedFits.seatClose (tag : Byte) (seat : Option Nat) :
    WellFormedFits.Statement (.seatClose tag seat) := fun _ => rfl

/-- The case of `grantNext`. -/
theorem WellFormedFits.grantNext (tag : Byte) (params : Option Unit) :
    WellFormedFits.Statement (.grantNext tag params) := fun _ => rfl

/-- The case of `queueClear`. -/
theorem WellFormedFits.queueClear (tag : Byte) (params : Option Unit) :
    WellFormedFits.Statement (.queueClear tag params) := fun _ => rfl

/-- The case of `floorSet`. -/
theorem WellFormedFits.floorSet (tag : Byte) (setup : Option SetupFields) :
    WellFormedFits.Statement (.floorSet tag setup) := fun _ => rfl

/-- The case of `priorityOn`. -/
theorem WellFormedFits.priorityOn (tag : Byte) (params : Option Unit) :
    WellFormedFits.Statement (.priorityOn tag params) := fun _ => rfl

/-- The case of `priorityOff`. -/
theorem WellFormedFits.priorityOff (tag : Byte) (params : Option Unit) :
    WellFormedFits.Statement (.priorityOff tag params) := fun _ => rfl

/-- The case of `bankSelect`. -/
theorem WellFormedFits.bankSelect (tag : Byte) (bank : Option Nat) :
    WellFormedFits.Statement (.bankSelect tag bank) := fun _ => rfl

/-- The case of `clipRead`. -/
theorem WellFormedFits.clipRead (tag : Byte) (params : Option Unit) :
    WellFormedFits.Statement (.clipRead tag params) := fun _ => rfl

/-- The case of `meterRead`. -/
theorem WellFormedFits.meterRead (tag : Byte) (params : Option (Nat × Nat)) :
    WellFormedFits.Statement (.meterRead tag params) := fun _ => rfl

/-- The case of `seatMessage`. -/
theorem WellFormedFits.seatMessage (tag : Byte) (params : Option (Nat × Nat × Text)) :
    WellFormedFits.Statement (.seatMessage tag params) := fun _ => rfl

/-- The case of `messageClear`. -/
theorem WellFormedFits.messageClear (tag : Byte) (target : Option Nat) :
    WellFormedFits.Statement (.messageClear tag target) := fun _ => rfl

/-- The case of `displayPowerOn`. -/
theorem WellFormedFits.displayPowerOn (tag : Byte) (params : Option (Nat × Nat)) :
    WellFormedFits.Statement (.displayPowerOn tag params) := fun _ => rfl

/-- The case of `displayPowerOff`. -/
theorem WellFormedFits.displayPowerOff (tag : Byte) (params : Option (Nat × Nat)) :
    WellFormedFits.Statement (.displayPowerOff tag params) := fun _ => rfl

/-- The case of `displayInput`. -/
theorem WellFormedFits.displayInput (tag : Byte) (params : Option (Nat × Nat)) :
    WellFormedFits.Statement (.displayInput tag params) := fun _ => rfl

/-- The case of `clockSet`. -/
theorem WellFormedFits.clockSet (tag : Byte) (params : Option (Nat × Nat × Nat × Nat)) :
    WellFormedFits.Statement (.clockSet tag params) := fun _ => rfl

/-- The case of `clockGet`. -/
theorem WellFormedFits.clockGet (tag : Byte) (params : Option Unit) :
    WellFormedFits.Statement (.clockGet tag params) := fun _ => rfl

/-- The case of `commit`. -/
theorem WellFormedFits.commit (tag : Byte) (slot : Option Nat) :
    WellFormedFits.Statement (.commit tag slot) := fun _ => rfl

/-- The case of `extend`. -/
theorem WellFormedFits.extend (tag : Byte) (params : Option (Nat × Nat)) :
    WellFormedFits.Statement (.extend tag params) := fun _ => rfl

/-- The case of `endNow`. -/
theorem WellFormedFits.endNow (tag : Byte) (slot : Option Nat) :
    WellFormedFits.Statement (.endNow tag slot) := fun _ => rfl

/-- The case of `cancel`. -/
theorem WellFormedFits.cancel (tag : Byte) (slot : Option Nat) :
    WellFormedFits.Statement (.cancel tag slot) := fun _ => rfl

/-- The case of `logRead`. -/
theorem WellFormedFits.logRead (tag : Byte) (params : Option Unit) :
    WellFormedFits.Statement (.logRead tag params) := fun _ => rfl

/-- The case of `noticeSet`. -/
theorem WellFormedFits.noticeSet (tag : Byte) (params : Option (Nat × Nat)) :
    WellFormedFits.Statement (.noticeSet tag params) := fun _ => rfl

end Sys2Proof.Laws
end

