-- ==== Sys2Proof/Laws/Quiet.lean ====
section
/-!
SUPPORT. What the step of the quiet count that a superframe end owes can do (R193; notes/assumptions/6.md).
-/

namespace Sys2Proof.Machine

/-- With no step owed nothing is taken. -/
theorem settleQuiet_of_not_due {s : State} (h : s.due.quiet = false) : settleQuiet s = s := by
  simp [settleQuiet, h]

/-- An owed step of a count below 32. -/
theorem settleQuiet_of_due {s : State} (h : s.due.quiet = true) (k : s.notices.quiet < 32) :
    settleQuiet s =
      (s.withNotices (quietStep s.notices s.log.unread)).withDue { s.due with quiet := false } := by
  simp [settleQuiet, h, k]

/-- A count of 32 or more stays, and the step is taken. -/
theorem settleQuiet_of_resting {s : State} (h : s.due.quiet = true) (k : 32 ≤ s.notices.quiet) :
    settleQuiet s = s.withDue { s.due with quiet := false } := by
  simp only [settleQuiet, h, if_true, if_neg (Nat.not_lt.mpr k)]
  rfl

/-- No step is owed after it. -/
@[simp] theorem settleQuiet_due (s : State) : (settleQuiet s).due = { s.due with quiet := false } := by
  unfold settleQuiet
  split <;> simp_all
  cases hs : s.due; simp_all

/-- All else of the state stays: it is the state with other notices and no step owed. -/
theorem settleQuiet_frame (s : State) :
    settleQuiet s = (s.withNotices (settleQuiet s).notices).withDue { s.due with quiet := false } := by
  unfold settleQuiet
  split
  · rfl
  · next h =>
    have hd : { s.due with quiet := false } = s.due := by cases hs : s.due; simp_all
    rw [hd]; rfl

/-- The count stays in 0..32 (R193). -/
theorem settleQuiet_le (s : State) (h : s.notices.quiet ≤ 32) : (settleQuiet s).notices.quiet ≤ 32 := by
  cases hd : s.due.quiet
  · rwa [settleQuiet_of_not_due hd]
  · by_cases k : s.notices.quiet < 32
    · rw [settleQuiet_of_due hd k]; exact k
    · rw [settleQuiet_of_resting hd (Nat.not_lt.mp k)]; exact h

end Sys2Proof.Machine
end

