-- ==== Sys2Proof/Tests/Slice0.lean ====
section
/-!
SUPPORT. The model's own tests. Expected values come from the spec: its encodings (chapter 12), its tables and
its worked examples. The theorems named `witness_…` show concrete states and operands that meet the hypotheses of
the statements of Certificates/Slice0/Obligations.lean, one theorem for each clause or group of clauses.
-/

namespace Sys2Proof.Tests

open Sys2Proof Sys2Proof.Machine

set_option Elab.async false

/-! ### Well-formedness refuses -/

theorem test_wf_frames :
    (Instr.incomingFrame .trunk (List.replicate 521 0)).wf = false ∧
    (Instr.incomingFrame .chainA (List.replicate 87 0)).wf = false ∧
    (Instr.incomingFrame .chainB (List.replicate 86 0)).wf = true ∧
    (Instr.irTransmissionStart 626).wf = false ∧ (Instr.irTransmissionStart 625).wf = true := by
  decide +kernel

theorem test_wf_port :
    (Instr.unknownCommand 0 0x49).wf = false ∧ (Instr.unknownCommand 0 0x4A).wf = true ∧
    (Instr.select 0 (some (.name, 256))).wf = false ∧
    (Instr.statusSeat 0 256).wf = false ∧
    (CommandCell.mk 0 1 (some (List.replicate 505 0))).wf = false := by
  decide +kernel

/-- A Floor Setup record of zeros, for the ill-formed terms. -/
def zeroSetup : SetupFields :=
  { mode := 0, maxOpen := 0, autoAdvance := false, limit := 0, lead := 0, action := 0, threshold := 0
    hold := 0 }

/-- A booking form of zeros, for the ill-formed terms. -/
def zeroBooking : BookingFields :=
  { id := 0, start := 0, finish := 0, lead := 0, grace := 0, endWarn := 0, weekly := false, bank := 0
    chair := 0, title := 0, plan := Vector.replicate 4 ⟨false, 0⟩, setup := zeroSetup }

theorem test_wf_setup :
    (Instr.floorSet 0 (some zeroSetup)).wf = true ∧
    (Instr.floorSet 0 (some { zeroSetup with mode := 256 })).wf = false ∧
    (Instr.floorSet 0 (some { zeroSetup with maxOpen := 256 })).wf = false ∧
    (Instr.floorSet 0 (some { zeroSetup with limit := 65536 })).wf = false ∧
    (Instr.floorSet 0 (some { zeroSetup with lead := 256 })).wf = false ∧
    (Instr.floorSet 0 (some { zeroSetup with action := 256 })).wf = false ∧
    (Instr.floorSet 0 (some { zeroSetup with threshold := 16777216 })).wf = false ∧
    (Instr.floorSet 0 (some { zeroSetup with hold := 65536 })).wf = false := by
  decide +kernel

theorem test_wf_entries :
    (Instr.putSeat 0 (some ⟨256, 0, false⟩)).wf = false ∧
    (Instr.putSeat 0 (some ⟨0, 256, false⟩)).wf = false ∧
    (Instr.putName 0 (some (List.replicate 256 0))).wf = false ∧
    (Instr.putGain 0 (some 65536)).wf = false ∧ (Instr.putNom 0 (some 65536)).wf = false ∧
    (Instr.putIdle 0 (some ⟨true, { zeroSetup with hold := 65536 }, 0⟩)).wf = false ∧
    (Instr.putIdle 0 (some ⟨true, zeroSetup, 256⟩)).wf = false ∧
    (Instr.putDisplay 0 (some ⟨65536, 0, 0, 0⟩)).wf = false ∧
    (Instr.putDisplay 0 (some ⟨0, 256, 0, 0⟩)).wf = false ∧
    (Instr.putDisplay 0 (some ⟨0, 0, 256, 0⟩)).wf = false ∧
    (Instr.putDisplay 0 (some ⟨0, 0, 0, 65536⟩)).wf = false := by
  decide +kernel

theorem test_wf_booking :
    (Instr.putBooking 0 (some zeroBooking)).wf = true ∧
    (Instr.putBooking 0 (some { zeroBooking with id := 65536 })).wf = false ∧
    (Instr.putBooking 0 (some { zeroBooking with start := 65536 })).wf = false ∧
    (Instr.putBooking 0 (some { zeroBooking with finish := 65536 })).wf = false ∧
    (Instr.putBooking 0 (some { zeroBooking with lead := 256 })).wf = false ∧
    (Instr.putBooking 0 (some { zeroBooking with grace := 256 })).wf = false ∧
    (Instr.putBooking 0 (some { zeroBooking with endWarn := 256 })).wf = false ∧
    (Instr.putBooking 0 (some { zeroBooking with bank := 256 })).wf = false ∧
    (Instr.putBooking 0 (some { zeroBooking with chair := 256 })).wf = false ∧
    (Instr.putBooking 0 (some { zeroBooking with title := 256 })).wf = false ∧
    (Instr.putBooking 0 (some { zeroBooking with plan := Vector.replicate 4 ⟨true, 256⟩ })).wf = false ∧
    (Instr.putBooking 0 (some { zeroBooking with setup := { zeroSetup with mode := 256 } })).wf = false := by
  decide +kernel

theorem test_wf_lists :
    (Instr.listClearAssign 0 (some 256)).wf = false ∧
    (Instr.listClearIrcode 0 (some (256, 0, 0))).wf = false ∧
    (Instr.listClearIrcode 0 (some (0, 256, 0))).wf = false ∧
    (Instr.listClearIrcode 0 (some (0, 0, 256))).wf = false ∧
    (Instr.listAddAssign 0 (some (256, []))).wf = false ∧
    (Instr.listAddAssign 0 (some (0, [(256, 0)]))).wf = false ∧
    (Instr.listAddAssign 0 (some (0, List.replicate 251 (0, 0)))).wf = false ∧
    (Instr.listAddIrcode 0 (some (256, []))).wf = false ∧
    (Instr.listAddIrcode 0 (some (0, [(65536, 0)]))).wf = false ∧
    (Instr.listAddIrcode 0 (some (0, [(0, 65536)]))).wf = false ∧
    (Instr.listAddIrcode 0 (some (0, List.replicate 126 (0, 0)))).wf = false ∧
    (Instr.listGetAssign 0 (some (0, 256))).wf = false ∧
    (Instr.listGetIrcode 0 (some (256, 0))).wf = false := by
  decide +kernel

theorem test_wf_commands :
    (Instr.seatOpen 0 (some 256)).wf = false ∧ (Instr.seatClose 0 (some 256)).wf = false ∧
    (Instr.bankSelect 0 (some 256)).wf = false ∧ (Instr.meterRead 0 (some (0, 256))).wf = false ∧
    (Instr.seatMessage 0 (some (256, 0, []))).wf = false ∧
    (Instr.seatMessage 0 (some (0, 256, []))).wf = false ∧
    (Instr.seatMessage 0 (some (0, 0, List.replicate 256 0))).wf = false ∧
    (Instr.messageClear 0 (some 256)).wf = false ∧
    (Instr.displayPowerOn 0 (some (256, 0))).wf = false ∧
    (Instr.displayPowerOff 0 (some (0, 256))).wf = false ∧
    (Instr.displayInput 0 (some (256, 0))).wf = false ∧
    (Instr.clockSet 0 (some (256, 0, 0, 0))).wf = false ∧
    (Instr.clockSet 0 (some (0, 0, 0, 256))).wf = false ∧
    (Instr.commit 0 (some 256)).wf = false ∧ (Instr.extend 0 (some (0, 256))).wf = false ∧
    (Instr.endNow 0 (some 256)).wf = false ∧ (Instr.cancel 0 (some 256)).wf = false ∧
    (Instr.noticeSet 0 (some (256, 0))).wf = false := by
  decide +kernel

/-! ### Cells and frames, from the encodings of chapter 12 -/

/-- A command cell of this code and body with tag 7. -/
def cell (code : Byte) (body : List Byte) : CommandCell := { tag := 7, code := code, body := some body }

/-- The check value that R218 gives for the nine characters "123456789". -/
theorem test_crc_check_value :
    crc16 [0x31, 0x32, 0x33, 0x34, 0x35, 0x36, 0x37, 0x38, 0x39] = 0x29B1 := by decide +kernel

/-- Table 12-5 and 12-7, the cursor's commands. -/
theorem test_cells_of_the_cursor :
    commandOf .seat (cell 0x01 [1, 127]) = .select 7 (some (.name, 127)) ∧
    commandOf .seat (cell 0x01 [8, 0]) = .select 7 none ∧
    commandOf .seat (cell 0x02 []) = .get 7 (some ()) ∧
    commandOf .seat (cell 0x03 [1, 0xFF, 3]) = .putSeat 7 (some ⟨1, 255, true⟩) ∧
    commandOf .name (cell 0x03 [2, 0x41, 0x42]) = .putName 7 (some [0x41, 0x42]) ∧
    commandOf .gain1 (cell 0x03 [0x12, 0x34]) = .putGain 7 (some 0x1234) ∧
    commandOf .nom (cell 0x03 [0x80, 0x00]) = .putNom 7 (some 32768) ∧
    commandOf .idle (cell 0x03 [1, 2, 3, 1, 0x0E, 0x10, 60, 1, 0x07, 0xFF, 0xFF, 0x13, 0x88, 1]) =
      .putIdle 7 (some ⟨true,
        { mode := 2, maxOpen := 3, autoAdvance := true, limit := 3600, lead := 60, action := 1
          threshold := 524287, hold := 5000 }, 1⟩) ∧
    commandOf .display (cell 0x03 [0x01, 0x07, 33, 10, 0x01, 0x2C]) =
      .putDisplay 7 (some ⟨263, 33, 10, 300⟩) := by decide +kernel

/-- The 33 bytes of a booking (Table 12-7). -/
theorem test_cell_of_a_booking :
    commandOf .booking (cell 0x03
      [0x01, 0x00, 0x02, 0x58, 0x02, 0x94, 10, 5, 3, 1, 1, 0xFF, 9, 1, 2, 0, 1, 0, 1, 1, 4,
        0, 6, 0, 0, 0, 30, 0, 0, 0x40, 0x00, 0x03, 0x20]) =
      .putBooking 7 (some
        { id := 256, start := 600, finish := 660, lead := 10, grace := 5, endWarn := 3, weekly := true
          bank := 1, chair := 255, title := 9
          plan := #v[⟨true, 2⟩, ⟨false, 1⟩, ⟨false, 1⟩, ⟨true, 4⟩]
          setup :=
            { mode := 0, maxOpen := 6, autoAdvance := false, limit := 0, lead := 30, action := 0
              threshold := 16384, hold := 800 } }) := by decide +kernel

/-- Table 12-5, the lists: a count that does not match is a form error (R204). -/
theorem test_cells_of_the_lists :
    commandOf .seat (cell 0x04 [0, 15]) = .listClearAssign 7 (some 15) ∧
    commandOf .seat (cell 0x04 [1, 23, 4, 255]) = .listClearIrcode 7 (some (23, 4, 255)) ∧
    commandOf .seat (cell 0x05 [0, 3, 2, 10, 20, 11, 21]) =
      .listAddAssign 7 (some (3, [(10, 20), (11, 21)])) ∧
    commandOf .seat (cell 0x05 [0, 3, 3, 10, 20, 11, 21]) = .listAddAssign 7 none ∧
    commandOf .seat (cell 0x05 [1, 5, 1, 0x23, 0x28, 0x11, 0x94]) =
      .listAddIrcode 7 (some (5, [(9000, 4500)])) ∧
    commandOf .seat (cell 0x06 [0, 2, 12]) = .listGetAssign 7 (some (2, 12)) ∧
    commandOf .seat (cell 0x06 [1, 2, 6]) = .listGetIrcode 7 (some (2, 6)) := by decide +kernel

/-- Table 12-5, the other families; a parameter too many is a form error. -/
theorem test_cells_of_the_families :
    commandOf .seat (cell 0x08 []) = .status 7 (some ()) ∧
    commandOf .seat (cell 0x08 [63]) = .statusSeat 7 63 ∧
    commandOf .seat (cell 0x09 []) = .restart 7 (some ()) ∧
    commandOf .seat (cell 0x09 [0]) = .restart 7 none ∧
    commandOf .seat (cell 0x10 [64]) = .seatOpen 7 (some 64) ∧
    commandOf .seat (cell 0x14 [3, 6, 0, 0, 10, 0, 1, 0, 0x40, 0, 0, 50]) =
      .floorSet 7 (some
        { mode := 3, maxOpen := 6, autoAdvance := false, limit := 10, lead := 0, action := 1
          threshold := 16384, hold := 50 }) ∧
    commandOf .seat (cell 0x22 [65, 1]) = .meterRead 7 (some (65, 1)) ∧
    commandOf .seat (cell 0x28 [255, 10, 1, 0x58]) = .seatMessage 7 (some (255, 10, [0x58])) ∧
    commandOf .seat (cell 0x30 [3, 1, 4]) = .displayPowerOn 7 (some (3, 4)) ∧
    commandOf .seat (cell 0x30 [3, 0, 0]) = .displayPowerOff 7 (some (3, 0)) ∧
    commandOf .seat (cell 0x38 [6, 23, 59, 58]) = .clockSet 7 (some (6, 23, 59, 58)) ∧
    commandOf .seat (cell 0x41 [15, 120]) = .extend 7 (some (15, 120)) ∧
    commandOf .seat (cell 0x49 [0x1F, 64]) = .noticeSet 7 (some (31, 64)) ∧
    commandOf .seat (cell 0x07 []) = .unknownCommand 7 0x07 := by decide +kernel

/-- A twelfth of the fill of a cell with an empty body. -/
def fill : List Byte := List.replicate 42 0

/-- Twelve of them. -/
def fills : List (List Byte) :=
  [fill, fill, fill, fill, fill, fill, fill, fill, fill, fill, fill, fill]

/-- The CLOCK GET cell with tag 7 (Tables 12-4, 12-5), and these two bytes as its CRC. -/
def clockGetCell (hi lo : Byte) : List Byte :=
  1 :: 7 :: 0x39 :: 0 :: 0 :: 0 :: (fills.flatten ++ [hi, lo])

theorem crc_fill :
    crc16 [1, 7, 0x39, 0, 0, 0] = 0xF3FA ∧
    fill.foldl crcByte 0xF3FA = 0xB86A ∧
    fill.foldl crcByte 0xB86A = 0xF3C0 ∧
    fill.foldl crcByte 0xF3C0 = 0x0F93 ∧
    fill.foldl crcByte 0x0F93 = 0x2B36 ∧
    fill.foldl crcByte 0x2B36 = 0xA7CD ∧
    fill.foldl crcByte 0xA7CD = 0xF635 ∧
    fill.foldl crcByte 0xF635 = 0xCE25 ∧
    fill.foldl crcByte 0xCE25 = 0x42F5 ∧
    fill.foldl crcByte 0x42F5 = 0x237F ∧
    fill.foldl crcByte 0x237F = 0x237A ∧
    fill.foldl crcByte 0x237A = 0x5858 ∧
    fill.foldl crcByte 0x5858 = 0x3D32 := by
  refine ⟨?_, ?_, ?_, ?_, ?_, ?_, ?_, ?_, ?_, ?_, ?_, ?_, ?_⟩ <;> decide +kernel

/-- The CRC of the cell by R218, computed by hand: 0x3D32. -/
theorem crc_clockGetCell : crc16 ([1, 7, 0x39, 0, 0, 0] ++ fills.flatten) = 0x3D32 := by
  obtain ⟨a, b0, b1, b2, b3, b4, b5, b6, b7, b8, b9, b10, b11⟩ := crc_fill
  rw [crc16] at a
  rw [crc16, List.foldl_append, List.foldl_flatten, a]
  simp only [fills, List.foldl_cons, List.foldl_nil, b0, b1, b2, b3, b4, b5, b6, b7, b8, b9, b10, b11]

theorem length_fills : fills.flatten.length = 504 := by decide +kernel

theorem read_with_fill (f : List Byte) (hi lo : Byte) (hl : f.length = 504) :
    commandCell? (1 :: 7 :: 0x39 :: 0 :: 0 :: 0 :: (f ++ [hi, lo])) =
      if crc16 ([1, 7, 0x39, 0, 0, 0] ++ f) = BitVec.ofNat 16 (be16 hi lo) then some (cell 0x39 [])
      else none := by
  have t : (1 :: 7 :: 0x39 :: 0 :: 0 :: 0 :: (f ++ [hi, lo])).take 510 =
      [1, 7, 0x39, 0, 0, 0] ++ f := by
    simp [hl]
  have x : (1 :: 7 :: 0x39 :: 0 :: 0 :: 0 :: (f ++ [hi, lo])).getD 510 0 = hi := by
    simp [List.getD, hl]
  have y : (1 :: 7 :: 0x39 :: 0 :: 0 :: 0 :: (f ++ [hi, lo])).getD 511 0 = lo := by
    simp [List.getD, hl]
  have z : be16 0 0 = 0 := rfl
  simp only [commandCell?, t, x, y, cell, z, true_and, Nat.zero_le, if_true, List.take_zero]

theorem be16_of_word (w : BitVec 16) :
    BitVec.ofNat 16 (be16 (BitVec.ofNat 8 (w.toNat / 256)) (BitVec.ofNat 8 w.toNat)) = w := by
  apply BitVec.eq_of_toNat_eq
  have := w.isLt
  simp [be16]
  omega

/-- A cell of any code with an empty body and the CRC of R218 is read as that command. -/
theorem test_any_cell_is_read (code : Byte) :
    ∃ l : List Byte, commandCell? l = some (cell code []) := by
  have hl : fills.flatten.length = 504 := length_fills
  let w := crc16 ([1, 7, code, 0, 0, 0] ++ fills.flatten)
  refine ⟨1 :: 7 :: code :: 0 :: 0 :: 0 ::
    (fills.flatten ++ [BitVec.ofNat 8 (w.toNat / 256), BitVec.ofNat 8 w.toNat]), ?_⟩
  have t : (1 :: 7 :: code :: 0 :: 0 :: 0 ::
      (fills.flatten ++ [BitVec.ofNat 8 (w.toNat / 256), BitVec.ofNat 8 w.toNat])).take 510 =
      [1, 7, code, 0, 0, 0] ++ fills.flatten := by
    simp [hl]
  have x : (1 :: 7 :: code :: 0 :: 0 :: 0 ::
      (fills.flatten ++ [BitVec.ofNat 8 (w.toNat / 256), BitVec.ofNat 8 w.toNat])).getD 510 0 =
      BitVec.ofNat 8 (w.toNat / 256) := by
    simp [List.getD, hl]
  have y : (1 :: 7 :: code :: 0 :: 0 :: 0 ::
      (fills.flatten ++ [BitVec.ofNat 8 (w.toNat / 256), BitVec.ofNat 8 w.toNat])).getD 511 0 =
      BitVec.ofNat 8 w.toNat := by
    simp [List.getD, hl]
  have z : be16 0 0 = 0 := rfl
  simp only [commandCell?, t, x, y, cell, z, be16_of_word, w, true_and, Nat.zero_le, if_true,
    List.take_zero]

theorem read_clockGetCell (hi lo : Byte) :
    commandCell? (clockGetCell hi lo) =
      if crc16 ([1, 7, 0x39, 0, 0, 0] ++ fills.flatten) = BitVec.ofNat 16 (be16 hi lo) then
        some (cell 0x39 []) else none :=
  read_with_fill _ hi lo length_fills

theorem test_cell_is_read : commandCell? (clockGetCell 0x3d 0x32) = some (cell 0x39 []) := by
  rw [read_clockGetCell, crc_clockGetCell]; decide +kernel

theorem test_bad_crc_is_not_read : commandCell? (clockGetCell 0x3d 0x33) = none := by
  rw [read_clockGetCell, crc_clockGetCell]; decide +kernel

/-- Samples of 20 bits, the most significant bit first, two in five bytes (R215). -/
theorem test_samples :
    unpackSamples [0x7F, 0xFF, 0xF8, 0x00, 0x00] = [524287, -524288] ∧
    packPair 1 (-1) = [0x00, 0x00, 0x1F, 0xFF, 0xFF] := by decide +kernel

/-- A seat report: unit present, MIC and NEXT pressed, volume 9, sum 0 (Table 12-2, R10). -/
theorem test_seat_report :
    report? [0x85, 0x09, 0x72] = some { mic := true, priority := false, next := true, volume := 9 } ∧
    report? [0x85, 0x09, 0x73] = none ∧ report? [0x05, 0x09, 0xF2] = none := by decide +kernel

/-! ### States for the witnesses -/

/-- All links LOCKED. -/
def locked (s : State) : State :=
  let l := { LinkState.reset with locked := true }
  s.withLinks { chainA := l, chainB := l, trunk := l }

/-- The machine after RESET, its links LOCKED. -/
def start : State := locked State.reset

/-- The machine so far with this floor. -/
def onFloor (f : Floor) : State := start.withFloor f

/-- The idle meeting's setup with this mode and max open. -/
def setupOf (mode : Mode) (maxOpen : Nat) : FloorSetup :=
  { FloorSetup.reset with mode := mode, maxOpen := maxOpen }

/-- A timer without compares. -/
def plainTimer : Timer :=
  { elapsed := 0, running := true, owed := false, warned := false, overtime := false, warn := none
    limit := none }

/-- An entry of a delegate. -/
def entry (n : Seat) : Entry := { seat := n, chair := false, how := .press, timer := plainTimer }

/-- An entry of a chair. -/
def chairEntry (n : Seat) : Entry := { entry n with chair := true }

/-- A request of this stamp. -/
def asks (n : Seat) (stamp : Stamp) : Request := { seat := n, stamp := stamp }

/-- A seat in this presence state. -/
def seatAs (n : Seat) (p : Presence) (s : State) : State :=
  setSeat n { SeatUnit.reset with presence := p } s

/-- A seat with this role in the Seat Table. -/
def roleAs (n : Seat) (r : Role) (s : State) : State :=
  s.withSeatTable (upd s.seatTable n { SeatEntry.reset with role := r })

/-- The next outgoing frame has this index. -/
def atFrame (k : Fin 32) (s : State) : State := s.withTime { stamp := 9, frame := k }

/-- The cursor at this entry. -/
def cursorAt (t : TableName) (i : Nat) (s : State) : State :=
  s.withPort { s.port with cursor := { table := t, index := i } }

/-- An answer, for a FIFO that holds some. -/
def someAnswer : Answer := { tag := 1, code := 0x39, answer := .done, result := [] }

/-- These many answers and cells wait. -/
def waiting (cells answers : Nat) (s : State) : State :=
  s.withPort { s.port with fifo := List.replicate cells (cell 0x39 [])
                           answers := List.replicate answers someAnswer }

/-- Seat 7 open with this timer, under this limit action. -/
def timed (a : LimitAction) (t : Timer) : State :=
  onFloor { Floor.reset with setup := { FloorSetup.reset with action := a, limit := some 60 }
                             openList := [{ entry 7 with timer := t }] }

/-- A timer with its warn point at 30,000 ms and its limit at 60,000 ms. -/
def limited (elapsed : Nat) (running warned overtime : Bool) : Timer :=
  { elapsed := elapsed, running := running, owed := running, warned := warned, overtime := overtime
    warn := some 30000, limit := some 60000 }

/-- The state after a command; the state itself should the command not answer a next state. -/
def after (i : Instr) (s : State) : State :=
  match exec i s with
  | .next t => t
  | _ => s

/-- A command that comes on a LOCKED trunk with both FIFOs empty is carried out. -/
theorem arrives (i : Instr) (s : State) (h : s.port.fifo = []) (g : s.port.answers = [])
    (l : s.links.trunk.locked = true) : Ready i s [] :=
  ⟨by rw [g]; decide, Or.inl ⟨h, l, rfl⟩⟩

/-! ### Witnesses: the machine and the port -/

theorem witness_step : (start.withPending [.outgoingFrame]).pending = .outgoingFrame :: [] ∧
    start.pending = [] := ⟨rfl, rfl⟩

theorem witness_queue_kept : exec .answerSent start = .next start := rfl

/-- A floor, a log, a display and a port in use, with a command waiting. -/
def busy : State :=
  { start with
    floor := { Floor.reset with setup := setupOf .queued 1, openList := [entry 3], queue := [asks 5 0] }
    log := { ring := [{ seq := 0, time := .zero, event := .seatJoin, seat := some 3, booking := some 0 }]
             unread := 1, nextSeq := 1 }
    notices := { Notices.reset with summary := { Sources.none with log := true, clock := true } }
    displays := { start.displays with
                  records := upd start.displays.records 0
                    { DisplayRecord.reset with state := .on, phase := some .steady }
                  queue := [{ display := 0, code := .input 2 }] }
    port := { Port.reset with answers := [someAnswer] }
    pending := [.queueClear 7 (some ())] }

theorem witness_laws : summaryLaw busy ∧ logLaw busy ∧ floorLaw busy ∧ advanceLaw busy ∧ fifoLaw busy ∧
    (∃ t, step busy = .next t) := by
  refine ⟨by unfold summaryLaw; decide +kernel, ⟨by decide +kernel, by decide +kernel, ?_⟩, ?_, ?_,
    ⟨by decide +kernel, by decide +kernel⟩, ⟨_, rfl⟩⟩
  · exact ⟨by decide +kernel, trivial⟩
  · unfold floorLaw setupsLaw; decide +kernel
  · intro _ h; revert h; decide +kernel

theorem witness_display_law : displayLaw busy ∧ ∃ t, step busy = .next t := by
  refine ⟨fun d => ?_, ⟨_, rfl⟩⟩
  match d with
  | 0 => exact ⟨by decide +kernel, by decide +kernel, by decide +kernel, by decide +kernel⟩
  | 1 => exact ⟨by decide +kernel, by decide +kernel, by decide +kernel⟩
  | 2 => exact ⟨by decide +kernel, by decide +kernel, by decide +kernel⟩
  | 3 => exact ⟨by decide +kernel, by decide +kernel, by decide +kernel⟩

theorem witness_reset_pin : 10000 ≤ 10000 ∧ 9999 < 10000 := by decide

theorem witness_full_answers : (rowCell (.grantNext 7 (some ()))).isSome = true ∧
    8 ≤ (waiting 1 8 start).port.answers.length ∧ State.reset.port.fifo = [] ∧
    State.reset.links.trunk.locked = false := by decide +kernel

theorem witness_cells_read :
    isKnown 0x4A = false ∧ isKnown 0x49 = true ∧ (CommandCell.mk 7 0x49 none).body = none ∧
    ((0x14 : Byte), 12) ∈ [((0x02 : Byte), 0), (0x14, 12)] ∧
    (TableName.booking, 33) ∈ [(TableName.seat, 3), (.booking, 33)] ∧
    (2 : Byte) ≠ 0 ∧ (2 : Byte) ≠ 1 ∧ [(2 : Byte), 0].head? = some 2 ∧
    [(65535, 1)].all (fun p : Nat × Nat => decide (p.1 < 65536 ∧ p.2 < 65536)) = true ∧
    (setup? { zeroSetup with maxOpen := 6, limit := 3600, threshold := 524287, hold := 5000 }).isSome = true ∧
    (idle? ⟨true, { zeroSetup with maxOpen := 1, hold := 50 }, 1⟩).isSome = true ∧
    (fixed? { zeroBooking with id := 65535, start := 10079, plan := Vector.replicate 4 ⟨true, 4⟩
                               setup := { zeroSetup with maxOpen := 1, hold := 50 } }).isSome = true ∧
    (preset? ⟨1000, 50, 120, 300⟩).isSome = true ∧ 65535 < 65536 := by decide +kernel

theorem witness_form_errors :
    (isFormError (.restart 7 none) = true ∧ rowCell (.restart 7 none) = some (7, 0x09) ∧
      Ready (.restart 7 none) start []) ∧
    Ready (.select 7 none) start [] ∧ Ready (.get 7 none) start [] ∧
    (Instr.putNom 7 none ∈ [Instr.putSeat 7 none, .putName 7 none, .putGain 7 none, .putNom 7 none,
      .putBooking 7 none, .putIdle 7 none, .putDisplay 7 none] ∧
      Ready (.putNom 7 none) (cursorAt .nom 0 start) []) ∧
    (isKnown 0x4A = false ∧ Ready (.unknownCommand 7 0x4A) start []) :=
  ⟨⟨rfl, rfl, arrives _ _ rfl rfl rfl⟩, arrives _ _ rfl rfl rfl, arrives _ _ rfl rfl rfl,
    ⟨by decide +kernel, arrives _ _ rfl rfl rfl⟩, ⟨rfl, arrives _ _ rfl rfl rfl⟩⟩

/-- A command that waits at the head of a FIFO with two cells. -/
theorem witness_ready_at_the_head :
    Ready (.clockGet 7 (some ())) (waiting 2 7 start) [cell 0x39 []] :=
  ⟨by decide +kernel, Or.inr ⟨cell 0x39 [], rfl, by decide +kernel⟩⟩

/-- A cell has arrived. -/
def withCell (c : List Byte) (s : State) : State := s.withPort { s.port with arrived := some c }

theorem witness_cell_arrives :
    (∀ c : List Byte, (withCell c (waiting 7 8 start)).port.arrived = some c) ∧
    (∀ code : Byte, ∃ c : List Byte, commandCell? c = some (cell code [])) ∧
    (waiting 7 8 start).port.fifo.length < 8 ∧
    8 ≤ (waiting 8 7 start).port.fifo.length ∧ (waiting 8 7 start).port.answers.length < 8 ∧
    8 ≤ (waiting 8 8 start).port.fifo.length ∧ 8 ≤ (waiting 8 8 start).port.answers.length ∧
    commandCell? (clockGetCell 0x3D 0x33) = none :=
  ⟨fun _ => rfl, test_any_cell_is_read, by decide +kernel, by decide +kernel, by decide +kernel,
    by decide +kernel, by decide +kernel, test_bad_crc_is_not_read⟩

theorem witness_upstream_slot :
    (locked (waiting 0 1 start)).port.slot = none ∧
    (locked (waiting 0 1 start)).links.trunk.locked = true ∧
    (locked (waiting 0 1 start)).port.answers = someAnswer :: [] ∧
    (locked start).port.answers = [] ∧ (locked start).notices.pending = true :=
  ⟨rfl, rfl, rfl, rfl, rfl⟩

/-! ### Witnesses: chains and the trunk -/

theorem witness_missing_report :
    Link.chainB ≠ .trunk ∧ seatAt .chainB ((atFrame 1 start).time.frame - 1) = 32 ∧
    goodFrame 86 ((atFrame 1 start).time.frame - 1) [] = false ∧
    (∀ p ∈ [Presence.absent, .joining1, .joining2, .present, .fading 0, .fading 5],
      presenceOf (seatAs 32 p (atFrame 1 start)) 32 = p ∧ p ≠ .fading 6) := by decide +kernel

theorem witness_missing_report_unlocked :
    (linkState (atFrame 0 State.reset).links .chainA).locked = false ∧
    seatAt .chainA ((atFrame 0 State.reset).time.frame - 1) = 31 := by decide +kernel

/-- Seat 32 at the end of its FADING, the next frame that of its partner. -/
def eighth (f : Floor) : State := seatAs 32 (.fading 6) (atFrame 1 (onFloor f))

theorem witness_eighth_missing_report :
    presenceOf (eighth Floor.reset) 32 = .fading 6 ∧
    micState (eighth { Floor.reset with openList := [entry 32] }).floor 32 = .opened ∧
    micState (eighth { Floor.reset with queue := [asks 32 0] }).floor 32 = .waiting ∧
    micState (eighth { Floor.reset with phase := .hold, remote := true, shadow := [entry 32] }).floor 32 =
      .held ∧
    micState (eighth { Floor.reset with armed := [32] }).floor 32 = .armed ∧
    (eighth { Floor.reset with phase := .hold, holders := [32] }).floor.holders.contains 32 = true := by
  decide +kernel

/-- A chain frame of index 0 with silent microphones and the report of `test_seat_report`. -/
def chainBytes : List Byte := [0xB3, 0x6C, 0] ++ List.replicate 80 0 ++ [0x85, 0x09, 0x72]

theorem witness_valid_report :
    Link.chainB ≠ .trunk ∧ seatAt .chainB ((atFrame 1 start).time.frame - 1) = 32 ∧
    goodFrame 86 ((atFrame 1 start).time.frame - 1) chainBytes = true ∧
    (linkState (atFrame 1 start).links .chainB).locked = true ∧
    report? (chainBytes.drop 83) = some { mic := true, priority := false, next := true, volume := 9 } ∧
    report? ((chainBytes.set 85 0x73).drop 83) = none ∧
    goodFrame 86 ((atFrame 1 start).time.frame - 1) (chainBytes.set 85 0x73) = true ∧
    (∀ p ∈ [Presence.absent, .joining1, .joining2, .present, .fading 6],
      presenceOf (seatAs 32 p (atFrame 1 start)) 32 = p ∧
        (linkState (seatAs 32 p (atFrame 1 start)).links .chainB).locked = true) := by
  decide +kernel

theorem witness_samples :
    true = (Button.mk true 2 5).pressed ∧
    (∀ k ∈ [0, 1, 2], true ≠ (Button.mk false k 5).pressed ∧ (Button.mk false k 5).run = k) := by
  decide +kernel

/-- A trunk frame of index 31 with an empty cell. -/
def trunkBytes : List Byte := [0xB3, 0x6C, 31] ++ List.replicate 517 0

theorem witness_trunk_frame :
    State.reset.port.arrived = none ∧ start.port.arrived = none ∧
    goodFrame 520 (start.time.frame - 1) trunkBytes = true ∧ start.links.trunk.locked = true ∧
    goodFrame 520 (start.time.frame - 1) chainBytes = false ∧
    State.reset.links.trunk.locked = false := by decide +kernel

theorem witness_waiting_cell :
    let s := start.withPort { start.port with arrived := some [] }
    exec .commandCellArrival s = .next start ∧ s.port.arrived = some [] := ⟨rfl, rfl⟩

/-- The machine after RESET with chain A's link in this state. -/
def linkAs (l : LinkState) : State := start.withLinks { start.links with chainA := l }

theorem witness_judged_link :
    (atFrame 31 start).time.frame ≠ 0 ∧ start.time.frame = 0 ∧
    ((linkState (linkAs ⟨false, 3, 0, true, false⟩).links .chainA).sfBad ||
      !goodFrame 86 (start.time.frame - 1) chainBytes) = true ∧
    ((linkState (linkAs ⟨false, 3, 0, false, false⟩).links .chainA).sfBad ||
      !goodFrame 86 (start.time.frame - 1)
        ([0xB3, 0x6C, 31] ++ List.replicate 83 0)) = false ∧
    (LinkState.mk false 2 0 false false).goodRun < 3 ∧ (LinkState.mk false 3 0 false false).goodRun = 3 ∧
    (LinkState.mk true 0 0 true false).badRun = 0 ∧ (LinkState.mk true 0 1 true false).badRun = 1 := by
  decide +kernel

theorem witness_lock_change :
    (linkState (linkAs ⟨false, 3, 0, false, true⟩).links .chainA).change = true ∧
    (linkState (linkAs ⟨false, 3, 0, false, true⟩).links .chainA).locked = false ∧
    (linkState (linkAs ⟨true, 0, 1, false, true⟩).links .chainA).change = true ∧
    (linkState (linkAs ⟨true, 0, 1, false, true⟩).links .chainA).locked = true ∧
    start.notices.summary.link = false ∧ (after (.noticeSet 7 (some (4, 1))) start).notices.mask.link = true := by
  decide +kernel

/-- The trunk about to unlock with its upstream slot filled and this many answers waiting. -/
def unlocking (c : UpCell) (answers : Nat) : State :=
  let s := waiting 0 answers start
  (s.withPort { s.port with slot := some c }).withLinks { s.links with trunk := ⟨true, 0, 1, true, true⟩ }

theorem witness_trunk_unlock (n : Notice) :
    (linkState (unlocking (.answer someAnswer) 7).links .trunk).change = true ∧
    (linkState (unlocking (.answer someAnswer) 7).links .trunk).locked = true ∧
    (unlocking (.answer someAnswer) 7).port.slot = some (.answer someAnswer) ∧
    (unlocking (.answer someAnswer) 7).port.answers.length < 8 ∧
    (unlocking (.notice n) 0).port.slot = some (.notice n) :=
  ⟨rfl, rfl, rfl, by decide +kernel, rfl⟩

/-! ### Witnesses: frames and superframes -/

/-- Chains LOCKED; seat 0 waits, seat 1 is open, seat 2 is off, seat 3 was refused; all four are PRESENT. -/
def table4 : State :=
  let s := onFloor { Floor.reset with setup := setupOf .direct 1, openList := [entry 1], queue := [asks 0 0] }
  setSeat 3 { SeatUnit.reset with presence := .present, refused := 500 }
    (locked (seatAs 0 .present (seatAs 1 .present (seatAs 2 .present s))))

theorem witness_frame_settled : frameSettled State.reset ∧ frameSettled (waiting 0 1 start) ∧
    frameSettled table4 ∧ frameSettled (onFloor { Floor.reset with phase := .alert }) :=
  ⟨rfl, rfl, rfl, rfl⟩

/-- A lock change, a REFUSED timer, a message and the step of the quiet count are owed. -/
def owing : State :=
  let s := setSeat 63 { SeatUnit.reset with refused := 1 }
    (setMessage 63 (some { text := [0x41], left := some 1 })
      (start.withLinks { start.links with chainA := ⟨true, 0, 1, false, true⟩ }))
  s.withDue { Due.none with refused := [63], messages := [63], quiet := true }

theorem witness_owing :
    frameSettled (settleFrame owing) ∧ settleEnd (settleEnd owing) = settleEnd owing ∧
    settleStart (settleStart owing) = settleStart owing ∧ (look (settleFrame owing).seats 63).refused = 0 ∧
    look (settleFrame owing).screens.messages 63 = none ∧
    (linkState (settleFrame owing).links .chainA).locked = false ∧ (settleFrame owing).notices.quiet = 1 := by
  refine ⟨rfl, rfl, rfl, ?_⟩; decide +kernel

theorem witness_frame_buses :
    start.floor.phase ≠ .alert ∧ (onFloor { Floor.reset with phase := .alert }).floor.phase = .alert ∧
    State.reset.links.trunk.locked = false ∧ (waiting 0 1 start).links.trunk.locked = true ∧
    (waiting 0 1 start).port.slot = none ∧ (waiting 0 1 start).port.answers = someAnswer :: [] ∧
    start.port.answers = [] ∧ start.port.slot = none ∧ start.notices.pending = true ∧
    (after .noticeSent start).port.slot.isSome = true ∧ frameSettled (after .noticeSent start) := by
  refine ⟨by decide, rfl, rfl, rfl, rfl, rfl, rfl, rfl, rfl, rfl, rfl⟩

theorem witness_frame_feeds :
    (linkState State.reset.links .chainB).locked = false ∧ (linkState table4.links .chainA).locked = true ∧
    presenceOf table4 (seatAt .chainA 31) = .absent ∧
    micState table4.floor (seatAt .chainA 1) = .opened ∧ presenceOf table4 (seatAt .chainA 2) ≠ .absent ∧
    micState table4.floor (seatAt .chainA 2) ≠ .opened := by decide +kernel

theorem witness_frame_orders :
    takesPart (presenceOf table4 0) = true ∧ micState table4.floor 0 = .waiting ∧
    micState table4.floor 2 = .off ∧ 0 < (look table4.seats 3).refused ∧
    takesPart (presenceOf table4 31) = false ∧ seatAt .chainA table4.time.frame = 0 ∧
    micState { Floor.reset with phase := .hold, shadow := [entry 0], remote := true } 0 = .held ∧
    micState { Floor.reset with setup := setupOf .voice 1, armed := [0] } 0 = .armed ∧
    micState table4.floor 1 = .opened ∧ openTimer table4.floor 1 = some plainTimer ∧
    openTimer (timed .notify (limited 60000 true true true)).floor 7 = some (limited 60000 true true true) ∧
    (limited 30000 true true false).overtime = false ∧ (limited 30000 true true false).warned = true ∧
    (nextFragment table4 0).isSome = true ∧ presenceOf table4 5 = .absent := by decide +kernel

/-- Seat 7 with its wanted image shown. -/
def settled7 : State :=
  setShown 7 { line1 := Vector.ofFn (fun i => (wantedLine1 start 7)[i.val]?)
               line2 := Vector.ofFn (fun i => (wantedLine2 start 7)[i.val]?) } start

theorem witness_no_fragment : nextFragment settled7 7 = none := by decide +kernel

/-- The booking of slot 15 is the meeting, with seat 4 under name 9 in its list; 2 min are left of it. -/
def meetingOn (st : Stage) (title : Option NameNo) (f : Floor) : State :=
  let x : Fixed :=
    { id := 1, start := 0, finish := 60, lead := 0, grace := 0, endWarn := 5, weekly := false, bank := 0
      chair := none, title := title, plan := Vector.replicate 4 { used := false, input := 0 }
      setup := FloorSetup.reset }
  let s := setSlot 15 (.committed st x [⟨4, 9⟩] 60 60) (onFloor { f with meeting := .booking 15 1 none })
  s.withClock { time := ⟨0, 0, 58, 0, 0⟩, valid := true }

theorem witness_wanted_line1 :
    (∃ k id chair, (meetingOn .active none Floor.reset).floor.meeting = .booking k id chair ∧
      (slotItems (look (meetingOn .active none Floor.reset).sched.slots k)).find?
        (fun j => decide (j.seat = 4)) = some ⟨4, 9⟩ ∧
      ∀ i ∈ slotItems (look (meetingOn .active none Floor.reset).sched.slots k), i.seat ≠ 5) ∧
    (look start.seatTable 5).name = none ∧
    (look (start.withSeatTable (upd start.seatTable 5 ⟨.delegate, some 127, false⟩)).seatTable 5).name = some 127 :=
  ⟨⟨15, 1, none, rfl, by decide +kernel, by decide +kernel⟩, by decide +kernel, by decide +kernel⟩

theorem witness_wanted_line2 :
    (onFloor { Floor.reset with phase := .alert }).floor.phase = .alert ∧
    (onFloor { Floor.reset with phase := .closed, meeting := .none }).floor.phase = .closed ∧
    look (setMessage 5 (some ⟨[0x41], none⟩) start).screens.messages 5 = some ⟨[0x41], none⟩ ∧
    look start.screens.messages 5 = none ∧
    micState { Floor.reset with phase := .hold, remote := true, shadow := [entry 5] } 5 = .held ∧
    (timed .close (limited 45000 true true false)).floor.phase = .running ∧
    micState (timed .close (limited 45000 true true false)).floor 7 = .opened ∧
    [asks 4 0, asks 5 0] = [asks 4 0] ++ asks 5 0 :: [] ∧ (∀ e ∈ [asks 4 0], e.seat ≠ 5) ∧
    micState { Floor.reset with queue := [asks 4 0, asks 5 0] } 5 = .waiting ∧
    (∃ f items booked current, look (meetingOn .ending none Floor.reset).sched.slots 15 =
      .committed .ending f items booked current) ∧
    micState { Floor.reset with setup := setupOf .voice 1, armed := [5] } 5 = .armed ∧
    effectiveRole (roleAs 5 .chair start) 5 = .chair ∧ start.floor.setup.mode = .direct ∧
    (slotFixed (look (meetingOn .active (some 127) Floor.reset).sched.slots 15)).map Fixed.title =
      some (some 127) := by
  refine ⟨rfl, rfl, by decide +kernel, by decide +kernel, by decide, rfl, by decide, rfl, by decide, by decide,
    ⟨_, _, _, _, rfl⟩, by decide, by decide +kernel, by decide, by decide +kernel⟩

/-- Seat 7 with line 1 shown and line 2 unknown. -/
def settledLine1 : State :=
  setShown 7 { look settled7.screens.shown 7 with line2 := Vector.replicate 24 none } start

theorem witness_fragment :
    ((nextFragment start 7).map (fun x => x.1.line) = some 1) ∧
    ((nextFragment settledLine1 7).map (fun x => x.1.line) = some 2) := by decide +kernel

/-- Six delegates and two chairs open and PRESENT. -/
def fullTable : State :=
  let s := onFloor
    { Floor.reset with
      setup := setupOf .direct 6
      openList := [entry 0, entry 1, entry 2, entry 3, entry 4, entry 5, chairEntry 62, chairEntry 63] }
  [0, 1, 2, 3, 4, 5, 62, 63].foldl (fun t n => seatAs n .present t)
    (roleAs 62 .chair (roleAs 63 .chair s))

theorem witness_superframe_start : settleStart start = start ∧ settleStart fullTable = fullTable ∧
    (capture start).mixer.capSeats = [] ∧ (capture fullTable).mixer.capSeats.length = 8 ∧
    (RoomTime.mk 6 23 59 59 999).day ≤ 6 ∧ (RoomTime.mk 6 23 59 59 999).hour ≤ 23 ∧
    (RoomTime.mk 6 23 59 59 999).minute ≤ 59 ∧ (RoomTime.mk 6 23 59 59 999).second ≤ 59 ∧
    (RoomTime.mk 6 23 59 59 999).ms ≤ 999 := by
  refine ⟨rfl, rfl, ?_⟩; decide +kernel

/-- Counters at 2 and at 1. -/
def counting : State :=
  let s := (setSeat 0 { SeatUnit.reset with refused := 2 } (setSeat 1 { SeatUnit.reset with refused := 1 }
    (setMessage 5 (some { text := [0x41], left := some 2 }) start)))
  setRecord 3 { DisplayRecord.reset with state := .warming, phase := some .timing, timer := 2 } s

/-- A message with one ms left, and one until cleared. -/
def expiringTwo : State :=
  setMessage 5 (some { text := [0x41], left := some 1 }) (setMessage 6 (some { text := [0x42], left := none }) start)

theorem witness_superframe_end : settleEnd counting = counting ∧ 1 < (look counting.seats 0).refused ∧
    (look counting.seats 1).refused ≤ 1 ∧
    look counting.screens.messages 5 = some { text := [0x41], left := some 2 } ∧
    1 < (look counting.displays.records 3).timer ∧ (look counting.displays.records 0).timer ≤ 1 ∧
    look counting.screens.messages 0 = none ∧ look (settleEnd expiringTwo).screens.messages 5 =
      some { text := [0x41], left := some 1 } ∧
    look (settleEnd expiringTwo).screens.messages 6 = some { text := [0x42], left := none } := by
  refine ⟨rfl, ?_⟩; decide +kernel

/-- R19, R126, R146: a superframe end marks what stands at its last count, and only that. -/
theorem test_last_counts_are_marked :
    (after .superframeEnd counting).due.refused = [1] ∧ (after .superframeEnd expiringTwo).due.messages = [5] ∧
    (after .superframeEnd counting).due.displays = [] ∧
    (after .superframeEnd (after .superframeEnd counting)).due.displays = [3] := by decide +kernel

/-- The step of a quiet count is owed, and nothing else. -/
def quietAt (k : Nat) : State :=
  (start.withNotices { start.notices with quiet := k }).withDue { Due.none with quiet := true }

theorem witness_quiet_step (k : Nat) :
    settleEmitter (settleExpiries (settleLinks (takeBoundary (takeCounts (quietAt k))))) = quietAt k ∧
    (quietAt k).due.quiet = true ∧ (quietAt k).notices.quiet = k ∧ 31 < 32 ∧ 32 ≤ 32 := by
  refine ⟨rfl, rfl, rfl, by decide, by decide⟩

/-- A log of this many records, all of them unread. -/
def logOf (k : Nat) : State :=
  start.withLog
    { ring := List.replicate k
        { seq := 0, time := .zero, event := .alertOff, seat := none, booking := none }
      unread := k, nextSeq := 0 }

theorem witness_append :
    (logOf 255).log.ring.length < 256 ∧ 256 ≤ (logOf 256).log.ring.length ∧
    (logOf 255).log.unread < 256 ∧ 256 ≤ (logOf 256).log.unread := by decide +kernel

/-! ### Witnesses: the floor -/

/-- One ARMED seat with voice present, in VOICE. -/
def speaking : State :=
  (onFloor { Floor.reset with setup := setupOf .voice 6, armed := [4, 9] }).withGate
    { Gate.reset with filters := upd (upd Gate.reset.filters 9 { VoiceFilter.rest with present := true })
                                     4 { VoiceFilter.rest with present := true } }

/-- Somebody waits at the table with a free slot. -/
def waits (mode : Mode) : State := onFloor { Floor.reset with setup := setupOf mode 1, queue := [asks 5 0] }

theorem witness_slots_fill :
    speaking.floor.setup.mode = .voice ∧ slotFree speaking.floor = true ∧ candidate speaking = some 4 ∧
    micState speaking.floor 9 = .armed ∧ (look speaking.gate.filters 9).present = true ∧
    slotFree (waits .direct).floor = true ∧ (waits .direct).floor.queue = asks 5 0 :: [] ∧
    (waits .direct).floor.setup.mode = .direct ∧ slotFree (waits .queued).floor = true ∧
    (waits .queued).floor.setup.mode = .queued ∧ (waits .queued).floor.setup.autoAdvance = true := by
  decide +kernel

theorem witness_nobody_waits : nobodyWaits start := ⟨rfl, rfl⟩

theorem witness_open_timer (a : LimitAction) (t : Timer) :
    (timed a t).floor.openList = [] ++ { entry 7 with timer := t } :: [] ∧
    hasEntry (timed a t).floor.openList 8 = false := ⟨rfl, rfl⟩

theorem witness_matches :
    (let t := limited 29999 true false false; t.owed = true ∧ t.running = true ∧ owesMatch t = true ∧
      t.warned = false ∧ t.warn = some 30000 ∧ t.limit = some 60000 ∧ 29999 + 1 < 60000) ∧
    (let t := limited 59999 true false false; t.warned = false ∧ t.overtime = false ∧ 60000 ≤ 59999 + 1) ∧
    (let t := limited 59999 true true false; t.warned = true ∧ t.overtime = false ∧ t.owed = true) ∧
    (timed .close (limited 59999 true true false)).floor.setup.action = .close ∧
    (timed .notify (limited 59999 true true false)).floor.setup.action = .notify ∧
    owesMatch (limited 29998 true false false) = false ∧ (limited 29998 true false false).owed = true ∧
    (limited 29999 false false false).owed = false ∧ (limited 59999 true true true).overtime = true ∧
    plainTimer.warn = none ∧ plainTimer.limit = none := by
  decide +kernel

/-- A frame owes no count, and the counts that are owed are left to the superframe start. -/
theorem witness_counts_left_over :
    let s := timed .close (limited 59999 true true false)
    let t := s.withDue { s.due with quiet := true }
    frameSettled (t.withDue { t.due with quiet := false }) ∧ mayTake t = false ∧ endsThisFrame t = false ∧
      settleEnd s = s ∧ takeCounts s ≠ s := by
  refine ⟨rfl, rfl, rfl, rfl, by decide +kernel⟩

/-- An older entry owes its warning, and seat 7 owes one too. -/
theorem witness_match_in_order :
    [{ entry 9 with timer := limited 29999 true false false }].all (fun x => owesMatch x.timer) = true ∧
    (entry 9).seat ≠ 7 ∧ (limited 5999999 true true true).elapsed = 5999999 := by decide +kernel

/-- A queue of this many seats. -/
def queueOf (k : Nat) : List Request :=
  (allSeats.take k).map (fun n => asks n 0)

/-- The floor RUNNING in a mode, with one open delegate and a queue of this many seats. -/
def table (mode : Mode) (maxOpen k : Nat) : State :=
  onFloor { Floor.reset with setup := setupOf mode maxOpen, openList := [entry 50], queue := queueOf k }

theorem witness_press_direct :
    (table .direct 2 0).floor.phase = .running ∧ effectiveRole (table .direct 2 0) 40 = .delegate ∧
    micState (table .direct 2 0).floor 40 = .off ∧ slotFree (table .direct 2 0).floor = true ∧
    slotFree (table .direct 1 23).floor = false ∧ micState (table .direct 1 23).floor 40 = .off ∧
    (table .direct 1 23).floor.queue.length < 24 ∧ 24 ≤ (table .direct 1 24).floor.queue.length ∧
    micState (table .direct 1 24).floor 40 = .off ∧ micState (table .direct 1 24).floor 3 = .waiting ∧
    micState (table .direct 1 24).floor 50 = .opened := by decide +kernel

theorem witness_press_other_modes :
    (table .queued 1 23).floor.setup.mode = .queued ∧ micState (table .queued 1 23).floor 40 = .off ∧
    micState (table .overrideMode 2 0).floor 40 = .off ∧
    delegates (table .overrideMode 2 0).floor ≠ (table .overrideMode 2 0).floor.setup.maxOpen ∧
    delegates (table .overrideMode 1 0).floor = (table .overrideMode 1 0).floor.setup.maxOpen ∧
    ((table .overrideMode 1 0).floor.openList.filter (fun x => !x.chair)).head? = some (entry 50) ∧
    micState speaking.floor 40 = .off ∧ micState speaking.floor 9 = .armed ∧
    effectiveRole speaking 40 = .delegate := by decide +kernel

/-- The floor with chairs 0 and 1, chair 0 open. -/
def chaired (phase : FloorState) (holders : List Seat) (remote : Bool) : State :=
  roleAs 2 .listenOnly (roleAs 1 .chair (roleAs 0 .chair
    (onFloor { Floor.reset with phase := phase, openList := [chairEntry 0], queue := [asks 5 0]
                                holders := holders, remote := remote })))

theorem witness_chair_presses :
    (chaired .running [] false).floor.phase = .running ∧ (chaired .hold [1] false).floor.phase = .hold ∧
    effectiveRole (chaired .running [] false) 1 = .chair ∧
    hasEntry (chaired .running [] false).floor.openList 1 = false ∧
    hasEntry (chaired .running [] false).floor.openList 0 = true ∧
    slotFree (chaired .running [] false).floor = true ∧
    (chaired .running [] false).floor.queue = asks 5 0 :: [] ∧
    slotFree (table .direct 1 0).floor = false ∧ (table .direct 1 0).floor.queue = [] ∧
    effectiveRole (roleAs 0 .chair (table .direct 1 0)) 0 = .chair ∧
    effectiveRole (chaired .running [] false) 2 = .listenOnly ∧
    effectiveRole (chaired .running [] false) 63 = .delegate ∧
    (onFloor { Floor.reset with phase := .closed, meeting := .none }).floor.phase = .closed := by
  decide +kernel

/-- A hold in a mode, with seat 5 in the queue, seat 6 in the Shadow and seat 4 ARMED. -/
def holding (mode : Mode) : State :=
  onFloor { Floor.reset with phase := .hold, setup := setupOf mode 1, remote := true, queue := [asks 5 0]
                             shadow := [entry 6], armed := [4] }

theorem witness_press_in_hold :
    (∀ m ∈ [Mode.direct, .queued, .overrideMode, .voice], (holding m).floor.phase = .hold ∧
      effectiveRole (holding m) 63 = .delegate ∧ micState (holding m).floor 63 = .off ∧
      micState (holding m).floor 5 = .waiting ∧ micState (holding m).floor 6 = .held ∧
      micState (holding m).floor 4 = .armed) ∧
    (holding .direct).floor.queue.length < 24 ∧
    (chaired .hold [1] true).floor.holders.contains 0 = false := by decide +kernel

theorem witness_releases :
    (chaired .hold [1] true).floor.holders.contains 1 = true ∧ (chaired .hold [1] true).floor.remote = true ∧
    (chaired .hold [0, 1] false).floor.holders.any (fun m => decide (m ≠ 1)) = true ∧
    (chaired .hold [1] false).floor.remote = false ∧
    (chaired .hold [1] false).floor.holders.all (fun m => decide (m = 1)) = true ∧
    ButtonName.mic ≠ .priority := by decide +kernel

theorem witness_priority_commands (holders : List Seat) (remote : Bool) :
    Ready (.priorityOn 7 (some ())) (chaired .running [] false) [] ∧
    Ready (.priorityOff 7 (some ())) (chaired .hold holders remote) [] ∧
    (chaired .running [] false).floor.remote = false ∧ (chaired .hold [1] true).floor.holders ≠ [] ∧
    (chaired .hold [] true).floor.remote = true ∧ (chaired .hold [] true).floor.holders = [] ∧
    (chaired .alert [] false).floor.phase = .alert :=
  ⟨arrives _ _ rfl rfl rfl, arrives _ _ rfl rfl rfl, rfl, by decide +kernel, rfl, rfl, rfl⟩

/-- A hold whose Shadow holds more seats than fit. -/
def inHold : State :=
  onFloor { Floor.reset with phase := .hold, setup := setupOf .direct 2, remote := true
                             openList := [chairEntry 0], shadow := [entry 1, entry 2, entry 3] }

theorem witness_hold_end :
    seatsDistinct inHold.floor.shadow ∧ inHold.floor.setup.mode ≠ .voice ∧
    inHold.floor.setup.maxOpen - delegates inHold.floor = 2 ∧ inHold.floor.shadow.length = 3 ∧
    seatsDistinct (holding .voice).floor.shadow ∧ (holding .voice).floor.setup.mode = .voice := by
  refine ⟨by unfold seatsDistinct; decide, by decide, by decide, rfl, by unfold seatsDistinct; decide, rfl⟩

/-! ### Witnesses: floor commands -/

theorem witness_seat_open_ready (k : Nat) (mode : Mode) (a b : Nat) :
    Ready (.seatOpen 7 (some k)) (table mode a b) [] ∧ Ready (.seatOpen 7 (some 64)) start [] ∧
    63 < 64 := ⟨arrives _ _ rfl rfl rfl, arrives _ _ rfl rfl rfl, by decide⟩

/-- Seat 63 takes part, at the end of its FADING. -/
def last (s : State) : State := seatAs 63 (.fading 6) s

theorem witness_seat_open :
    takesPart (presenceOf (last (table .direct 2 0)) 63) = true ∧
    takesPart (presenceOf (table .direct 2 0) 63) = false ∧
    (onFloor { Floor.reset with phase := .closed, meeting := .none }).floor.phase = .closed ∧
    effectiveRole (roleAs 63 .listenOnly (last start)) 63 = .listenOnly ∧
    effectiveRole (last (table .direct 2 0)) 63 = .delegate ∧
    hasEntry (last (table .direct 2 0)).floor.openList 63 = false ∧
    hasEntry (table .direct 2 0).floor.openList 50 = true ∧
    effectiveRole (roleAs 63 .chair (last start)) 63 = .chair ∧
    (last inHold).floor.phase = .hold ∧ effectiveRole (last inHold) 63 = .delegate ∧
    slotFree (last (table .queued 2 0)).floor = true ∧ slotFree (last (table .queued 1 0)).floor = false ∧
    delegates (last (table .overrideMode 2 0)).floor ≠ 2 ∧
    delegates (last (table .overrideMode 1 0)).floor = 1 ∧
    micState (last speaking).floor 63 = .off ∧ micState (seatAs 9 .present speaking).floor 9 = .armed := by
  decide +kernel

theorem witness_seat_close :
    (∀ (k : Nat) (s : State), s.port.fifo = [] → s.port.answers = [] → s.links.trunk.locked = true →
      Ready (.seatClose 7 (some k)) s []) ∧
    micState (table .direct 1 24).floor 50 = .opened ∧ micState (table .direct 1 24).floor 0 = .waiting ∧
    micState inHold.floor 3 = .held ∧ micState speaking.floor 4 = .armed ∧
    micState start.floor 63 = .off :=
  ⟨fun _ _ h g l => arrives _ _ h g l, by decide +kernel, by decide +kernel, by decide +kernel,
    by decide +kernel, by decide +kernel⟩

theorem witness_queue_clear :
    Ready (.queueClear 7 (some ())) (table .direct 1 24) [] ∧ (table .direct 1 24).floor.queue ≠ [] ∧
    Ready (.queueClear 7 (some ())) start [] ∧ start.floor.queue = [] :=
  ⟨arrives _ _ rfl rfl rfl, by decide +kernel, arrives _ _ rfl rfl rfl, rfl⟩

theorem witness_grant_next :
    Ready (.grantNext 7 (some ())) (waits .queued) [] ∧ slotFree (waits .queued).floor = true ∧
    (waits .queued).floor.queue = asks 5 0 :: [] ∧
    Ready (.grantNext 7 (some ())) (table .direct 1 24) [] ∧ slotFree (table .direct 1 24).floor = false ∧
    start.floor.queue = [] :=
  ⟨arrives _ _ rfl rfl rfl, by decide +kernel, rfl, arrives _ _ rfl rfl rfl, by decide +kernel, rfl⟩

/-- A Floor Setup record that every field admits. -/
def goodSetup : SetupFields :=
  { mode := 1, maxOpen := 1, autoAdvance := true, limit := 0, lead := 0, action := 0, threshold := 0
    hold := 50 }

theorem witness_floor_set :
    Ready (.floorSet 7 (some goodSetup)) fullTable [] ∧ fullTable.floor.phase = .running ∧
    setup? goodSetup = some { mode := .queued, maxOpen := 1, autoAdvance := true, limit := none, lead := 0
                              action := .close, threshold := 0, hold := 50 } ∧
    setup? { goodSetup with maxOpen := 7 } = none ∧ setup? { goodSetup with hold := 49 } = none ∧
    setup? { goodSetup with limit := 9 } = none ∧ setup? { goodSetup with threshold := 524288 } = none ∧
    seatsDistinct fullTable.floor.openList ∧ nobodyWaits fullTable ∧
    fullTable.floor.setup.mode ≠ .queued ∧
    Ready (.floorSet 7 (some goodSetup)) (table .queued 2 24) [] ∧
    (table .queued 2 24).floor.setup.mode = .queued ∧ seatsDistinct (table .queued 2 24).floor.openList ∧
    nobodyWaits (table .queued 2 0) ∧ (holding .queued).floor.phase = .hold ∧
    (holding .queued).floor.setup.mode = .queued ∧ (holding .direct).floor.setup.mode ≠ .queued ∧
    (chaired .alert [] false).floor.phase = .alert := by
  refine ⟨arrives _ _ rfl rfl rfl, rfl, by decide, by decide, by decide, by decide, by decide,
    by unfold seatsDistinct; decide, ⟨rfl, rfl⟩, by decide, arrives _ _ rfl rfl rfl, rfl,
    by unfold seatsDistinct; decide, ⟨rfl, rfl⟩, rfl, rfl, by decide, rfl⟩

/-- What an emptied floor and a change of mode are spelt for: a hold with entries in both lists, a queue and a holder. -/
theorem witness_emptied :
    seatsDistinct inHold.floor.openList ∧ inHold.floor.openList ≠ [] ∧ seatsDistinct inHold.floor.shadow ∧
    seatsDistinct (holding .direct).floor.openList ∧ seatsDistinct (holding .direct).floor.shadow ∧
    (holding .direct).floor.queue ≠ [] ∧ Ready (.floorSet 7 (some goodSetup)) (holding .direct) [] := by
  refine ⟨by unfold seatsDistinct; decide, by decide, by unfold seatsDistinct; decide,
    by unfold seatsDistinct; decide, by unfold seatsDistinct; decide, by decide, arrives _ _ rfl rfl rfl⟩

/-- The ALERT filter in this state. -/
def alertAs (x : AlertFilter) (s : State) : State := s.withAlert x

theorem witness_alert_samples :
    (AlertFilter.mk false 2 false).level = false ∧ true ≠ (AlertFilter.mk false 2 false).level ∧
    (alertAs ⟨false, 1, false⟩ start).alert.run < 2 ∧
    (alertAs ⟨false, 2, true⟩ start).alert.run = 2 ∧
    true = (alertAs ⟨false, 2, true⟩ start).alert.pin ∧
    nobodyWaits (alertAs ⟨true, 2, false⟩ (onFloor { Floor.reset with phase := .alert })) ∧
    false ≠ (alertAs ⟨true, 2, false⟩ start).alert.level :=
  ⟨rfl, by decide, by decide, rfl, rfl, ⟨rfl, rfl⟩, by decide⟩

/-! ### Witnesses: expiries, voice, the emitter -/

/-- Every kind of last count is due. -/
def expiring : State :=
  let s := setSeat 63 { SeatUnit.reset with refused := 1 }
    (setMessage 63 (some { text := [0x41], left := some 1 }) start)
  let t := setRecord 0 { DisplayRecord.reset with state := .warming, phase := some .timing, timer := 1 }
    (setRecord 3 { DisplayRecord.reset with state := .cooling, timer := 1, pendingOn := true } s)
  (t.withNotices { t.notices with quiet := 31 }).withDue
    { Due.none with refused := [63], messages := [63], displays := [0, 3], quiet := true }

theorem witness_expiries :
    expiring.due.refused.contains 63 = true ∧ (look expiring.seats 63).refused = 1 ∧
    look expiring.screens.messages 63 = some { text := [0x41], left := some 1 } ∧
    expiring.due.messages.contains 63 = true ∧ expiring.due.quiet = true ∧ expiring.notices.quiet = 31 ∧
    expiring.due.displays.contains 0 = true ∧ (look expiring.displays.records 0).timer = 1 ∧
    (look expiring.displays.records 0).state = .warming ∧
    expiring.due.displays.contains 3 = true ∧ (look expiring.displays.records 3).timer = 1 ∧
    (look expiring.displays.records 3).state = .cooling ∧
    (look expiring.displays.records 3).pendingOn = true := by decide +kernel

/-- What makes each expiry row do nothing, alone: no mark, another count, another display state. -/
theorem witness_nothing_due :
    counting.due.refused.contains 1 = false ∧ (look counting.seats 1).refused = 1 ∧
    (look counting.seats 0).refused ≠ 1 ∧ counting.due.messages.contains 5 = false ∧
    (look start.screens.messages 5).isNone = true ∧ counting.due.displays.contains 3 = false ∧
    (look counting.displays.records 3).timer ≠ 1 ∧ (look expiring.displays.records 3).state ≠ .warming ∧
    (look expiring.displays.records 0).state ≠ .cooling := by decide +kernel

/-- An evaluation is due with no free slot; the filters of seats 1 and 2 stand at their boundaries. -/
def evaluating : State :=
  let s := onFloor { Floor.reset with setup := setupOf .voice 1, openList := [entry 1], armed := [2, 3] }
  (s.withGate
    { Gate.reset with
      filters := upd (upd Gate.reset.filters 2 { VoiceFilter.rest with run := 2 }) 1
        { VoiceFilter.rest with present := true, hold := 1 }
      lastPeak := upd (upd Gate.reset.lastPeak 2 16384) 1 16383 }).withDue
    { Due.none with voice := some { stamp := 9, threshold := 16384, hold := 800 } }

theorem witness_voice_evaluation :
    evaluating.due.voice = some { stamp := 9, threshold := 16384, hold := 800 } ∧
    evaluating.due.reports = [] ∧ slotFree evaluating.floor = false ∧
    (∀ n ∈ [1, 2, 3], inFilteredSet evaluating n = true) ∧
    (look evaluating.gate.filters 1).present = true ∧ look evaluating.gate.lastPeak 1 < 16384 ∧
    (look evaluating.gate.filters 1).hold = 1 ∧ (look evaluating.gate.filters 2).present = false ∧
    16384 ≤ look evaluating.gate.lastPeak 2 ∧ (look evaluating.gate.filters 2).run = 2 ∧
    (look evaluating.gate.filters 3).run = 0 ∧ look evaluating.gate.lastPeak 3 < 16384 := by
  decide +kernel

/-- The report of a presence end is due. -/
def falling : State :=
  (onFloor { Floor.reset with setup := setupOf .voice 1, openList := [entry 1], armed := [2] }).withDue
    { Due.none with reports := [{ seat := 1, started := false }] }

theorem witness_presence_end :
    falling.due.reports = [{ seat := 1, started := false }] ∧ falling.floor.phase = .running ∧
    micState falling.floor 1 = .opened ∧ inFilteredSet falling 1 = true ∧
    (look falling.gate.filters 1).present = false ∧
    (∀ m : Seat, micState falling.floor m = .armed → (look falling.gate.filters m).present = false) := by
  decide +kernel

/-- Reports up to the first presence end. -/
theorem witness_reports :
    Statements.startsUpToEnd [⟨2, true⟩, ⟨5, true⟩, ⟨7, false⟩, ⟨9, true⟩] [2, 5] [⟨7, false⟩, ⟨9, true⟩] ∧
    Statements.startsUpToEnd [] [] [] ∧ falling.due.voice = none ∧ evaluating.due.reports = [] ∧
    falling.due.reports = { seat := 1, started := false } :: [] ∧
    start.due.reports.head? ≠ some { seat := 1, started := false } ∧
    micState falling.floor 2 ≠ .opened := by
  refine ⟨⟨rfl, ?_⟩, ⟨rfl, ?_⟩, by decide +kernel⟩ <;> simp

/-- R42, R111, R113, R114: seat 1's voice ends and seat 2's begins at one evaluation. The two are reported in seat order,
and the slot that seat 1 leaves goes to seat 2, with how VOICE. -/
theorem test_voice_hands_over :
    let t := after .voiceEvaluation evaluating
    let u := after (.presenceEnd 1) t
    t.due.reports = [⟨1, false⟩, ⟨2, true⟩] ∧ u.due.reports = [] ∧
      u.floor.openList.map (fun x => (x.seat, x.how)) = [(2, .voice)] ∧ u.floor.armed = [1, 3] := by
  decide +kernel

/-- The emitter with these entries waiting and this in flight; display 1 is ON, display 2 WARMING in SENDING,
display 3 ON in STOPPING. -/
def emitting (queue : List IrEntry) (flying : Option InFlight) : State :=
  let s := setRecord 1 { DisplayRecord.reset with state := .on, phase := some .steady }
    (setRecord 2 { DisplayRecord.reset with state := .warming, phase := some .sending }
      (setRecord 3 { DisplayRecord.reset with state := .on, phase := some .stopping } start))
  s.withDisplays
    { s.displays with
      queue := queue, inFlight := flying
      codes := upd s.displays.codes 8 { pairs := [(9000, 4500)], times := 4, gap := 255 } }

/-- A transmission of this code that ends at this instant. -/
def flight (d : DisplayNo) (c : IrCode) (ends : Nat) : InFlight :=
  { entry := { display := d, code := c }, period := 263, high := 33, ends := ends }

theorem witness_transmission_start :
    start.displays.now ≤ 625 ∧ 625 ≤ 625 ∧ start.displays.now = 625 ∧
    (emitting [⟨1, .input 0⟩] none).displays.inFlight = none ∧
    (emitting [⟨1, .input 0⟩] none).displays.queue = ⟨1, .input 0⟩ :: [] ∧ codeSlot 1 (.input 0) = 8 ∧
    (look (emitting [⟨1, .input 0⟩] none).displays.codes 8).pairs ≠ [] ∧
    (look (emitting [⟨2, .powerOn⟩] none).displays.codes (codeSlot 2 .powerOn)).pairs = [] ∧
    0 < (look (emitting [⟨2, .powerOn⟩] none).displays.presets 2).warmUp ∧
    0 < (look (emitting [⟨3, .powerOff⟩] none).displays.presets 3).coolDown ∧
    (look (emitting [⟨3, .powerOff⟩] none).displays.codes (codeSlot 3 .powerOff)).pairs = [] ∧
    (look (emitting [⟨1, .input 3⟩] none).displays.codes (codeSlot 1 (.input 3))).pairs = [] ∧
    (look (emitting [⟨1, .input 3⟩] none).displays.records 1).state = .on ∧
    (emitting [⟨1, .input 3⟩] none).notices.summary.display = false ∧
    (emitting [] (some (flight 1 (.input 0) 9))).displays.inFlight ≠ none ∧
    (emitting [] none).displays.queue = [] := by decide +kernel

theorem witness_transmission_complete :
    (emitting [] (some (flight 1 (.input 0) 625))).displays.inFlight = some (flight 1 (.input 0) 625) ∧
    (emitting [] (some (flight 1 (.input 0) 625))).displays.queue = [] ∧
    625 < (flight 1 (.input 0) 626).ends ∧ (flight 1 (.input 0) 625).ends ≤ 625 ∧
    (look (emitting [] none).displays.records 2).state = .warming ∧
    (look (emitting [] none).displays.records 2).phase = some .sending ∧
    (look (emitting [] none).displays.records 3).phase = some .stopping ∧
    0 < (look (emitting [] none).displays.presets 3).coolDown ∧ (flight 1 (.input 0) 624).ends < 625 ∧
    ((after .irTransmissionComplete (emitting [] (some (flight 1 (.input 0) 624)))).displays.inFlight.isNone =
      true) ∧
    ((emit (emitting [⟨1, .input 0⟩] none)).displays.inFlight.isSome = true) := by decide +kernel

/-- The first mark and the last space of the second frame of a code sent four times. -/
theorem witness_carrier :
    (emitting [] (some (flight 1 (.input 0) 9))).displays.inFlight = some (flight 1 (.input 0) 9) ∧
    (look (emitting [] none).displays.codes 8).pairs = [] ++ (9000, 4500) :: [] ∧ 1 < 4 ∧
    (∀ left ∈ [20 * (3 * 13500 + 3 * 255000 - 255000), 20 * (3 * 13500 + 3 * 255000 - 255000) - 20 * 13500 + 2],
      left ≤ 20 * (4 * 13500 + 3 * 255 * 1000) ∧ ∃ offset ∈ [0, 134999],
        (20 * (4 * 13500 + 3 * 255 * 1000) - left) / 2 =
          1 * (10 * (13500 + 255 * 1000)) + 10 * 0 + offset ∧ offset < 10 * (9000 + 4500)) ∧
    (flight 1 (.input 0) 9).entry.display ≠ 2 := by decide +kernel

/-! ### Witnesses: the cursor and the tables -/

theorem witness_select_and_get :
    Ready (.select 7 (some (.booking, 15))) start [] ∧ 15 < tableSize .booking ∧
    Ready (.select 7 (some (.booking, 16))) start [] ∧ tableSize .booking ≤ 16 ∧
    Ready (.get 7 (some ())) (cursorAt .name 127 start) [] ∧ 127 < tableSize .name ∧
    Ready (.get 7 (some ())) (cursorAt .name 128 start) [] ∧ tableSize .name ≤ 128 :=
  ⟨arrives _ _ rfl rfl rfl, by decide, arrives _ _ rfl rfl rfl, by decide, arrives _ _ rfl rfl rfl, by decide,
    arrives _ _ rfl rfl rfl, by decide⟩

theorem witness_puts_that_store_nothing (f : SeatFields) (x : Text) (g : Nat) (b : BookingFields)
    (i : IdleFields) (p : PresetFields) :
    Ready (.putSeat 7 (some f)) (cursorAt .seat 64 start) [] ∧ Ready (.putName 7 (some x)) start [] ∧
    Ready (.putName 7 (some x)) (cursorAt .name 128 start) [] ∧
    Ready (.putGain 7 (some g)) (cursorAt .gain1 65 start) [] ∧
    Ready (.putNom 7 (some g)) (cursorAt .nom 8 start) [] ∧
    Ready (.putBooking 7 (some b)) (cursorAt .booking 16 start) [] ∧
    Ready (.putIdle 7 (some i)) (cursorAt .idle 1 start) [] ∧
    Ready (.putDisplay 7 (some p)) (cursorAt .display 4 start) [] ∧
    start.port.cursor.table ≠ .name ∧ 64 ≤ (cursorAt .seat 64 start).port.cursor.index :=
  ⟨arrives _ _ rfl rfl rfl, arrives _ _ rfl rfl rfl, arrives _ _ rfl rfl rfl, arrives _ _ rfl rfl rfl,
    arrives _ _ rfl rfl rfl, arrives _ _ rfl rfl rfl, arrives _ _ rfl rfl rfl, arrives _ _ rfl rfl rfl,
    by decide, by decide⟩

theorem witness_plain_puts :
    Ready (.putName 7 (some (List.replicate 24 0x41))) (cursorAt .name 127 start) [] ∧
    (cursorAt .name 127 start).port.cursor = { table := .name, index := (127 : NameNo).val } ∧
    (List.replicate 24 (0x41 : Byte)).length ≤ 24 ∧ 24 < (List.replicate 25 (0x41 : Byte)).length ∧
    Ready (.putGain 7 (some 65535)) (cursorAt .gain1 64 start) [] ∧
    (cursorAt .gain0 64 start).port.cursor = { table := .gain0, index := (64 : Fin 65).val } ∧
    (cursorAt .gain1 64 start).port.cursor = { table := .gain1, index := (64 : Fin 65).val } ∧
    Ready (.putNom 7 (some 32769)) (cursorAt .nom 7 start) [] ∧
    (cursorAt .nom 7 start).port.cursor = { table := .nom, index := (7 : Fin 8).val } ∧
    Ready (.putDisplay 7 (some ⟨1000, 50, 120, 300⟩)) (cursorAt .display 3 start) [] ∧
    (cursorAt .display 3 start).port.cursor = { table := .display, index := (3 : DisplayNo).val } ∧
    300 < (PresetFields.mk 1000 50 120 301).coolDown :=
  ⟨arrives _ _ rfl rfl rfl, rfl, by decide, by decide, arrives _ _ rfl rfl rfl, rfl, rfl, arrives _ _ rfl rfl rfl, rfl,
    arrives _ _ rfl rfl rfl, rfl, by decide⟩

theorem witness_put_seat_refused :
    Ready (.putSeat 7 (some ⟨3, 0, false⟩)) (cursorAt .seat 63 start) [] ∧
    (cursorAt .seat 63 start).port.cursor = { table := .seat, index := (63 : Seat).val } ∧
    2 < (SeatFields.mk 3 0 false).role ∧ 127 < (SeatFields.mk 0 128 false).name ∧
    (SeatFields.mk 0 254 false).name ≠ 255 ∧
    (look (chaired .running [] false).seatTable 63).role ≠ .chair ∧
    2 ≤ otherChairs (chaired .running [] false) 63 :=
  ⟨arrives _ _ rfl rfl rfl, rfl, by decide, by decide, by decide, by decide +kernel, by decide +kernel⟩

theorem witness_put_seat_stored :
    seatEntry? ⟨2, 255, true⟩ = some { role := .listenOnly, name := none, exempt := true } ∧
    seatEntry? ⟨0, 127, false⟩ = some { role := .delegate, name := some 127, exempt := false } ∧
    (look (table .direct 2 0).seatTable 50).role = .delegate ∧
    (look (table .direct 2 0).seatTable 50).exempt = false ∧
    micState (table .direct 2 0).floor 50 = .opened ∧ nobodyWaits (table .direct 2 0) ∧
    hasEntry (table .direct 2 0).floor.openList 63 = false ∧
    hasEntry (table .direct 2 0).floor.shadow 63 = false ∧ otherChairs (table .direct 2 0) 50 < 2 ∧
    (table .direct 2 0).floor.holders.contains 50 = false ∧ micState inHold.floor 3 = .held ∧
    micState (table .direct 1 24).floor 3 = .waiting ∧ micState speaking.floor 4 = .armed ∧
    micState start.floor 63 = .off :=
  ⟨rfl, by decide, by decide +kernel, by decide +kernel, by decide +kernel, ⟨rfl, rfl⟩, rfl,
    rfl, by decide +kernel, rfl, by decide +kernel, by decide +kernel, by decide +kernel, by decide +kernel⟩

/-- A booking of the first minutes of the week, with every number at a bound of Table 9-2. -/
def someFixed : Fixed :=
  { id := 65535, start := 30, finish := 750, lead := 30, grace := 60, endWarn := 30, weekly := true, bank := 1
    chair := none, title := none, plan := Vector.replicate 4 { used := true, input := 3 }
    setup := FloorSetup.reset }

/-- The machine after RESET with this in booking slot 15. -/
def slot15 (x : Slot) : State := setSlot 15 x start

/-- A Floor Setup form in range. -/
def goodBooking : BookingFields :=
  { zeroBooking with id := 1, finish := 10080, plan := Vector.replicate 4 ⟨true, 4⟩, setup := goodSetup
                     chair := 63, title := 127, bank := 1 }

theorem witness_put_booking :
    Ready (.putBooking 7 (some goodBooking)) (cursorAt .booking 15 start) [] ∧
    (cursorAt .booking 15 start).port.cursor = { table := .booking, index := (15 : SlotNo).val } ∧
    look (slot15 (.committed .pending someFixed [] 750 750)).sched.slots 15 =
      .committed .pending someFixed [] 750 750 ∧
    look start.sched.slots 15 = .free ∧ (fixed? goodBooking).isSome = true ∧
    fixed? { goodBooking with id := 0 } = none ∧ fixed? { goodBooking with finish := 10081 } = none ∧
    look (slot15 (.draft someFixed [])).sched.slots 15 = .draft someFixed [] :=
  ⟨arrives _ _ rfl rfl rfl, rfl, rfl, rfl, by decide +kernel, by decide +kernel, by decide +kernel, rfl⟩

/-- The Idle Setup disabled. -/
def noIdle (s : State) : State := s.withSched { s.sched with idle := { IdleSetup.reset with enabled := false } }

theorem witness_put_idle :
    Ready (.putIdle 7 (some ⟨true, goodSetup, 1⟩)) (cursorAt .idle 0 start) [] ∧
    (cursorAt .idle 0 start).port.cursor = { table := .idle, index := 0 } ∧
    idle? ⟨true, goodSetup, 2⟩ = none ∧ (idle? ⟨true, goodSetup, 1⟩).isSome = true ∧
    bookingCurrent start.floor.meeting = false ∧ start.sched.idle.enabled = true ∧
    (noIdle start).sched.idle.enabled = false ∧
    bookingCurrent (.booking 15 1 none) = true ∧ goodSetup.mode = modeByte (table .queued 1 0).floor.setup.mode ∧
    (table .queued 1 0).floor.phase ≠ .alert ∧ seatsDistinct (table .queued 1 0).floor.openList :=
  ⟨arrives _ _ rfl rfl rfl, rfl, by decide +kernel, by decide +kernel, rfl, rfl, rfl, rfl, rfl, by decide,
    by unfold seatsDistinct; decide⟩

theorem witness_assign_lists :
    Ready (.listClearAssign 7 (some 16)) start [] ∧ 15 < 16 ∧
    Ready (.listClearAssign 7 (some 15)) (slot15 (.draft someFixed [⟨1, 2⟩])) [] ∧ 15 = (15 : SlotNo).val ∧
    look (slot15 (.draft someFixed [⟨1, 2⟩])).sched.slots 15 = .draft someFixed [⟨1, 2⟩] ∧
    (∀ (f : Fixed) (items : List Item), look start.sched.slots 15 ≠ .draft f items) ∧
    Ready (.listAddAssign 7 (some (15, [(63, 127)]))) (slot15 (.draft someFixed [⟨1, 2⟩])) [] ∧
    12 < (List.replicate 13 (0, 0)).length ∧
    [(64, 0)].any (fun p : Nat × Nat => decide (63 < p.1 ∨ 127 < p.2)) = true ∧
    items? [(63, 127)] = some [⟨63, 127⟩] ∧
    [Item.mk 63 127].foldl addItem [⟨1, 2⟩] = [⟨1, 2⟩, ⟨63, 127⟩] ∧
    64 < ([Item.mk 63 127].foldl addItem (List.replicate 64 ⟨1, 2⟩)).length ∧
    poolInUse (slot15 (.draft someFixed (List.replicate 64 ⟨1, 2⟩))).sched + 192 ≤ 256 ∧
    Ready (.listGetAssign 7 (some (15, 1))) (slot15 (.draft someFixed [⟨1, 2⟩])) [] ∧
    [Item.mk 1 2].length < 2 ∧ 1 ≤ [Item.mk 1 2].length ∧ ([Item.mk 1 2].map Item.seat).Nodup := by
  refine ⟨arrives _ _ rfl rfl rfl, by decide, arrives _ _ rfl rfl rfl, rfl, rfl, ?_, arrives _ _ rfl rfl rfl, by decide,
    by decide, by decide +kernel, by decide +kernel, by decide +kernel, by decide +kernel,
    arrives _ _ rfl rfl rfl, by decide, by decide, by decide⟩
  intro f items h
  have : look start.sched.slots 15 = .free := rfl
  rw [this] at h; cases h

theorem witness_code_lists :
    Ready (.listClearIrcode 7 (some (24, 1, 0))) start [] ∧ 23 < 24 ∧
    Ready (.listClearIrcode 7 (some (23, 4, 255))) start [] ∧ 23 = (23 : CodeSlot).val ∧
    inFlightSlot (emitting [] (some (flight 1 (.input 0) 9))).displays = some 8 ∧
    inFlightSlot start.displays ≠ some 23 ∧
    Ready (.listAddIrcode 7 (some (23, [(1, 65535)]))) start [] ∧
    [(1, 0)].any (fun p : Nat × Nat => decide (p.1 = 0 ∨ p.2 = 0)) = true ∧
    6 < (List.replicate 7 (1, 1)).length ∧ 40 < (List.replicate 40 (1, 1)).length + [(1, 1)].length ∧
    (List.replicate 39 (1, 1)).length + [(1, 1)].length ≤ 40 ∧
    Ready (.listGetIrcode 7 (some (8, 1))) (emitting [] none) [] ∧
    (look (emitting [] none).displays.codes 8).pairs.length < 2 ∧
    1 ≤ (look (emitting [] none).displays.codes 8).pairs.length :=
  ⟨arrives _ _ rfl rfl rfl, by decide, arrives _ _ rfl rfl rfl, rfl, by decide +kernel, by decide +kernel,
    arrives _ _ rfl rfl rfl, by decide, by decide, by decide, by decide, arrives _ _ rfl rfl rfl, by decide +kernel,
    by decide +kernel⟩

/-! ### Witnesses: STATUS, RESTART, audio, screens and displays -/

theorem witness_status :
    Ready (.status 7 (some ())) start [] ∧ Ready (.statusSeat 7 63) start [] ∧
    63 = (63 : Seat).val ∧ Ready (.statusSeat 7 64) start [] ∧ 63 < 64 :=
  ⟨arrives _ _ rfl rfl rfl, arrives _ _ rfl rfl rfl, rfl, arrives _ _ rfl rfl rfl, by decide⟩

theorem witness_restart :
    Ready (.restart 7 (some ())) (slot15 (.committed .active someFixed [] 750 750)) [] ∧
    (slot15 (.committed .active someFixed [] 750 750)).clock.valid = false ∧
    look (slot15 (.committed .active someFixed [] 750 750)).sched.slots 15 =
      .committed .active someFixed [] 750 750 ∧
    look (slot15 (.draft someFixed [])).sched.slots 15 = .draft someFixed [] ∧
    look start.sched.slots 0 = .free ∧ (unlocking (.answer someAnswer) 6).port.answers.length < 7 ∧
    (unlocking (.answer someAnswer) 7).port.answers.length = 7 ∧
    (∀ a : Answer, start.port.slot ≠ some (.answer a)) ∧
    Ready (.restart 7 (some ())) (unlocking (.answer someAnswer) 7) [] :=
  ⟨arrives _ _ rfl rfl rfl, rfl, rfl, rfl, rfl, by decide +kernel, by decide +kernel,
    (fun _ h => by cases h), ⟨by decide +kernel, Or.inl ⟨rfl, rfl, rfl⟩⟩⟩

theorem witness_audio_commands :
    Ready (.bankSelect 7 (some 1)) start [] ∧ 1 = (1 : Fin 2).val ∧
    Ready (.bankSelect 7 (some 2)) start [] ∧ 1 < 2 ∧ Ready (.clipRead 7 (some ())) start [] ∧
    Ready (.meterRead 7 (some (58, 8))) start [] ∧ 58 + 8 ≤ 66 ∧
    Ready (.meterRead 7 (some (59, 8))) start [] ∧ 66 < 59 + 8 :=
  ⟨arrives _ _ rfl rfl rfl, rfl, arrives _ _ rfl rfl rfl, by decide, arrives _ _ rfl rfl rfl, arrives _ _ rfl rfl rfl,
    by decide, arrives _ _ rfl rfl rfl, by decide⟩

/-- One seat contributes this sample at unity gain and factor 32768, with this far-end return and far gain. -/
def mixing (x y : Int) (far : Nat) : State :=
  let s := locked start
  (s.withAudio { s.audio with mic := upd s.audio.mic 63 x, far := y }).withMixer
    { s.mixer with capSeats := [63], capFactor := some 32768, capGains := upd s.mixer.capGains 64 far }

theorem witness_room_mix :
    start.mixer.capFactor = none ∧ (mixing 5 0 0).mixer.capSeats = [63] ∧
    seatGain (mixing 5 0 0).mixer 63 = 16384 ∧ (mixing 5 0 0).mixer.capFactor = some 32768 ∧
    (capture start).mixer.capSeats = [] ∧
    (capture fullTable).mixer.capSeats.length = (7 : Fin 8).val + 1 := by decide +kernel

/-- An exact half: the sample −1 at a gain of 2^13 and a factor of 2^15 gives A = −2^28. -/
def halfWay : State :=
  let s := mixing (-1) 0 0
  s.withMixer { s.mixer with capGains := upd s.mixer.capGains 63 8192 }

theorem witness_exact_half :
    productSum halfWay * ((32768 : Nat) : Int) = (-1) * 536870912 + 268435456 := by decide +kernel

theorem witness_far_bounds :
    farSample (mixing 0 524287 65535) = 524287 ∧ farSample (mixing 0 (-524288) 65535) = -524288 ∧
    look (mixing 0 524287 65535).mixer.capGains (64 : Fin 65) = 65535 ∧
    frameSettled start ∧ start.floor.phase ≠ .alert :=
  ⟨rfl, rfl, by decide +kernel, rfl, by decide⟩

theorem witness_messages :
    Ready (.seatMessage 7 (some (63, 255, List.replicate 24 0x41))) start [] ∧
    Ready (.seatMessage 7 (some (255, 0, [0x41]))) start [] ∧
    Ready (.seatMessage 7 (some (64, 0, [0x41]))) start [] ∧ 63 < 64 ∧ 64 ≠ 255 ∧
    24 < (List.replicate 25 (0x41 : Byte)).length ∧
    Ready (.messageClear 7 (some 63)) start [] ∧ Ready (.messageClear 7 (some 254)) start [] ∧
    254 ≠ 255 :=
  ⟨arrives _ _ rfl rfl rfl, arrives _ _ rfl rfl rfl, arrives _ _ rfl rfl rfl, by decide, by decide, by decide,
    arrives _ _ rfl rfl rfl, arrives _ _ rfl rfl rfl, by decide⟩

/-- Display 3 in this state and phase. -/
def displayAs (st : DisplayState) (ph : Option DisplayPhase) : State :=
  setRecord 3 { DisplayRecord.reset with state := st, phase := ph } start

theorem witness_display_requests (st : DisplayState) (ph : Option DisplayPhase) :
    Ready (.displayPowerOn 7 (some (3, 4))) (displayAs st ph) [] ∧
    Ready (.displayPowerOn 7 (some (4, 0))) (displayAs st ph) [] ∧ 3 < 4 ∧
    Ready (.displayPowerOff 7 (some (3, 5))) (displayAs st ph) [] ∧ 4 < 5 ∧
    Ready (.displayPowerOff 7 (some (3, 0))) (displayAs st ph) [] ∧
    Ready (.displayInput 7 (some (3, 4))) (displayAs st ph) [] ∧
    (look (displayAs st ph).displays.records 3).state = st ∧
    (look (displayAs st ph).displays.records 3).phase = ph ∧ 3 = (3 : DisplayNo).val ∧
    4 = (3 : InputNo).val + 1 :=
  ⟨arrives _ _ rfl rfl rfl, arrives _ _ rfl rfl rfl, by decide, arrives _ _ rfl rfl rfl, by decide,
    arrives _ _ rfl rfl rfl, arrives _ _ rfl rfl rfl, by cases st <;> rfl, by cases st <;> rfl, rfl, rfl⟩

/-! ### Witnesses: the clock, bookings, the log and notices -/

theorem free_elsewhere (x : Slot) (j : SlotNo) (h : j ≠ 15) : look (slot15 x).sched.slots j = .free := by
  show look (upd _ 15 x) j = _
  rw [look_upd, if_neg (fun e => h e.symm)]
  simp [look, start, locked, State.reset]

theorem none_committed (k : SlotNo) (st : Stage) (f : Fixed) (items : List Item) (b c : Nat) :
    look start.sched.slots k ≠ .committed st f items b c := by
  simp [look, start, locked, State.reset]

/-- The clock valid, at this time. -/
def timeAs (t : RoomTime) (s : State) : State := s.withClock { time := t, valid := true }

/-- The booking in slot 15 in this state, the clock valid, and this minute boundary due. -/
def bookedAs (st : Stage) (minute : Nat) : State :=
  timeAs { RoomTime.zero with hour := minute / 60, minute := minute % 60 }
    ((slot15 (.committed st someFixed [] 750 750)).withDue { Due.none with boundary := some minute })

theorem witness_clock_set :
    Ready (.clockSet 7 (some (7, 0, 0, 0))) start [] ∧ 6 < 7 ∧
    Ready (.clockSet 7 (some (6, 23, 59, 59))) start [] ∧
    (∀ (k : SlotNo) (st : Stage) (f : Fixed) (items : List Item) (b c : Nat),
      look start.sched.slots k ≠ .committed st f items b c) ∧
    Ready (.clockGet 7 (some ())) start [] :=
  ⟨arrives _ _ rfl rfl rfl, by decide, arrives _ _ rfl rfl rfl, none_committed, arrives _ _ rfl rfl rfl⟩

/-- A booking from 100 to 110 with no lead and no grace. -/
def shortFixed : Fixed := { someFixed with start := 100, finish := 110, lead := 0, grace := 0 }

/-- It waits in slot 15, and the time is 50. -/
def before : State := timeAs ⟨0, 0, 50, 0, 0⟩ (slot15 (.committed .pending shortFixed [] 110 110))

theorem others_rest (s : State) (x : Slot) (rests : Stage → Fixed → Nat → Prop) (h : s.sched = (slot15 x).sched) :
    Statements.othersRest s [15] rests := by
  intro j st f items b c hj e
  rw [h, free_elsewhere x j (by simpa using hj)] at e
  cases e

/-- It has begun in slot 15, and the time is 105. -/
def running (st : Stage) : State := timeAs ⟨0, 1, 45, 0, 0⟩ (slot15 (.committed st shortFixed [] 110 110))

theorem witness_missed_booking :
    look before.sched.slots 15 = .committed .pending shortFixed [] 110 110 ∧
    Statements.othersRest before [15] (fun _ _ _ => False) ∧
    before.clock.valid = true ∧ weekMs before.clock.time < (shortFixed.start - shortFixed.lead) * 60000 ∧
    (shortFixed.start - shortFixed.lead) * 60000 ≤ 110 * 60000 + 0 * 1000 ∧
    110 * 60000 + 0 * 1000 - weekMs before.clock.time ≤ 302399999 ∧ 110 + shortFixed.grace ≤ 110 ∧
    swept (weekMs before.clock.time) (110 * 60000 + 0 * 1000) (shortFixed.start - shortFixed.lead) = true ∧
    outsideWindow shortFixed 110 110 = true ∧ outsideWindow shortFixed 110 109 = false ∧
    Ready (.clockSet 7 (some (0, 1, 50, 0))) before [] :=
  ⟨rfl, others_rest _ _ _ rfl, rfl, by decide, by decide, by decide, by decide, by decide, by decide, by decide,
    arrives _ _ rfl rfl rfl⟩

theorem witness_placed_by_command (st : Stage) :
    look (running st).sched.slots 15 = .committed st shortFixed [] 110 110 ∧
    Statements.othersRest (running st) [15] (fun _ _ _ => False) ∧ (running st).clock.valid = true ∧
    dueStage shortFixed 110 (presentMinute (running st)) = some .ending ∧
    dueStage shortFixed 110 110 = none ∧ dueStage someFixed 750 0 = some .lead ∧
    dueStage someFixed 750 750 = some .done ∧ Ready (.restart 7 (some ())) (running st) [] ∧
    Ready (.extend 7 (some (15, 1))) (running st) [] ∧ Ready (.endNow 7 (some 15)) (running st) [] ∧
    Ready (.cancel 7 (some 15)) (running st) [] ∧ presentMinute (running st) = 105 ∧
    dueStage shortFixed 110 (presentMinute before) = none :=
  ⟨rfl, others_rest _ _ _ rfl, rfl,
    (by show dueStage shortFixed 110 (weekMinute ⟨0, 1, 45, 0, 0⟩) = some .ending; decide), by decide,
    by decide, by decide, arrives _ _ rfl rfl rfl,
    arrives _ _ rfl rfl rfl, arrives _ _ rfl rfl rfl, arrives _ _ rfl rfl rfl,
    (by show weekMinute ⟨0, 1, 45, 0, 0⟩ = 105; decide), by decide +kernel⟩

theorem witness_commit :
    Ready (.commit 7 (some 16)) start [] ∧ 15 < 16 ∧
    Ready (.commit 7 (some 15)) (slot15 (.draft someFixed [])) [] ∧ 15 = (15 : SlotNo).val ∧
    look (slot15 (.draft someFixed [])).sched.slots 15 = .draft someFixed [] ∧
    ¬ (someFixed.start < someFixed.lead ∨ 10080 < someFixed.finish + someFixed.grace ∨
      someFixed.finish < someFixed.start + 5 ∨ someFixed.start + 720 < someFixed.finish) ∧
    { someFixed with start := 29 }.start < someFixed.lead ∧
    idTaken (slot15 (.draft someFixed [])).sched 15 65535 = false ∧
    idTaken (slot15 (.draft someFixed [])).sched 14 65535 = true ∧
    windowTaken (slot15 (.draft someFixed [])).sched 15 (0, 810) = false ∧
    windowTaken (bookedAs .pending 0).sched 14 (809, 900) = true ∧
    (slot15 (.draft someFixed [])).clock.valid = false ∧
    (timeAs ⟨0, 13, 30, 0, 0⟩ (slot15 (.draft someFixed []))).clock.valid = true ∧
    dueStage someFixed 750 (weekMinute ⟨0, 0, 30, 0, 0⟩) = some .active :=
  ⟨arrives _ _ rfl rfl rfl, by decide, arrives _ _ rfl rfl rfl, rfl, rfl, by decide, by decide, by decide +kernel,
    by decide +kernel, by decide +kernel, by decide +kernel, rfl, rfl, by decide⟩

theorem witness_extend :
    Ready (.extend 7 (some (15, 121))) start [] ∧ 120 < 121 ∧
    Ready (.extend 7 (some (15, 120))) before [] ∧
    look before.sched.slots 15 = .committed .pending shortFixed [] 110 110 ∧
    ¬ (shortFixed.start + 720 < 110 + 120 ∨ 10080 < 110 + 120 + shortFixed.grace) ∧
    windowTaken before.sched 15 (100, 230) = false ∧ someFixed.start + 720 < 750 + 1 ∧
    dueStage shortFixed (110 + 120) 199 = some .active ∧
    dueStage shortFixed (110 + 120) 200 = some .ending := by
  refine ⟨arrives _ _ rfl rfl rfl, by decide, arrives _ _ rfl rfl rfl, rfl, by decide, by decide +kernel, by decide,
    by decide, by decide⟩

theorem witness_end_now_and_cancel :
    Ready (.endNow 7 (some 15)) (slot15 (.committed .ending someFixed [] 750 750)) [] ∧
    Stage.ending.meets = true ∧
    look (slot15 (.committed .ending someFixed [] 750 750)).sched.slots 15 =
      .committed .ending someFixed [] 750 750 ∧
    someFixed.start ≤ presentMinute (timeAs ⟨0, 0, 30, 0, 0⟩ start) ∧ 0 < someFixed.grace ∧
    shortFixed.grace = 0 ∧ Ready (.cancel 7 (some 15)) before [] ∧
    look start.sched.slots 15 = .free ∧ Stage.lead.meets = false :=
  ⟨arrives _ _ rfl rfl rfl, rfl, rfl, by decide, by decide, rfl, arrives _ _ rfl rfl rfl, rfl, rfl⟩

theorem witness_minute_boundary :
    (∀ st ∈ [Stage.pending, .lead, .active, .ending, .done], (bookedAs st 30).due.boundary = some 30 ∧
      (bookedAs st 30).clock.valid = true ∧
      look (bookedAs st 30).sched.slots 15 = .committed st someFixed [] 750 750) ∧
    Statements.othersRest (bookedAs .pending 0) [15] (fun _ _ _ => False) ∧
    (slot15 .free).clock.valid = false ∧ someFixed.start < 750 ∧ someFixed.start = 0 + someFixed.lead ∧
    someFixed.start ≠ 1 + someFixed.lead ∧ 0 < someFixed.lead ∧ 0 < 750 + someFixed.grace ∧
    shortFixed.start = 100 + shortFixed.lead ∧ shortFixed.lead = 0 ∧ shortFixed.grace = 0 ∧ 100 < 110 ∧
    0 < someFixed.grace ∧ someFixed.start ≤ 750 ∧ 810 = 750 + someFixed.grace :=
  ⟨by decide +kernel, others_rest _ _ _ rfl, rfl, by decide, by decide, by decide, by decide, by decide,
    by decide, by decide, by decide, by decide, by decide, by decide, by decide⟩

/-- The bookings of section 9.11 that meet at 2085, in slots 0 and 1; one of the next day waits in slot 15. -/
def f301 : Fixed :=
  { someFixed with id := 301, start := 1980, finish := 2070, lead := 10, grace := 15, weekly := false }

def f302 : Fixed :=
  { someFixed with id := 302, start := 2090, finish := 2130, lead := 5, grace := 0, weekly := false }

def f303 : Fixed := { someFixed with id := 303, start := 3420, finish := 3450, lead := 0, grace := 0 }

def meeting2085 : State :=
  setSlot 0 (.committed .done f301 [] 2070 2070)
    (setSlot 1 (.committed .pending f302 [] 2130 2130)
      (timeAs ⟨1, 10, 45, 0, 0⟩
        ((slot15 (.committed .pending f303 [] 3450 3450)).withDue { Due.none with boundary := some 2085 })))

/-- What stands in the table outside slots 0 and 1, and outside slot 0 in the second part. -/
theorem meeting2085_others (j : SlotNo) (st : Stage) (f : Fixed) (items : List Item) (b c : Nat)
    (e : look meeting2085.sched.slots j = .committed st f items b c) :
    (j ∉ ([0, 1] : List SlotNo) → st = .pending ∧ f = f303 ∧ c = 3450) ∧
    (j ∉ ([0] : List SlotNo) → st = .pending ∧ (f = f303 ∧ c = 3450 ∨ f = f302 ∧ c = 2130)) := by
  change look (upd (upd (upd start.sched.slots 15 (.committed .pending f303 [] 3450 3450)) 1
    (.committed .pending f302 [] 2130 2130)) 0 (.committed .done f301 [] 2070 2070)) j = _ at e
  simp only [look_upd] at e
  split at e
  · next h => subst h; exact ⟨fun h => absurd (by decide) h, fun h => absurd (by decide) h⟩
  · split at e
    · next h =>
      subst h; cases e
      exact ⟨fun h => absurd (by decide) h, fun _ => ⟨rfl, Or.inr ⟨rfl, rfl⟩⟩⟩
    · split at e
      · cases e; exact ⟨fun _ => ⟨rfl, rfl, rfl⟩, fun _ => ⟨rfl, Or.inl ⟨rfl, rfl⟩⟩⟩
      · exact absurd e (none_committed j st f items b c)

/-- Two that meet at a boundary, with a third that rests; and the first alone at a time when both others rest, at a
boundary, at CLOCK SET and at RESTART. -/
theorem witness_other_bookings :
    Statements.othersRest meeting2085 [0, 1] (fun x f _ => x = .pending ∧ f.start ≠ 2085 + f.lead) ∧
    Statements.othersRest meeting2085 [0] (fun x f _ => x = .pending ∧ f.start ≠ 2084 + f.lead) ∧
    Statements.othersRest meeting2085 [0] (fun x f c => x = .pending ∧
      ¬ (meeting2085.clock.valid = true ∧
        swept (weekMs meeting2085.clock.time) (2084 * 60000 + 0 * 1000) (f.start - f.lead) = true) ∧
      dueStage f c 2084 = none) ∧
    Statements.othersRest meeting2085 [0] (fun _ f c => dueStage f c 2084 = none) ∧
    look meeting2085.sched.slots 0 = .committed .done f301 [] 2070 2070 ∧
    look meeting2085.sched.slots 1 = .committed .pending f302 [] 2130 2130 ∧ f302.start = 2085 + f302.lead ∧
    2085 = 2070 + f301.grace ∧ 0 < f302.lead ∧ 2085 < 2130 + f302.grace ∧
    presentMinute meeting2085 = 2084 ∧ meeting2085.due.boundary = some 2085 ∧
    Ready (.clockSet 7 (some (1, 10, 44, 0))) meeting2085 [] ∧ Ready (.restart 7 (some ())) meeting2085 [] := by
  refine ⟨?_, ?_, ?_, ?_, by decide +kernel, by decide +kernel, by decide, by decide, by decide, by decide,
    by decide, rfl, arrives _ _ rfl rfl rfl, arrives _ _ rfl rfl rfl⟩
  · intro j st f items b c hj e
    obtain ⟨rfl, rfl, rfl⟩ := (meeting2085_others j st f items b c e).1 hj
    exact ⟨rfl, by decide⟩
  all_goals
    intro j st f items b c hj e
    obtain ⟨rfl, ⟨rfl, rfl⟩ | ⟨rfl, rfl⟩⟩ := (meeting2085_others j st f items b c e).2 hj <;> decide +kernel

theorem witness_restart_order :
    ([0, 1, 15] : List SlotNo).Pairwise (· < ·) ∧ meeting2085.clock.valid = true ∧
    ∀ k : SlotNo, k ∈ ([0, 1, 15] : List SlotNo) ↔
      ∃ st f items b c, look meeting2085.sched.slots k = .committed st f items b c := by
  refine ⟨by decide, rfl, fun k => ⟨fun h => ?_, fun ⟨st, f, items, b, c, e⟩ => ?_⟩⟩
  · simp only [List.mem_cons, List.not_mem_nil, or_false] at h
    rcases h with rfl | rfl | rfl <;> exact ⟨_, _, _, _, _, rfl⟩
  · have := meeting2085_others k st f items b c e
    by_cases h0 : k = 0
    · simp [h0]
    · by_cases h1 : k = 1
      · simp [h1]
      · have h15 : look meeting2085.sched.slots k =
            if (15 : SlotNo) = k then .committed .pending f303 [] 3450 3450 else .free := by
          change look (upd (upd (upd start.sched.slots 15 _) 1 _) 0 _) k = _
          simp only [look_upd, if_neg (Ne.symm h0), if_neg (Ne.symm h1)]
          split
          · rfl
          · simp [look, start, locked, State.reset]
        rw [h15] at e
        split at e
        · next h => simp [← h]
        · cases e

theorem witness_log_and_notices :
    Ready (.logRead 7 (some ())) busy [] ∧
    busy.log.ring = [] ++ ⟨0, .zero, .seatJoin, some 3, some 0⟩ :: [] ∧
    busy.log.unread = ([] : List LogRecord).length + 1 ∧
    Ready (.logRead 7 (some ())) start [] ∧ start.log.unread = 0 ∧
    start.notices.summary.log = false ∧ Ready (.noticeSet 7 (some (31, 64))) start [] ∧
    64 ∈ [1, 4, 16, 64] ∧ Ready (.noticeSet 7 (some (31, 65))) start [] ∧ 65 ∉ [1, 4, 16, 64] :=
  ⟨⟨by decide, Or.inl ⟨rfl, rfl, rfl⟩⟩, rfl, rfl, arrives _ _ rfl rfl rfl, rfl, rfl, arrives _ _ rfl rfl rfl, by decide,
    arrives _ _ rfl rfl rfl, by decide⟩

/-! ### One step each: values from the rules and the worked examples of the spec -/

/-- The events of the log, oldest first. -/
def events (s : State) : List LogEvent := s.log.ring.map LogRecord.event

/-- The answers that wait, with the tags left out. -/
def answers (s : State) : List (AnswerCode × List Byte) := s.port.answers.map (fun a => (a.answer, a.result))

/-- Section 2.7, step 5 of the example: the close frees a slot, and the queue's head opens. -/
theorem test_press_of_an_open_seat :
    let s := buttonEvent .mic true 7 0
      (onFloor { Floor.reset with setup := setupOf .direct 2, openList := [entry 3, entry 7, chairEntry 0]
                                  queue := [asks 45 81002, asks 20 81004] })
    seatsOf s.floor.openList = [3, 0, 45] ∧ s.floor.queue = [asks 20 81004] ∧
      events s = [.micClose .press, .micOpen .auto] := by decide +kernel

/-- R32, by age: a stamp from before the wrap of the superframe stamp comes first. -/
theorem test_requests_across_the_wrap :
    let s := onFloor { Floor.reset with setup := setupOf .queued 1, queue := [asks 9 2] }
    (buttonEvent .mic true 50 0xFFFFFFFE
      (((s.withFloor { s.floor with openList := [entry 3] })).withTime { stamp := 5, frame := 0 })).floor.queue =
      [asks 50 0xFFFFFFFE, asks 9 2] := by decide +kernel

/-- Section 2.7, the example of a lowered max open: 5 and 9 leave, and the chair is passed over. -/
theorem test_floor_set_lowers_max_open :
    let s := after (.floorSet 1 (some { goodSetup with maxOpen := 2 }))
      (onFloor { Floor.reset with setup := setupOf .queued 4
                                  openList := [chairEntry 0, entry 5, entry 9, entry 12, entry 30]
                                  queue := [asks 17 1, asks 44 2] })
    seatsOf s.floor.openList = [0, 12, 30] ∧ s.floor.queue.length = 2 ∧
      events s = [.micClose .setup, .micClose .setup] := by decide +kernel

/-- Section 3.4, step 9 of the example: one place, so 35 closes with RESTORE_FULL. -/
theorem test_priority_off_ends_the_hold :
    let s := after (.priorityOff 1 (some ()))
      (onFloor { Floor.reset with phase := .hold, setup := setupOf .direct 1, remote := true
                                  openList := [chairEntry 0], shadow := [entry 10, entry 35]
                                  queue := [asks 40 1] })
    seatsOf s.floor.openList = [0, 10] ∧ s.floor.phase = .running ∧
      events s = [.micOpen .restore, .micClose .restoreFull, .holdEnd 1] := by decide +kernel

/-- Section 3.6, the example: the third active sample empties the floor, with these six records. -/
theorem test_third_alert_sample :
    let s := after (.alertSample .low) (alertAs ⟨false, 2, true⟩
      (onFloor { Floor.reset with phase := .hold, setup := setupOf .queued 4, remote := true
                                  openList := [chairEntry 0], shadow := [entry 5, entry 9]
                                  queue := [asks 17 1] }))
    s.floor.phase = .alert ∧ s.floor.openList = [] ∧ s.floor.remote = false ∧
      events s = [.micClose .alert, .micClose .alert, .micClose .alert, .queueCleared 1, .holdEnd 0,
        .alertOn 3] := by decide +kernel

/-- Section 4.6, the second example: the warning of seat 6 carries 20 s. -/
theorem test_floor_set_recomputes :
    let t := { limited 310000 true true true with warn := some 240000, limit := some 300000 }
    let s := after (.floorSet 1 (some { goodSetup with maxOpen := 2, limit := 240, lead := 30 }))
      (onFloor { Floor.reset with
        setup := { setupOf .queued 2 with limit := some 300, lead := 60, action := .notify }
        openList := [{ entry 22 with timer := t },
          { entry 6 with timer := { t with elapsed := 220000, warned := false, overtime := false } }]
        queue := [asks 48 1] })
    events s = [.micClose .limit, .warned 20, .micOpen .auto] ∧ seatsOf s.floor.openList = [6, 48] := by
  decide +kernel

/-- R77 and R78: the match at the limit point under CLOSE. -/
theorem test_limit_close :
    events (after (.speakingLimitClose 7) (timed .close (limited 60000 true true false))) =
      [.micClose .limit] := by decide +kernel

/-- R76: the older entry's match comes first, and a row for a later one waits for it. -/
theorem test_matches_in_open_list_order :
    let s := onFloor { Floor.reset with
      setup := { FloorSetup.reset with limit := some 60 }
      openList := [{ entry 9 with timer := limited 29999 true false false },
        { entry 7 with timer := limited 59999 true false false }] }
    events (after (.speakingLimitClose 7) s) = [] ∧
      events (after (.speakingLimitClose 7) (after (.speakingWarning 9) s)) =
        [.warned 30, .warned 0, .micClose .limit] := by decide +kernel

/-- R84: with the count taken after the hold start, the timer is paused one count short of its limit point. -/
theorem test_hold_before_the_count :
    let s := after (.priorityOn 1 (some ())) (after (.superframeStart false)
      (timed .close { limited 59999 true true false with owed := false }))
    events s = [.holdStart 1] ∧ s.floor.shadow.map (fun e => e.timer.elapsed) = [59999] := by decide +kernel

/-- R84: a press or a loss that a report of frame 0 brings comes before the count or after it. -/
theorem test_frame_before_the_count :
    let owing := after .outgoingFrame (timed .close (limited 59999 true true false))
    let press := fun s : State => buttonEvent .mic true 7 0 s
    events (press owing) = [.micClose .press] ∧
      events (press (after (.speakingLimitClose 7) owing)) = [.micClose .limit, .micOpen .press] ∧
      events (floorSeatLost 7 owing) = [.micClose .lost] ∧
      events (after (.superframeStart false) (after .superframeEnd owing)) = [.micClose .limit] := by
  decide +kernel

/-- R193 and R198: the timeout first tests and the late record then restarts the count; the record or the read first
restarts it, and the end's step follows with no test. -/
theorem test_quiet_step_at_the_end :
    let owing := (timed .close (limited 59999 true true false)).withNotices
      { Notices.reset with pending := false, quiet := 31 }
    let ended := after .superframeEnd (owing.withLog { owing.log with unread := 1 })
    let late := after (.speakingLimitClose 7)
    let quiet := fun s : State => (s.notices.quiet, s.notices.pending)
    quiet (after .quietTimeout ended) = (32, true) ∧
      (late (after .quietTimeout ended)).notices.quiet = 0 ∧
      quiet (after (.superframeStart false) ended) = (1, false) ∧
      quiet (after (.superframeStart false) (late ended)) = (1, false) := by
  decide +kernel

/-- Section 6.5, the second example: the equal stamp goes to the lower seat. -/
theorem test_presence_end_admits_the_candidate :
    let v := { VoiceFilter.rest with present := true, hold := 800 }
    let s := (onFloor { Floor.reset with setup := setupOf .voice 1, openList := [entry 8]
                                         armed := [12, 33, 50] }).withGate
      { Gate.reset with
        filters := upd (upd (upd Gate.reset.filters 12 { v with start := 41020 }) 33 { v with start := 41010 })
          50 { v with start := 41010 } }
    let t := after (.presenceEnd 8)
      ((s.withTime { stamp := 41500, frame := 31 }).withDue
        { Due.none with reports := [{ seat := 8, started := false }] })
    seatsOf t.floor.openList = [33] ∧ t.floor.armed = [8, 12, 50] ∧
      events t = [.micClose .voiceHold, .micOpen .voice] := by decide +kernel

/-- R95's sum: one seat at unity gain and a factor of 32768 gives its sample exactly, and an exact half rounds
up; R96's bounds. -/
theorem test_mix_numbers :
    roomMix (mixing (-12345) 0 0) = -12345 ∧ roomMix halfWay = 0 ∧
    farPart (mixing 0 524287 65535) = 2097116 ∧ farPart (mixing 0 (-524288) 65535) = -2097120 := by
  decide +kernel

/-- R97 and R98: the floor bus saturates, and the clip is counted and sets CLIP. -/
theorem test_floor_clip :
    let s := after .outgoingFrame (mixing 524287 524287 16384)
    s.sent.trunk.map TrunkFrame.floorBus = some 524287 ∧ s.mixer.clipFloor = 1 ∧ s.mixer.clipFar = 0 ∧
      s.notices.summary.clip = true := by decide +kernel

/-- Section 7.9, the first example: the first fragment carries "Left " and the two zeros. -/
theorem test_fragment_of_a_warning :
    let row := fun l : List Char => (Vector.ofFn (fun i : Fin 24 => (padLine (chars l))[i.val]? ) :
      Vector (Option Byte) 24)
    let s := setShown 14
      { line1 := row ['S', 'e', 'a', 't', ' ', '1', '4']
        line2 := row ['S', 'p', 'e', 'a', 'k', 'i', 'n', 'g', ' ', '0', '1', ':', '2', '9'] }
      (onFloor { Floor.reset with
        openList := [{ entry 14 with timer :=
          { elapsed := 90000, running := true, owed := false, warned := true, overtime := false, warn := some 90000
            limit := some 120000 } }] })
    (nextFragment s 14).map Prod.fst =
      some { line := 2, start := 0
             runs := [(0x4C, 1), (0x65, 1), (0x66, 1), (0x74, 1), (0x20, 1), (0x30, 2)] } := by
  decide +kernel

/-- Section 8.8, the first example: the warm expiry at a superframe boundary, the frame boundary being reached, queues
the pending input and the idle emitter takes it at that instant. -/
theorem test_warm_expiry_is_taken_at_once :
    let s := setRecord 1 { DisplayRecord.reset with state := .warming, phase := some .timing, timer := 1
                                                    pending := some 0 } (emitting [] none)
    let t := after (.warmExpiry 1) (s.withDue { Due.none with displays := [1] })
    t.displays.queue = [] ∧ t.displays.inFlight.map InFlight.entry = some ⟨1, .input 0⟩ ∧
      (look t.displays.records 1).state = .on := by decide +kernel

/-- R149: POWER_ON is in flight when POWER OFF comes next, so it stays there and POWER_OFF waits (R145). -/
theorem test_power_off_finds_power_on_in_flight :
    let s := after (.displayPowerOff 2 (some (0, 0))) (after (.displayPowerOn 1 (some (0, 0)))
      (setCode 0 { pairs := [(500, 500)], times := 1, gap := 0 } start))
    s.displays.queue = [⟨0, .powerOff⟩] ∧ s.displays.inFlight.map InFlight.entry = some ⟨0, .powerOn⟩ := by
  decide +kernel

/-- Section 8.8, the first example: the completion of POWER_ON sets the timer to 10,000. -/
theorem test_power_on_completes :
    look (after .irTransmissionComplete (emitting [] (some (flight 2 .powerOn 200)))).displays.records 2 =
      { DisplayRecord.reset with state := .warming, phase := some .timing, timer := 10000 } := by
  decide +kernel

/-- R146: a POWER ON in STOPPING waits for the display to cool. -/
theorem test_power_on_in_stopping :
    let s := after (.displayPowerOn 1 (some (3, 1))) (displayAs .on (some .stopping))
    (look s.displays.records 3).pendingOn = true ∧ (look s.displays.records 3).pending = some 0 ∧
      s.displays.queue = [] := by decide +kernel

/-- Section 9.11, the example of two bookings at 2085: the first finishes, and the second enters its lead. -/
theorem test_boundary_ends_and_enters :
    let t := after .minuteBoundary meeting2085
    look t.sched.slots 0 = .free ∧ look t.sched.slots 1 = .committed .lead f302 [] 2130 2130 := by
  decide +kernel

/-- Section 9.11, the example of a forward jump: the swept booking is missed. -/
theorem test_clock_set_misses_a_booking :
    let f := { someFixed with id := 510, start := 3420, finish := 3450, lead := 0, grace := 0, weekly := false }
    let s := after (.clockSet 1 (some (2, 11, 10, 0)))
      (timeAs ⟨2, 8, 55, 20, 0⟩ (slot15 (.committed .pending f [] 3450 3450)))
    look s.sched.slots 15 = .free ∧ events s = [.clockSet 3550, .bookingMissed 15] := by decide +kernel

/-- Section 11.3, the example: the refused PUT still moves the cursor. -/
theorem test_put_of_thirty_characters :
    let s := after (.putName 17 (some (List.replicate 30 0x41))) (cursorAt .name 126 start)
    s.port.cursor = { table := .name, index := 127 } ∧ look s.screens.names 126 = [] ∧
      answers s = [(.range, [1, 126, 1, 127])] := by decide +kernel

/-- Tables 12-5 and 12-7: GET of the SEAT entry after RESET. -/
theorem test_get_of_a_seat :
    answers (after (.get 7 (some ())) (cursorAt .seat 63 start)) =
      [(.done, [0, 63, 0, 64, 0, 0xFF, 0])] := by decide +kernel

/-- R189 and Table 12-8: the record, and no record left. -/
theorem test_log_read :
    (answers (after (.logRead 7 (some ())) busy)).drop 1 =
      [(.done, [0, 0, 0, 0, 0, 0, 0, 0, 15, 3, 1, 0, 0, 0xFF, 0xFF, 0, 0, 0])] ∧
    answers (after (.logRead 7 (some ())) start) = [(.empty, [])] := by decide +kernel

/-- R162 and R163: a seat already in the list keeps its place. -/
theorem test_list_add_replaces :
    slotItems (look (after (.listAddAssign 7 (some (15, [(1, 9), (4, 5)])))
      (slot15 (.draft someFixed [⟨1, 2⟩, ⟨3, 3⟩]))).sched.slots 15) = [⟨1, 9⟩, ⟨3, 3⟩, ⟨4, 5⟩] := by
  decide +kernel

/-- Section 1.4, the example: the run goes on across a missing report, and the event carries the first stamp. -/
theorem test_press_across_a_lost_report :
    let s := setSeat 40 { SeatUnit.reset with presence := .fading 0, mic := ⟨false, 2, 5003⟩ }
      (table .queued 1 0)
    let t := validReport 40 { mic := true, priority := false, next := false, volume := 15 } s
    presenceOf t 40 = .present ∧ (look t.seats 40).mic.pressed = true ∧ (look t.seats 40).volume = 15 ∧
      t.floor.queue = [asks 40 5003] := by decide +kernel

/-- R222: a low level of less than 10 µs on RESET is ignored; one of 10 µs resets the log. -/
theorem test_reset_pin :
    (after (.resetPin 9999) busy).log.unread = 1 ∧ (after (.resetPin 10000) busy).log.unread = 0 := by
  decide +kernel

/-- R127: the character outside the printable range is stored as a question mark; 255 is every seat. -/
theorem test_message_to_all :
    look (after (.seatMessage 7 (some (255, 2, [0x41, 0x07]))) start).screens.messages 63 =
      some { text := [0x41, 0x3F], left := some 2000 } := by decide +kernel

/-- R108: the meters of the run are given and cleared. -/
theorem test_meter_read :
    let s := after (.meterRead 7 (some (64, 2)))
      (start.withGate { Gate.reset with meters := upd Gate.reset.meters 65 524287 })
    answers s = [(.done, [0, 0, 0, 7, 0xFF, 0xFF])] ∧ look s.gate.meters 65 = 0 := by decide +kernel

/-- R9 and R195: a notice in the slot is pending again when the trunk unlocks before its frame. -/
theorem test_unlock_releases_the_notice :
    let s := after .noticeSent start
    let t := after (.chainUnlock .trunk) (s.withLinks { s.links with trunk := ⟨true, 0, 1, true, true⟩ })
    s.notices.pending = false ∧ t.port.slot = none ∧ t.notices.pending = true := by decide +kernel

/-- R203: a `BUSY` at arrival to GET carries the entry that the cursor names and the cursor. -/
theorem test_busy_carries_the_cursor :
    (offerCell (cell 0x02 []) (cursorAt .name 5 (waiting 8 0 start))).port.answers.map Answer.result =
      [[1, 5, 1, 5]] ∧
    (after (.clockGet 7 (some ())) State.reset).port.answers = [] := by decide +kernel

/-- R195: the summary after RESET, and no record yet. -/
theorem test_notice_cell :
    (after .noticeSent (locked start)).port.slot =
      some (.notice { summary := { Sources.none with clock := true }, unread := 0, newest := none }) ∧
    (after .noticeSent (locked start)).notices.pending = false := by decide +kernel

end Sys2Proof.Tests
end

section
/-!
PROOFS. GRANT NEXT (R45): what `grant` answers with and without a free slot and a waiting seat, what the command's
owner replies from that, and the statement about the command.
-/

namespace Sys2Proof.Machine

/-- With a free slot, the head of the queue opens with how GRANT (R41, R45). -/
theorem grant_of_head {s : State} {r : Request} {q : List Request} (hfree : slotFree s.floor = true)
    (hq : s.floor.queue = r :: q) :
    grant s = some (checkTimer r.seat (withOpened .grant r.seat s)) := by
  simp [grant, hfree, hq, joinOpen_eq]

/-- Without a free slot, or with nobody waiting, nothing is granted (R41, R45). -/
theorem grant_eq_none {s : State} (h : slotFree s.floor = false ∨ s.floor.queue = []) :
    grant s = none := by
  obtain hfull | hempty := h
  · simp [grant, hfull]
  · simp [grant, hempty]

theorem grantReply_of_head {s : State} {r : Request} {q : List Request} (hfree : slotFree s.floor = true)
    (hq : s.floor.queue = r :: q) :
    grantReply s = done (afterFloor (checkTimer r.seat (withOpened .grant r.seat s))) := by
  simp only [grantReply, grant_of_head hfree hq]

theorem grantReply_of_not {s : State} (h : slotFree s.floor = false ∨ s.floor.queue = []) :
    grantReply s = refusal .state s := by
  simp only [grantReply, grant_eq_none h]

/-- A ready GRANT NEXT in its form is answered as its owner replies in the state that took the command (R45, R201). -/
theorem exec_grantNext_of_ready {s : State} {rest : List CommandCell} {tag : Byte}
    (h : Ready (.grantNext tag (some ())) s rest) :
    exec (.grantNext tag (some ())) s =
      .next (answered tag 0x12 (grantReply (taken s rest)).code (grantReply (taken s rest)).result
        (grantReply (taken s rest)).state) :=
  congrArg Host.Outcome.next (runCommand_taken h tag 0x12 (fun t => grantReply t))

/-- Settles O37: the owner's reply in the state that took the command, whose floor is that of the state before. -/
theorem grantNextOpensTheHead : Obligations.GrantNextOpensTheHead := by
  intro s rest tag hready
  refine ⟨fun r q hfree hq => ?opens, fun hno => ?answersState⟩
  case opens =>
    rw [exec_grantNext_of_ready hready, grantReply_of_head (s := taken s rest) hfree hq]
    rfl
  case answersState =>
    rw [exec_grantNext_of_ready hready, grantReply_of_not (s := taken s rest) hno]
    rfl

end Sys2Proof.Machine
end

section
/-!
PROOFS. THE ROOM MIX (R95): what half-up rounding is, what S is by the captured factor, what one seat at unity gain
adds up to, and the factor a capture takes (R86).
-/

namespace Sys2Proof.Machine

/-! ### Half-up rounding -/

/-- Half-up rounding to a multiple of `d` is the one quotient whose interval of length `d` holds `x + d / 2` (R95). -/
theorem roundHalfUp_eq_iff {x d r : Int} (hd : 0 < d) :
    roundHalfUp x d = r ↔ r * d ≤ x + d / 2 ∧ x + d / 2 < (r + 1) * d := by
  have hbelow : r * d ≤ x + d / 2 ↔ r ≤ (x + d / 2) / d := (Int.le_ediv_iff_mul_le hd).symm
  have habove : x + d / 2 < (r + 1) * d ↔ (x + d / 2) / d < r + 1 := (Int.ediv_lt_iff_lt_mul hd).symm
  rw [hbelow, habove, roundHalfUp]
  omega

/-! ### The room mix by the captured factor -/

theorem roomMix_of_noFactor {s : State} (h : s.mixer.capFactor = none) : roomMix s = 0 := by
  simp only [roomMix, h]

/-- S is the rounded quotient A / 2^29 exactly when A + 2^28 lies in its interval (R95). -/
theorem roomMix_eq_iff {s : State} {a : Nat} {r : Int} (h : s.mixer.capFactor = some a) :
    roomMix s = r ↔ r * 536870912 ≤ productSum s * (a : Int) + 268435456 ∧
      productSum s * (a : Int) + 268435456 < (r + 1) * 536870912 := by
  simp only [roomMix, h]
  exact roundHalfUp_eq_iff (by decide)

theorem productSum_of_oneSeat {s : State} {n : Seat} (h : s.mixer.capSeats = [n]) :
    productSum s = micSample s n * (seatGain s.mixer n : Int) := by
  simp [productSum, h]

/-! ### The captured factor -/

@[simp] theorem capture_capFactor (s : State) :
    (capture s).mixer.capFactor = nomFactor s.mixer (capture s).mixer.capSeats.length := rfl

theorem nomFactor_zero (m : Mixer) : nomFactor m 0 = none := rfl

theorem nomFactor_succ (m : Mixer) (k : Fin 8) : nomFactor m (k.val + 1) = some (look m.nom k) := by
  simp [nomFactor, look]

/-- Settles O53: S as the quotient whose interval holds A + 2^28, the two cases in which R95 gives its value, and the
factor that the number of captured seats picks. -/
theorem roomMixRounds : Obligations.RoomMixRounds := by
  refine ⟨fun s hnone => roomMix_of_noFactor hnone, ?bounds, ?exactHalf, ?unity, ?noSeat, ?someSeats⟩
  case bounds =>
    intro s a total hfactor htotal
    rw [htotal]
    exact (roomMix_eq_iff hfactor).mp rfl
  case exactHalf =>
    intro s a q hfactor hhalf
    rw [roomMix_eq_iff hfactor, hhalf]
    omega
  case unity =>
    intro s n hseat hgain hfactor
    have hsum : productSum s = micSample s n * 16384 := by
      simpa only [hgain, Nat.cast_ofNat] using productSum_of_oneSeat hseat
    rw [roomMix_eq_iff hfactor, hsum]
    omega
  case noSeat =>
    intro s hempty
    rw [capture_capFactor, hempty, List.length_nil, nomFactor_zero]
  case someSeats =>
    intro s k hlength
    rw [capture_capFactor, hlength, nomFactor_succ]

end Sys2Proof.Machine
end

section
/-!
PROOFS. RELATIONS THAT EVERY OPERATION KEEPS. A relation between states that holds across each way in which the Floor
Controller writes the state holds across all its operations; so too for the emitter and for the Booking Scheduler. One
lemma per operation serves every such relation.
-/

namespace Sys2Proof.Machine

/-- A relation that is reflexive and transitive and holds across each write that the lists of the floor and the Speaking
Timers take: to the floor and to the log. -/
structure ListClosed (R : State → State → Prop) : Prop where
  refl (s : State) : R s s
  trans {s t u : State} : R s t → R t u → R s u
  append (e : LogEvent) (n : Option Seat) (b : Option Nat) (s : State) : R s (appendWith e n b s)
  floor (s : State) (x : Floor) : R s (s.withFloor x)

/-- Such a relation that also holds across the write that ends every floor event: to the voice filters. -/
structure EventClosed (R : State → State → Prop) : Prop extends ListClosed R where
  gate (s : State) (x : Gate) : R s (s.withGate x)

/-- Such a relation that also holds across the refusal of a press, the one other write of the Floor Controller. -/
structure FloorClosed (R : State → State → Prop) : Prop extends EventClosed R where
  refuse (n : Seat) (s : State) : R s (refuse n s)

/-- A relation that is reflexive and transitive and holds across each write that the Display Sequencer and the IR
Emitter make: to the displays, to the count of free values, to the log, and to the DISPLAY source. -/
structure EmitterClosed (R : State → State → Prop) : Prop where
  refl (s : State) : R s s
  trans {s t u : State} : R s t → R t u → R s u
  append (e : LogEvent) (n : Option Seat) (b : Option Nat) (s : State) : R s (appendWith e n b s)
  displays (s : State) (x : Displays) : R s (s.withDisplays x)
  draws (s : State) (x : Nat) : R s (s.withDraws x)
  raise (s : State) : R s (s.withNotices (raiseDisplay s.notices))

/-- Such a relation that also holds across the other writes of a meeting signal: to the pending bank and the message
slots. -/
structure MeetingClosed (R : State → State → Prop) : Prop extends FloorClosed R where
  bank (b : Fin 2) (s : State) : R s (bankRequest b s)
  messages (s : State) : R s (emptyMessages s)

/-- A booking slot holds this fixed part. -/
def HoldsFixed (s : State) (f : Fixed) : Prop := ∃ k : SlotNo, slotFixed (look s.sched.slots k) = some f

/-- A relation that holds across each thing that placing a booking does: the signals, the requests, the records, and
slots written with a fixed part that a slot already holds. -/
structure PlacingClosed (R : State → State → Prop) : Prop where
  refl (s : State) : R s s
  trans {s t u : State} : R s t → R t u → R s u
  append (e : LogEvent) (n : Option Seat) (b : Option Nat) (s : State) : R s (appendWith e n b s)
  starts (k : SlotNo) (c : StartCause) {f : Fixed} {s : State} : HoldsFixed s f → R s (meetingStart k f c s)
  ends (f : Fixed) (c : EndCause) (s : State) : R s (meetingEnd f c s)
  on (d : DisplayNo) (i : Option InputNo) (s : State) : R s (requestOn d i s)
  off (d : DisplayNo) (s : State) : R s (requestOff d s)
  slot (k : SlotNo) {x : Slot} {s : State} : (∀ f, slotFixed x = some f → HoldsFixed s f) → R s (setSlot k x s)

section FloorOperations

variable {R : State → State → Prop}

theorem ListClosed.rel_record (hR : ListClosed R) (e : LogEvent) (n : Option Seat) (s : State) :
    R s (record e n s) := hR.append e n _ s

/-- A record of a state whose floor alone was written. -/
theorem ListClosed.rel_recordFloor (hR : ListClosed R) (e : LogEvent) (n : Option Seat) (x : Floor) (s : State) :
    R s (record e n (s.withFloor x)) :=
  hR.trans (hR.floor s x) (hR.rel_record e n _)

/-- A fold of related steps is related. -/
theorem ListClosed.rel_foldl (hR : ListClosed R) {α : Type} (f : State → α → State)
    (h : ∀ s a, R s (f s a)) (l : List α) (s : State) : R s (l.foldl f s) := by
  induction l generalizing s with
  | nil => exact hR.refl s
  | cons a l ih => exact hR.trans (h s a) (ih (f s a))

/-! ### Lists -/

theorem ListClosed.rel_closeOpen (hR : ListClosed R) (r : CloseReason) (n : Seat) (s : State) :
    R s (closeOpen r n s) := by
  unfold closeOpen; split
  · exact hR.rel_recordFloor _ _ _ s
  · exact hR.refl s

theorem ListClosed.rel_closeVoiceHold (hR : ListClosed R) (n : Seat) (s : State) :
    R s (closeVoiceHold n s) := by
  unfold closeVoiceHold; split
  · exact hR.rel_recordFloor _ _ _ s
  · exact hR.refl s

theorem ListClosed.rel_closeShadow (hR : ListClosed R) (r : CloseReason) (n : Seat) (s : State) :
    R s (closeShadow r n s) := by
  unfold closeShadow; split
  · exact hR.rel_recordFloor _ _ _ s
  · exact hR.refl s

theorem ListClosed.rel_leaveQueue (hR : ListClosed R) (r : CancelReason) (n : Seat) (s : State) :
    R s (leaveQueue r n s) := by
  unfold leaveQueue; split
  · exact hR.rel_recordFloor _ _ _ s
  · exact hR.refl s

theorem ListClosed.rel_arm (hR : ListClosed R) (n : Seat) (s : State) : R s (arm n s) := hR.floor s _

theorem ListClosed.rel_disarm (hR : ListClosed R) (n : Seat) (s : State) : R s (disarm n s) := hR.floor s _

theorem ListClosed.rel_joinQueue (hR : ListClosed R) (n : Seat) (st : Stamp) (s : State) :
    R s (joinQueue n st s) :=
  hR.rel_recordFloor _ _ _ s

theorem ListClosed.rel_clearQueue (hR : ListClosed R) (s : State) : R s (clearQueue s) := by
  unfold clearQueue; split
  · exact hR.refl s
  · exact hR.rel_recordFloor _ _ _ s

theorem ListClosed.rel_clearArming (hR : ListClosed R) (s : State) : R s (clearArming s) := hR.floor s _

theorem ListClosed.rel_clearHolders (hR : ListClosed R) (s : State) : R s (clearHolders s) := by
  unfold clearHolders; split
  · exact hR.rel_recordFloor _ _ _ s
  · exact hR.refl s

theorem ListClosed.rel_closeOpenSeats (hR : ListClosed R) (r : CloseReason) (l : List Seat) (s : State) :
    R s (closeOpenSeats r l s) :=
  hR.rel_foldl _ (fun t n => hR.rel_closeOpen r n t) l s

theorem ListClosed.rel_closeShadowSeats (hR : ListClosed R) (r : CloseReason) (l : List Seat) (s : State) :
    R s (closeShadowSeats r l s) :=
  hR.rel_foldl _ (fun t n => hR.rel_closeShadow r n t) l s

/-! ### Timers -/

theorem ListClosed.rel_checkWarning (hR : ListClosed R) (n : Seat) (s : State) : R s (checkWarning n s) := by
  unfold checkWarning
  split
  · split
    · exact hR.rel_recordFloor _ _ _ s
    · exact hR.refl s
  · exact hR.refl s

theorem ListClosed.rel_limitClose (hR : ListClosed R) (n : Seat) (s : State) : R s (limitClose n s) := by
  unfold limitClose
  split
  · split
    · exact hR.rel_closeOpen _ n s
    · exact hR.refl s
  · exact hR.refl s

theorem ListClosed.rel_limitNotify (hR : ListClosed R) (n : Seat) (s : State) : R s (limitNotify n s) := by
  unfold limitNotify
  split
  · split
    · exact hR.rel_recordFloor _ _ _ s
    · exact hR.refl s
  · exact hR.refl s

theorem ListClosed.rel_checkLimit (hR : ListClosed R) (n : Seat) (s : State) : R s (checkLimit n s) := by
  unfold checkLimit; split
  · exact hR.rel_limitClose n s
  · exact hR.rel_limitNotify n s

theorem ListClosed.rel_checkTimer (hR : ListClosed R) (n : Seat) (s : State) : R s (checkTimer n s) :=
  hR.trans (hR.rel_checkWarning n s) (hR.rel_checkLimit n _)

theorem ListClosed.rel_checkTimers (hR : ListClosed R) (l : List Seat) (s : State) : R s (checkTimers l s) :=
  hR.rel_foldl _ (fun t n => hR.rel_checkTimer n t) l s

theorem ListClosed.rel_recomputeAll (hR : ListClosed R) (s : State) : R s (recomputeAll s) :=
  hR.trans (hR.floor s _) (hR.rel_checkTimers _ _)

theorem ListClosed.rel_recomputeSeat (hR : ListClosed R) (n : Seat) (s : State) : R s (recomputeSeat n s) :=
  hR.trans (hR.floor s _) (hR.rel_checkTimer n _)

theorem ListClosed.rel_oweCounts (hR : ListClosed R) (s : State) : R s (oweCounts s) := hR.floor s _

/-! ### Opening and advancing -/

theorem ListClosed.rel_joinOpen (hR : ListClosed R) (h : How) (n : Seat) (s : State) : R s (joinOpen h n s) :=
  hR.trans (hR.rel_recordFloor _ _ _ s) (hR.rel_checkTimer n _)

theorem EventClosed.rel_restFilters (hR : EventClosed R) (s : State) : R s (restFilters s) := hR.gate s _

theorem ListClosed.rel_advanceOnce (hR : ListClosed R) {s t : State} (h : advanceOnce s = some t) : R s t := by
  have key : ∀ how : How, ∀ o : Option Seat, o.map (fun n => joinOpen how n s) = some t →
      R s t := by
    intro how o ho
    cases o with
    | none => cases ho
    | some n => cases ho; exact hR.rel_joinOpen how n s
  have head : ∀ how : How, s.floor.queue.head?.map (fun r => joinOpen how r.seat s) = some t →
      R s t := by
    intro how ho
    exact key how (s.floor.queue.head?.map Request.seat) (by simpa [Option.map_map] using ho)
  unfold advanceOnce at h
  split at h
  · split at h
    · exact head _ h
    · split at h
      · exact head _ h
      · cases h
    · cases h
    · exact key _ _ h
  · cases h

theorem ListClosed.rel_advanceUpTo (hR : ListClosed R) (k : Nat) (s : State) : R s (advanceUpTo k s) := by
  induction k generalizing s with
  | zero => exact hR.refl s
  | succ k ih =>
    unfold advanceUpTo
    split
    · rename_i t ht
      exact hR.trans (hR.rel_advanceOnce ht) (ih t)
    · exact hR.refl s

theorem EventClosed.rel_afterFloor (hR : EventClosed R) (s : State) : R s (afterFloor s) :=
  hR.trans (hR.rel_advanceUpTo _ s) (hR.rel_restFilters _)

theorem ListClosed.rel_takeOut (hR : ListClosed R) (c : CloseReason) (r : CancelReason) (n : Seat) (s : State) :
    R s (takeOut c r n s) := by
  unfold takeOut; split
  · exact hR.rel_closeOpen c n s
  · exact hR.rel_leaveQueue r n s
  · exact hR.rel_closeShadow c n s
  · exact hR.rel_disarm n s
  · exact hR.refl s

/-! ### Holds -/

theorem ListClosed.rel_holdStart (hR : ListClosed R) (o : Option Seat) (s : State) : R s (holdStart o s) :=
  hR.rel_recordFloor _ _ _ s

theorem ListClosed.rel_voiceCheck (hR : ListClosed R) (s : State) (n : Seat) : R s (voiceCheck s n) := by
  unfold voiceCheck; split
  · exact hR.refl s
  · exact hR.rel_closeVoiceHold n s

theorem EventClosed.rel_holdEnd (hR : EventClosed R) (s : State) : R s (holdEnd s) := by
  have h4 : ∀ room back, R s (checkTimers (seatsOf back)
      (record (.holdEnd back.length) none
        ((closeShadowSeats .restoreFull (seatsOf (s.floor.shadow.drop room))
          (back.foldl restoreEntry s)).withFloor
          { (closeShadowSeats .restoreFull (seatsOf (s.floor.shadow.drop room))
              (back.foldl restoreEntry s)).floor with phase := .running }))) := by
    intro room back
    exact hR.trans (hR.rel_foldl _ (fun t e => hR.rel_recordFloor _ _ _ t) back s)
      (hR.trans (hR.rel_closeShadowSeats _ _ _)
        (hR.trans (hR.rel_recordFloor _ _ _ _) (hR.rel_checkTimers _ _)))
  refine hR.trans ?_ (hR.rel_afterFloor _)
  dsimp only
  split
  · exact hR.trans (h4 _ _) (hR.rel_foldl _ hR.rel_voiceCheck _ _)
  · exact h4 _ _

theorem EventClosed.rel_endHoldIfFree (hR : EventClosed R) (s : State) : R s (endHoldIfFree s) := by
  unfold endHoldIfFree; split
  · exact hR.rel_holdEnd s
  · exact hR.refl s

theorem EventClosed.rel_leaveHolders (hR : EventClosed R) (n : Seat) (s : State) : R s (leaveHolders n s) := by
  unfold leaveHolders; split
  · exact hR.trans (hR.floor s _) (hR.rel_endHoldIfFree _)
  · exact hR.refl s

/-! ### Presses -/

theorem FloorClosed.rel_pressQueue (hR : FloorClosed R) (n : Seat) (st : Stamp) (s : State) :
    R s (pressQueue n st s) := by
  unfold pressQueue; split
  · exact hR.rel_joinQueue n st s
  · exact hR.refuse n s

theorem ListClosed.rel_overrideOpen (hR : ListClosed R) (h : How) (n : Seat) (s : State) :
    R s (overrideOpen h n s) := by
  refine hR.trans ?_ (hR.rel_joinOpen h n _)
  split
  · exact hR.rel_closeOpenSeats _ _ s
  · exact hR.refl s

theorem FloorClosed.rel_delegatePress (hR : FloorClosed R) (n : Seat) (st : Stamp) (s : State) :
    R s (delegatePress n st s) := by
  unfold delegatePress
  split
  · split
    · exact hR.rel_joinOpen _ n s
    · exact hR.rel_pressQueue n st s
  · exact hR.rel_leaveQueue _ n s
  · exact hR.rel_closeOpen _ n s
  · exact hR.rel_pressQueue n st s
  · exact hR.rel_leaveQueue _ n s
  · exact hR.rel_closeOpen _ n s
  · exact hR.rel_overrideOpen _ n s
  · exact hR.rel_closeOpen _ n s
  · exact hR.rel_arm n s
  · exact hR.rel_disarm n s
  · exact hR.rel_closeOpen _ n s
  · exact hR.refl s

theorem FloorClosed.rel_delegatePressHold (hR : FloorClosed R) (n : Seat) (st : Stamp) (s : State) :
    R s (delegatePressHold n st s) := by
  unfold delegatePressHold
  split
  · exact hR.rel_pressQueue n st s
  · exact hR.rel_pressQueue n st s
  · exact hR.refuse n s
  · exact hR.refuse n s
  · exact hR.rel_leaveQueue _ n s
  · exact hR.rel_leaveQueue _ n s
  · exact hR.rel_disarm n s
  · exact hR.rel_closeShadow _ n s
  · exact hR.refl s

theorem ListClosed.rel_chairPress (hR : ListClosed R) (n : Seat) (s : State) : R s (chairPress n s) := by
  unfold chairPress; split
  · exact hR.rel_closeOpen _ n s
  · exact hR.rel_joinOpen _ n s

theorem ListClosed.rel_grant (hR : ListClosed R) {s t : State} (h : grant s = some t) : R s t := by
  unfold grant at h
  split at h
  · cases hq : s.floor.queue.head? with
    | none => simp [hq] at h
    | some r => simp [hq] at h; subst h; exact hR.rel_joinOpen _ _ s
  · cases h

theorem ListClosed.rel_priorityPress (hR : ListClosed R) (n : Seat) (s : State) :
    R s (priorityPress n s) := by
  unfold priorityPress
  dsimp only
  split
  · exact hR.trans (hR.floor s _) (hR.rel_holdStart _ _)
  · exact hR.floor s _

theorem FloorClosed.rel_pressEffect (hR : FloorClosed R) (b : ButtonName) (n : Seat) (st : Stamp) (s : State) :
    R s (pressEffect b n st s) := by
  unfold pressEffect
  split
  · exact hR.refuse n s
  · exact hR.refuse n s
  · unfold pressRunning; split
    · exact hR.rel_delegatePress n st s
    · exact hR.rel_chairPress n s
    · cases hg : grant s with
      | none => exact hR.refuse n s
      | some t => exact hR.rel_grant hg
    · exact hR.rel_priorityPress n s
    · exact hR.refuse n s
  · unfold pressHold; split
    · exact hR.rel_delegatePressHold n st s
    · exact hR.rel_chairPress n s
    · exact hR.rel_priorityPress n s
    · exact hR.refuse n s

theorem FloorClosed.rel_buttonEvent (hR : FloorClosed R) (b : ButtonName) (e : Bool) (n : Seat) (st : Stamp)
    (s : State) :
    R s (buttonEvent b e n st s) := by
  unfold buttonEvent
  cases e
  · refine hR.trans ?_ (hR.rel_afterFloor _)
    simp only [Bool.false_eq_true, if_false]
    unfold releaseEffect; split
    · exact hR.rel_leaveHolders n s
    · exact hR.refl s
  · exact hR.trans (hR.rel_pressEffect b n st s) (hR.rel_afterFloor _)

/-! ### Setup changes, loss, the alert, matches -/

theorem ListClosed.rel_emptyForMode (hR : ListClosed R) (s : State) : R s (emptyForMode s) := by
  have h2 : R s (clearArming (clearQueue
      (closeOpenSeats .setup (delegateSeats s.floor) s))) :=
    hR.trans (hR.rel_closeOpenSeats _ _ s)
      (hR.trans (hR.rel_clearQueue _) (hR.rel_clearArming _))
  unfold emptyForMode
  dsimp only
  split
  · exact hR.trans h2 (hR.rel_closeShadowSeats _ _ _)
  · exact h2

theorem ListClosed.rel_trimOpen (hR : ListClosed R) (s : State) : R s (trimOpen s) := by
  unfold trimOpen; split
  · exact hR.rel_closeOpenSeats _ _ s
  · exact hR.refl s

theorem EventClosed.rel_setupChange (hR : EventClosed R) (f : FloorSetup) (s : State) :
    R s (setupChange f s) := by
  refine hR.trans ?_ (hR.trans (hR.rel_recomputeAll _) (hR.rel_afterFloor _))
  dsimp only
  split
  · exact hR.trans (hR.floor s _) (hR.rel_trimOpen _)
  · exact hR.trans (hR.rel_emptyForMode s) (hR.floor _ _)

theorem ListClosed.rel_closeEverything (hR : ListClosed R) (r : CloseReason) (s : State) :
    R s (closeEverything r s) :=
  hR.trans (hR.rel_closeOpenSeats _ _ s) (hR.rel_closeShadowSeats _ _ _)

theorem EventClosed.rel_floorSeatLost (hR : EventClosed R) (n : Seat) (s : State) : R s (floorSeatLost n s) :=
  hR.trans (hR.rel_takeOut _ _ n s)
    (hR.trans (hR.rel_leaveHolders n _) (hR.rel_afterFloor _))

theorem EventClosed.rel_alertEntry (hR : EventClosed R) (s : State) : R s (alertEntry s) :=
  hR.trans (hR.rel_closeEverything _ s)
    (hR.trans (hR.rel_clearQueue _)
      (hR.trans (hR.rel_clearArming _)
        (hR.trans (hR.rel_clearHolders _)
          (hR.trans (hR.rel_recordFloor _ _ _ _) (hR.rel_restFilters _)))))

theorem EventClosed.rel_alertExit (hR : EventClosed R) (s : State) : R s (alertExit s) :=
  hR.trans (hR.rel_record _ _ s)
    (hR.trans (hR.floor _ _) (hR.rel_afterFloor _))

theorem EventClosed.rel_takeCount (hR : EventClosed R) (n : Seat) (s : State) : R s (takeCount n s) := by
  unfold takeCount; split
  · split
    · exact hR.trans (hR.floor s _)
        (hR.trans (hR.rel_checkTimer n _) (hR.rel_afterFloor _))
    · exact hR.refl s
  · exact hR.refl s

theorem EventClosed.rel_takeCounts (hR : EventClosed R) (s : State) : R s (takeCounts s) :=
  hR.rel_foldl _ (fun t n => hR.rel_takeCount n t) _ s

end FloorOperations

section EmitterOperations

variable {R : State → State → Prop}

theorem EmitterClosed.rel_record (hR : EmitterClosed R) (e : LogEvent) (n : Option Seat) (s : State) :
    R s (record e n s) := hR.append e n _ s

theorem EmitterClosed.rel_foldl (hR : EmitterClosed R) {α : Type} (f : State → α → State)
    (h : ∀ s a, R s (f s a)) (l : List α) (s : State) : R s (l.foldl f s) := by
  induction l generalizing s with
  | nil => exact hR.refl s
  | cons a l ih => exact hR.trans (h s a) (ih _)

theorem EmitterClosed.rel_setRecord (hR : EmitterClosed R) (d : DisplayNo) (r : DisplayRecord) (s : State) :
    R s (setRecord d r s) := hR.displays s _

theorem EmitterClosed.rel_queueCode (hR : EmitterClosed R) (d : DisplayNo) (c : IrCode) (s : State) :
    R s (queueCode d c s) := hR.displays s _

theorem EmitterClosed.rel_startUp (hR : EmitterClosed R) (d : DisplayNo) (i : Option InputNo) (s : State) :
    R s (startUp d i s) :=
  hR.trans (hR.rel_setRecord d _ s) (hR.rel_queueCode d _ _)

theorem EmitterClosed.rel_steadyInput (hR : EmitterClosed R) (d : DisplayNo) (n : InputNo) (s : State) :
    R s (steadyInput d n s) := by
  unfold steadyInput; split
  · exact hR.displays s _
  · exact hR.rel_queueCode d _ s

theorem EmitterClosed.rel_stopDisplay (hR : EmitterClosed R) (d : DisplayNo) (s : State) :
    R s (stopDisplay d s) :=
  hR.trans (hR.displays s _)
    (hR.trans (hR.rel_setRecord d _ _) (hR.rel_queueCode d _ _))

theorem EmitterClosed.rel_handleOn (hR : EmitterClosed R) (d : DisplayNo) (i : Option InputNo) (s : State) :
    R s (handleOn d i s) := by
  unfold handleOn; dsimp only; split
  · exact hR.rel_startUp d i s
  · exact hR.rel_setRecord d _ s
  · exact hR.rel_setRecord d _ s
  · exact hR.rel_setRecord d _ s
  · split
    · exact hR.rel_steadyInput d _ s
    · exact hR.refl s

theorem EmitterClosed.rel_handleOff (hR : EmitterClosed R) (d : DisplayNo) (s : State) :
    R s (handleOff d s) := by
  unfold handleOff; dsimp only; split
  · exact hR.refl s
  · exact hR.rel_setRecord d _ s
  · exact hR.rel_setRecord d _ s
  · exact hR.rel_stopDisplay d s
  · exact hR.rel_stopDisplay d s

theorem EmitterClosed.rel_handleInput (hR : EmitterClosed R) (d : DisplayNo) (n : InputNo) (s : State) :
    R s (handleInput d n s) := by
  unfold handleInput; dsimp only; split
  · exact hR.rel_setRecord d _ s
  · exact hR.rel_steadyInput d n s
  · exact hR.rel_setRecord d _ s

theorem EmitterClosed.rel_warmExpired (hR : EmitterClosed R) (d : DisplayNo) (s : State) :
    R s (warmExpired d s) := by
  unfold warmExpired; dsimp only; split
  · exact hR.trans (hR.rel_setRecord d _ s) (hR.rel_queueCode d _ _)
  · exact hR.rel_setRecord d _ s

theorem EmitterClosed.rel_coolExpired (hR : EmitterClosed R) (d : DisplayNo) (s : State) :
    R s (coolExpired d s) := by
  unfold coolExpired; dsimp only; split
  · exact hR.trans (hR.rel_setRecord d _ s) (hR.rel_startUp d _ _)
  · exact hR.rel_setRecord d _ s

theorem EmitterClosed.rel_completion (hR : EmitterClosed R) (e : IrEntry) (s : State) :
    R s (completion e s) := by
  unfold completion; dsimp only; split
  · unfold powerOnComplete; dsimp only; split
    · exact hR.trans (hR.rel_setRecord _ _ s) (hR.rel_warmExpired _ _)
    · exact hR.rel_setRecord _ _ s
  · unfold powerOffComplete; dsimp only; split
    · exact hR.trans (hR.rel_setRecord _ _ s) (hR.rel_coolExpired _ _)
    · exact hR.rel_setRecord _ _ s
  · exact hR.rel_setRecord _ _ s
  · exact hR.refl s

theorem EmitterClosed.rel_emptyCode (hR : EmitterClosed R) (e : IrEntry) (s : State) : R s (emptyCode e s) := by
  exact hR.trans (hR.append _ _ _ s) (hR.trans (hR.raise _) (hR.rel_completion e _))

theorem EmitterClosed.rel_takeHead (hR : EmitterClosed R) (k instant : Nat) (s : State) :
    R s (takeHead k instant s) := by
  induction k generalizing s with
  | zero => exact hR.refl s
  | succ k ih =>
    unfold takeHead; split
    · dsimp only; split
      · exact hR.trans (hR.displays s _)
          (hR.trans (hR.rel_emptyCode _ _) (ih _))
      · exact hR.trans (hR.displays s _) (hR.displays _ _)
    · exact hR.refl s

theorem EmitterClosed.rel_runEmitter (hR : EmitterClosed R) (instant : Nat) (s : State) :
    R s (runEmitter instant s) :=
  hR.trans (hR.displays s _) (hR.rel_takeHead _ _ _)

theorem EmitterClosed.rel_emit (hR : EmitterClosed R) (s : State) : R s (emit s) := by
  unfold emit; split
  · exact hR.trans (hR.draws s _) (hR.rel_runEmitter _ _)
  · exact hR.refl s

theorem EmitterClosed.rel_requestOn (hR : EmitterClosed R) (d : DisplayNo) (i : Option InputNo) (s : State) :
    R s (requestOn d i s) :=
  hR.trans (hR.rel_handleOn d i s) (hR.rel_emit _)

theorem EmitterClosed.rel_requestOff (hR : EmitterClosed R) (d : DisplayNo) (s : State) :
    R s (requestOff d s) :=
  hR.trans (hR.rel_handleOff d s) (hR.rel_emit _)

theorem EmitterClosed.rel_requestInput (hR : EmitterClosed R) (d : DisplayNo) (n : InputNo) (s : State) :
    R s (requestInput d n s) :=
  hR.trans (hR.rel_handleInput d n s) (hR.rel_emit _)

theorem EmitterClosed.rel_powerOnPlan (hR : EmitterClosed R) (f : Fixed) (s : State) : R s (powerOnPlan f s) :=
  hR.rel_foldl _ (fun t d => hR.rel_requestOn d _ t) _ s

theorem EmitterClosed.rel_powerOffPlan (hR : EmitterClosed R) (f : Fixed) (s : State) :
    R s (powerOffPlan f s) :=
  hR.rel_foldl _ (fun t d => hR.rel_requestOff d t) _ s

theorem EmitterClosed.rel_finishTransmission (hR : EmitterClosed R) (s : State) :
    R s (finishTransmission s) := by
  unfold finishTransmission; split
  · exact hR.refl s
  · exact hR.trans (hR.displays s _)
      (hR.trans (hR.rel_completion _ _) (hR.rel_runEmitter _ _))
theorem EmitterClosed.rel_finishAll (hR : EmitterClosed R) (k : Nat) (s : State) : R s (finishAll k s) := by
  induction k generalizing s with
  | zero => exact hR.refl s
  | succ k ih =>
    unfold finishAll; split
    · exact hR.trans (hR.rel_finishTransmission s) (ih _)
    · exact hR.refl s

theorem EmitterClosed.rel_settleEmitter (hR : EmitterClosed R) (s : State) : R s (settleEmitter s) :=
  hR.trans (hR.rel_emit s) (hR.rel_finishAll _ _)

end EmitterOperations

section MeetingOperations

variable {R : State → State → Prop}

theorem MeetingClosed.rel_meetingSignal (hR : MeetingClosed R) (next : Meeting) (f : FloorSetup) (s : State) :
    R s (meetingSignal next f s) :=
  hR.trans (hR.rel_closeEverything _ s) (hR.trans (hR.rel_clearQueue _) (hR.trans (hR.rel_clearArming _)
    (hR.trans (hR.rel_clearHolders _) (hR.trans (hR.floor _ _) (hR.trans (hR.messages _)
      (hR.rel_afterFloor _))))))

theorem MeetingClosed.rel_meetingStart (hR : MeetingClosed R) (k : SlotNo) (f : Fixed) (c : StartCause) (s : State) :
    R s (meetingStart k f c s) :=
  hR.trans (hR.rel_meetingSignal _ _ s) (hR.trans (hR.bank _ _) (hR.append _ _ _ _))

theorem MeetingClosed.rel_meetingEnd (hR : MeetingClosed R) (f : Fixed) (c : EndCause) (s : State) :
    R s (meetingEnd f c s) :=
  hR.trans (hR.rel_meetingSignal _ _ s) (hR.trans (hR.bank _ _) (hR.append _ _ _ _))

theorem MeetingClosed.rel_idleSetupChange (hR : MeetingClosed R) (f : FloorSetup) (s : State) :
    R s (idleSetupChange f s) := by
  unfold idleSetupChange; split
  · exact hR.floor s _
  · exact hR.rel_setupChange f s

theorem MeetingClosed.rel_idleEffect (hR : MeetingClosed R) (old new : IdleSetup) (s : State) :
    R s (idleEffect old new s) := by
  have signal : ∀ next e, R s (appendWith e none (some 0)
      (bankRequest new.bank (meetingSignal next new.setup s))) := fun next e =>
    hR.trans (hR.rel_meetingSignal _ _ s) (hR.trans (hR.bank _ _) (hR.append _ _ _ _))
  unfold idleEffect; split
  · exact hR.refl s
  · split
    · exact hR.refl s
    · exact signal _ _
    · exact signal _ _
    · dsimp only; split
      · exact hR.rel_idleSetupChange _ s
      · exact hR.trans (hR.rel_idleSetupChange _ s) (hR.bank _ _)

/-- A relation of the meeting signals that holds across the requests and any change of the slots is one of placing. -/
theorem MeetingClosed.placingClosed (hR : MeetingClosed R) (on : ∀ d i s, R s (requestOn d i s))
    (off : ∀ d s, R s (requestOff d s)) (sched : ∀ s x, R s (s.withSched x)) : PlacingClosed R where
  refl := hR.refl
  trans := hR.trans
  append := hR.append
  starts k c _ _ _ := hR.rel_meetingStart k _ c _
  ends := hR.rel_meetingEnd
  on := on
  off := off
  slot _ _ _ _ := sched _ _

end MeetingOperations

section PlacingOperations

variable {R : State → State → Prop}

theorem PlacingClosed.rel_foldl (hR : PlacingClosed R) {α : Type} (f : State → α → State)
    (h : ∀ s a, R s (f s a)) (l : List α) (s : State) : R s (l.foldl f s) := by
  induction l generalizing s with
  | nil => exact hR.refl s
  | cons a l ih => exact hR.trans (h s a) (ih (f s a))

theorem PlacingClosed.rel_powerOnPlan (hR : PlacingClosed R) (f : Fixed) (s : State) : R s (powerOnPlan f s) :=
  hR.rel_foldl _ (fun t d => hR.on d _ t) _ s

theorem PlacingClosed.rel_powerOffPlan (hR : PlacingClosed R) (f : Fixed) (s : State) : R s (powerOffPlan f s) :=
  hR.rel_foldl _ (fun t d => hR.off d t) _ s

theorem powerOnPlan_sched (f : Fixed) (s : State) : (powerOnPlan f s).sched = s.sched :=
  (emitterFrame_powerOnPlan f s).sched

theorem powerOffPlan_sched (f : Fixed) (s : State) : (powerOffPlan f s).sched = s.sched :=
  (emitterFrame_powerOffPlan f s).sched

theorem meetingEnd_sched (f : Fixed) (c : EndCause) (s : State) : (meetingEnd f c s).sched = s.sched := by
  obtain ⟨hsched, -⟩ := meetingSignal_frame (followingMeeting s.sched.idle) s.sched.idle.setup s
  simp [meetingEnd, appendWith, bankRequest, hsched]

theorem HoldsFixed.of_sched {s t : State} {f : Fixed} (h : HoldsFixed s f) (ht : t.sched = s.sched) :
    HoldsFixed t f := by
  unfold HoldsFixed; rw [ht]; exact h

theorem holdsFixed_setSlot {k : SlotNo} {x : Slot} {f : Fixed} (s : State) (h : slotFixed x = some f) :
    HoldsFixed (setSlot k x s) f :=
  ⟨k, by show slotFixed (look (upd s.sched.slots k x) k) = _; rw [look_upd_self]; exact h⟩

/-- A booking's own slot, freed or written again with its fixed part. -/
theorem PlacingClosed.rel_setSlot (hR : PlacingClosed R) (k : SlotNo) {x : Slot} {f : Fixed} {s : State}
    (h : HoldsFixed s f) (hx : slotFixed x = none ∨ slotFixed x = some f) : R s (setSlot k x s) := by
  refine hR.slot k fun g hg => ?_
  obtain hnone | hsome := hx
  · rw [hnone] at hg; cases hg
  · rw [hsome] at hg; cases hg; exact h

theorem PlacingClosed.rel_finishBooking (hR : PlacingClosed R) (k : SlotNo) {f : Fixed} (items : List Item)
    (booked : Nat) {s : State} (h : HoldsFixed s f) : R s (finishBooking k f items booked s) := by
  refine hR.trans (hR.rel_powerOffPlan f s) (hR.rel_setSlot k (h.of_sched (powerOffPlan_sched f s)) ?_)
  split
  · exact Or.inr rfl
  · exact Or.inl rfl

theorem PlacingClosed.rel_placeInside (hR : PlacingClosed R) (k : SlotNo) (c : Causes) (stage due : Stage) {f : Fixed}
    (items : List Item) (booked current : Nat) {s : State} (h : HoldsFixed s f) :
    R s (placeInside k c stage due f items booked current s) := by
  have set : ∀ t, HoldsFixed t f → R t (setSlot k (.committed due f items booked current) t) :=
    fun t ht => hR.rel_setSlot k ht (Or.inr rfl)
  have start : ∀ t, HoldsFixed t f →
      R t (meetingStart k f c.starts (setSlot k (.committed due f items booked current) t)) :=
    fun t ht => hR.trans (set t ht) (hR.starts k _ (holdsFixed_setSlot t rfl))
  have plan := hR.rel_powerOnPlan f s
  have hplan := h.of_sched (powerOnPlan_sched f s)
  unfold placeInside; dsimp only; split
  · split
    · exact set s h
    · exact hR.refl s
    · exact hR.trans plan (set _ hplan)
    · exact hR.trans plan (start _ hplan)
    · exact hR.trans plan (start _ hplan)
  · split
    · exact hR.trans (set s h) (hR.ends _ _ _)
    · split
      · exact start s h
      · exact set s h

theorem PlacingClosed.rel_placeOutside (hR : PlacingClosed R) (k : SlotNo) (c : Causes) (stage : Stage) {f : Fixed}
    (items : List Item) (booked : Nat) {s : State} (h : HoldsFixed s f) :
    R s (placeOutside k c stage f items booked s) := by
  have ended := hR.trans (hR.ends f c.ends s)
    (hR.rel_finishBooking k items booked (h.of_sched (meetingEnd_sched f c.ends s)))
  unfold placeOutside; split
  · exact hR.refl s
  · exact hR.rel_finishBooking k items booked h
  · exact hR.rel_finishBooking k items booked h
  · exact ended
  · exact ended

theorem PlacingClosed.rel_place (hR : PlacingClosed R) (c : Causes) (t : Nat) (k : SlotNo) (s : State) :
    R s (place c t k s) := by
  unfold place; split
  · next stage f items booked current hslot =>
    have held : HoldsFixed s f := ⟨k, by rw [hslot]; rfl⟩
    split
    · exact hR.rel_placeOutside k c stage items booked held
    · split
      · exact hR.refl s
      · exact hR.rel_placeInside k c stage _ items booked current held
  · exact hR.refl s

theorem PlacingClosed.rel_placeAll (hR : PlacingClosed R) (c : Causes) (t : Nat) (l : List SlotNo) (s : State) :
    R s (placeAll c t l s) :=
  hR.rel_foldl _ (fun u k => hR.rel_place c t k u) l s

theorem PlacingClosed.rel_placeBoundary (hR : PlacingClosed R) (t : Nat) (s : State) : R s (placeBoundary t s) :=
  hR.trans (hR.rel_placeAll _ _ _ s) (hR.rel_placeAll _ _ _ _)

theorem PlacingClosed.rel_placeOrMiss (hR : PlacingClosed R) (old : Option Nat) (new t : Nat) (s : State) (k : SlotNo) :
    R s (placeOrMiss old new t s k) := by
  have missed : ∀ {f : Fixed} (items : List Item) (booked : Nat), HoldsFixed s f →
      R s (missBooking k f items booked s) := by
    intro f items booked h
    have held : HoldsFixed (appendWith (.bookingMissed k) none (some f.id) s) f := h.of_sched rfl
    refine hR.trans (hR.append _ _ _ s) (hR.rel_setSlot k held ?_)
    split
    · exact Or.inr rfl
    · exact Or.inl rfl
  have either : ∀ (b : Bool) {f : Fixed} (items : List Item) (booked : Nat), HoldsFixed s f →
      R s (if b then missBooking k f items booked s else place ⟨.late, .clock⟩ t k s) := by
    intro b f items booked h
    cases b
    · exact hR.rel_place _ _ _ s
    · exact missed items booked h
  unfold placeOrMiss; split
  · next hslot => exact either _ _ _ ⟨k, by rw [hslot]; rfl⟩
  · exact hR.refl s

/-- RESTART's placing, behind the step that makes every booking PENDING (R182). -/
theorem PlacingClosed.rel_restartBookings (hR : PlacingClosed R) {s : State}
    (h : R s (s.withSched { s.sched with slots := s.sched.slots.map backToPending })) : R s (restartBookings s) := by
  unfold restartBookings; dsimp only; split
  · exact hR.trans h (hR.rel_placeAll _ _ _ _)
  · exact h

end PlacingOperations

end Sys2Proof.Machine
end

section
/-!
PROOFS. THE BOOKS. What every command keeps of the log, of what the notice summary says of it, of the two FIFOs of the
Command Port, and of the queue of waiting commands (R185, R190, R200, R202).
-/

namespace Sys2Proof.Machine

/-! ### One append -/

/-- A record with the next sequence number prolongs a consecutive ring (R185, R187). -/
theorem consecutive_append {last : SeqNo} {l : List LogRecord} {r : LogRecord} (h : consecutive last l)
    (hr : r.seq = last + 1) : consecutive (last + 1) (l ++ [r]) := by
  induction l with
  | nil => simp [consecutive, hr]
  | cons x l ih =>
    obtain ⟨hx, hl⟩ := h
    refine ⟨?_, ih hl⟩
    show x.seq = last + 1 - BitVec.ofNat 16 (l ++ [r]).length
    rw [hx, List.length_append, List.length_singleton, BitVec.ofNat_add]
    bv_omega

theorem consecutive_drop_one {last : SeqNo} {l : List LogRecord} (h : consecutive last l) :
    consecutive last (l.drop 1) := by
  cases l with
  | nil => exact h
  | cons x l => exact h.2

theorem logLaw_appendWith (e : LogEvent) (n : Option Seat) (b : Option Nat) {s : State} (h : logLaw s) :
    logLaw (appendWith e n b s) := by
  obtain ⟨hring, hunread, hseq⟩ := h
  have hlast : s.log.nextSeq + 1 - 1 = s.log.nextSeq - 1 + 1 := by bv_omega
  have hnext : s.log.nextSeq = s.log.nextSeq - 1 + 1 := by bv_omega
  simp only [logLaw, appendWith, withNotices_log, withLog_log, pushRecord, hlast]
  split
  · refine ⟨?_, ?_, consecutive_append hseq hnext⟩
    · rw [List.length_append, List.length_singleton]; omega
    · rw [List.length_append, List.length_singleton]; split <;> omega
  · refine ⟨?_, ?_, consecutive_append (consecutive_drop_one hseq) hnext⟩
    · rw [List.length_append, List.length_singleton, List.length_drop]; omega
    · rw [List.length_append, List.length_singleton, List.length_drop]; split <;> omega

theorem summaryLaw_appendWith (e : LogEvent) (n : Option Seat) (b : Option Nat) {s : State} (h : summaryLaw s) :
    summaryLaw (appendWith e n b s) := by
  refine ⟨?_, h.2⟩
  have : 0 < (if s.log.unread < 256 then s.log.unread + 1 else s.log.unread) := by split <;> omega
  exact (decide_eq_true this).symm

/-! ### Orderly changes -/

/-- From `s` to `t` the laws of the summary and of the log are kept, and both FIFOs and the waiting commands stay. -/
structure Orderly (s t : State) : Prop where
  summary : summaryLaw s → summaryLaw t
  log : logLaw s → logLaw t
  fifo : t.port.fifo = s.port.fifo
  answers : t.port.answers = s.port.answers
  pending : t.pending = s.pending

/-- The log and all that the laws of the summary, the FIFOs and the waiting commands name are the same. -/
structure SameBooks (s t : State) : Prop where
  log : t.log = s.log
  sumLog : t.notices.summary.log = s.notices.summary.log
  sumClip : t.notices.summary.clip = s.notices.summary.clip
  sumClock : t.notices.summary.clock = s.notices.summary.clock
  clipFloor : t.mixer.clipFloor = s.mixer.clipFloor
  clipFar : t.mixer.clipFar = s.mixer.clipFar
  valid : t.clock.valid = s.clock.valid
  fifo : t.port.fifo = s.port.fifo
  answers : t.port.answers = s.port.answers
  pending : t.pending = s.pending

theorem SameBooks.orderly {s t : State} (h : SameBooks s t) : Orderly s t where
  summary := by
    unfold summaryLaw
    rw [h.log, h.sumLog, h.sumClip, h.sumClock, h.clipFloor, h.clipFar, h.valid]; exact id
  log := by unfold logLaw; rw [h.log]; exact id
  fifo := h.fifo
  answers := h.answers
  pending := h.pending

theorem Orderly.refl (s : State) : Orderly s s := ⟨id, id, rfl, rfl, rfl⟩

theorem Orderly.trans {s t u : State} (h : Orderly s t) (k : Orderly t u) : Orderly s u :=
  ⟨k.summary ∘ h.summary, k.log ∘ h.log, k.fifo.trans h.fifo, k.answers.trans h.answers,
    k.pending.trans h.pending⟩

theorem orderly_appendWith (e : LogEvent) (n : Option Seat) (b : Option Nat) (s : State) :
    Orderly s (appendWith e n b s) :=
  ⟨summaryLaw_appendWith e n b, logLaw_appendWith e n b, rfl, rfl, rfl⟩

/-- The emitter keeps the books. -/
theorem emitterClosed_orderly : EmitterClosed Orderly where
  refl := Orderly.refl
  trans := Orderly.trans
  append := orderly_appendWith
  displays _ _ := SameBooks.orderly (by constructor <;> rfl)
  draws _ _ := SameBooks.orderly (by constructor <;> rfl)
  raise _ := SameBooks.orderly (by constructor <;> rfl)

/-- The meeting signals, and with them the floor, keep the books. -/
theorem meetingClosed_orderly : MeetingClosed Orderly where
  refl := Orderly.refl
  trans := Orderly.trans
  append := orderly_appendWith
  floor _ _ := SameBooks.orderly (by constructor <;> rfl)
  gate _ _ := SameBooks.orderly (by constructor <;> rfl)
  refuse _ _ := SameBooks.orderly (by constructor <;> rfl)
  bank _ _ := SameBooks.orderly (by constructor <;> rfl)
  messages _ := SameBooks.orderly (by constructor <;> rfl)

theorem orderly_withSched (s : State) (x : Scheduler) : Orderly s (s.withSched x) :=
  SameBooks.orderly (by constructor <;> rfl)

/-- Placing bookings keeps the books. -/
theorem placingClosed_orderly : PlacingClosed Orderly :=
  meetingClosed_orderly.placingClosed emitterClosed_orderly.rel_requestOn emitterClosed_orderly.rel_requestOff
    orderly_withSched

theorem floorClosed_orderly : FloorClosed Orderly := meetingClosed_orderly.toFloorClosed

theorem orderly_withSeats (s : State) (x : Vector SeatUnit 64) : Orderly s (s.withSeats x) :=
  SameBooks.orderly (by constructor <;> rfl)

theorem orderly_withLinks (s : State) (x : Links) : Orderly s (s.withLinks x) :=
  SameBooks.orderly (by constructor <;> rfl)

theorem orderly_withScreens (s : State) (x : Screens) : Orderly s (s.withScreens x) :=
  SameBooks.orderly (by constructor <;> rfl)

theorem orderly_withDisplays (s : State) (x : Displays) : Orderly s (s.withDisplays x) :=
  SameBooks.orderly (by constructor <;> rfl)

theorem orderly_withGate (s : State) (x : Gate) : Orderly s (s.withGate x) :=
  SameBooks.orderly (by constructor <;> rfl)

theorem orderly_withDue (s : State) (x : Due) : Orderly s (s.withDue x) :=
  SameBooks.orderly (by constructor <;> rfl)

theorem orderly_withTime (s : State) (x : TimeBase) : Orderly s (s.withTime x) :=
  SameBooks.orderly (by constructor <;> rfl)

theorem orderly_withSent (s : State) (x : Sent) : Orderly s (s.withSent x) :=
  SameBooks.orderly (by constructor <;> rfl)

theorem orderly_withAlert (s : State) (x : AlertFilter) : Orderly s (s.withAlert x) :=
  SameBooks.orderly (by constructor <;> rfl)

theorem orderly_withAudio (s : State) (x : AudioIn) : Orderly s (s.withAudio x) :=
  SameBooks.orderly (by constructor <;> rfl)

theorem orderly_setSeat (n : Seat) (u : SeatUnit) (s : State) : Orderly s (setSeat n u s) := orderly_withSeats s _

/-- A notice that becomes or ceases to be pending, with a change of LINK or DISPLAY alone. -/
theorem orderly_withNotices {s : State} {x : Notices} (hl : x.summary.log = s.notices.summary.log)
    (hc : x.summary.clip = s.notices.summary.clip) (hk : x.summary.clock = s.notices.summary.clock) :
    Orderly s (s.withNotices x) :=
  SameBooks.orderly ⟨rfl, hl, hc, hk, rfl, rfl, rfl, rfl, rfl, rfl⟩

/-- The mixer with its clip counters as they were. -/
theorem orderly_withMixer {s : State} {x : Mixer} (hf : x.clipFloor = s.mixer.clipFloor)
    (hr : x.clipFar = s.mixer.clipFar) : Orderly s (s.withMixer x) :=
  SameBooks.orderly ⟨rfl, rfl, rfl, rfl, hf, hr, rfl, rfl, rfl, rfl⟩

/-- The port with its FIFOs as they were. -/
theorem orderly_withPort {s : State} {x : Port} (hf : x.fifo = s.port.fifo) (ha : x.answers = s.port.answers) :
    Orderly s (s.withPort x) :=
  SameBooks.orderly ⟨rfl, rfl, rfl, rfl, rfl, rfl, rfl, hf, ha, rfl⟩

/-! ### Lawful steps -/

/-- From `s` to `t` every law of the books is kept, and the waiting commands stay. -/
structure Lawful (s t : State) : Prop where
  summary : summaryLaw s → summaryLaw t
  log : logLaw s → logLaw t
  fifo : fifoLaw s → fifoLaw t
  pending : t.pending = s.pending

theorem Orderly.lawful {s t : State} (h : Orderly s t) : Lawful s t :=
  ⟨h.summary, h.log, by unfold fifoLaw; rw [h.fifo, h.answers]; exact id, h.pending⟩

theorem Lawful.trans {s t u : State} (h : Lawful s t) (k : Lawful t u) : Lawful s u :=
  ⟨k.summary ∘ h.summary, k.log ∘ h.log, k.fifo ∘ h.fifo, k.pending.trans h.pending⟩

theorem Lawful.refl (s : State) : Lawful s s := (Orderly.refl s).lawful

/-- A change of the port that keeps its FIFOs within 8. -/
theorem lawful_withPort {s : State} {x : Port}
    (h : fifoLaw s → x.fifo.length ≤ 8 ∧ x.answers.length ≤ 8) : Lawful s (s.withPort x) :=
  ⟨id, id, h, rfl⟩

theorem lawful_placeAnswer (a : Answer) {s : State} (h : s.port.answers.length < 8) : Lawful s (placeAnswer a s) := by
  refine lawful_withPort fun hs => ⟨hs.1, ?_⟩
  rw [List.length_append, List.length_singleton]; omega

/-- A command taken from the head of the Command FIFO. -/
theorem lawful_taken {i : Instr} {s : State} {rest : List CommandCell} (h : Ready i s rest) :
    Lawful s (s.withPort { s.port with fifo := rest }) := by
  refine lawful_withPort fun hs => ⟨?_, hs.2⟩
  obtain ⟨-, ⟨-, -, hrest⟩ | ⟨c, hc, -⟩⟩ := h
  · simp [hrest]
  · have := hs.1; rw [hc, List.length_cons] at this; exact Nat.le_of_succ_le this

/-- One execution by an orderly owner (R201). -/
theorem lawful_runCommand (i : Instr) (tag code : Byte) {act : State → Reply} (h : ∀ u, Orderly u (act u).state)
    (s : State) : Lawful s (runCommand i tag code act s) := by
  obtain hs | ⟨rest, hready, hs⟩ := runCommand_cases i tag code act s
  · rw [hs]; exact Lawful.refl s
  · rw [hs]
    have hact := h (s.withPort { s.port with fifo := rest })
    refine (lawful_taken hready).trans (hact.lawful.trans (lawful_placeAnswer _ ?_))
    rw [hact.answers]; exact hready.1

theorem orderly_withForm {α : Type} {act : α → State → Reply} (h : ∀ x u, Orderly u (act x u).state)
    (p : Option α) (u : State) : Orderly u (withForm p act u).state := by
  cases p with
  | none => exact Orderly.refl u
  | some x => exact h x u

end Sys2Proof.Machine
end

section
/-!
PROOFS. EVERY ROW KEEPS THE BOOKS. Row by row of the opcode table: the laws of the summary, of the log and of the FIFOs
are kept, and the waiting commands stay. Settles the statements about them and about RESET.
-/

namespace Sys2Proof.Machine

/-! ### The owners of the floor commands -/

section FloorReplies

variable {R : State → State → Prop}

theorem FloorClosed.rel_stateRefused (hR : FloorClosed R) (n : Seat) (s : State) : R s (stateRefused n s).state := by
  unfold stateRefused; dsimp only; split
  · exact hR.refuse n s
  · exact hR.refl s

theorem FloorClosed.rel_joinOpen_afterFloor (hR : FloorClosed R) (how : How) (n : Seat) (s : State) :
    R s (afterFloor (joinOpen how n s)) :=
  hR.trans (hR.rel_joinOpen how n s) (hR.rel_afterFloor _)

theorem FloorClosed.rel_openDelegate (hR : FloorClosed R) (n : Seat) (s : State) : R s (openDelegate n s).state := by
  have slot : R s (if slotFree s.floor then done (afterFloor (joinOpen .command n s)) else stateRefused n s).state := by
    split
    · exact hR.rel_joinOpen_afterFloor _ n s
    · exact hR.rel_stateRefused n s
  unfold openDelegate; split
  · exact slot
  · exact slot
  · exact hR.trans (hR.rel_overrideOpen _ n s) (hR.rel_afterFloor _)
  · split
    · exact hR.refl s
    · exact hR.trans (hR.rel_arm n s) (hR.rel_afterFloor _)

theorem FloorClosed.rel_openSeat (hR : FloorClosed R) (n : Seat) (s : State) : R s (openSeat n s).state := by
  unfold openSeat; split
  · exact hR.rel_stateRefused n s
  · split
    · exact hR.refl s
    · split
      · exact hR.rel_stateRefused n s
      · split
        · exact hR.refl s
        · exact hR.rel_joinOpen_afterFloor _ n s
      · split
        · exact hR.refl s
        · split
          · exact hR.rel_stateRefused n s
          · exact hR.rel_openDelegate n s

theorem FloorClosed.rel_seatOpenReply (hR : FloorClosed R) (seat : Nat) (s : State) :
    R s (seatOpenReply seat s).state := by
  unfold seatOpenReply; split
  · exact hR.rel_openSeat _ s
  · exact hR.refl s

theorem FloorClosed.rel_seatCloseReply (hR : FloorClosed R) (seat : Nat) (s : State) :
    R s (seatCloseReply seat s).state := by
  unfold seatCloseReply; split
  · exact hR.trans (hR.rel_takeOut _ _ _ s) (hR.rel_afterFloor _)
  · exact hR.refl s

theorem FloorClosed.rel_grantReply (hR : FloorClosed R) (s : State) : R s (grantReply s).state := by
  unfold grantReply; split
  · next t ht => exact hR.trans (hR.rel_grant ht) (hR.rel_afterFloor _)
  · exact hR.refl s

theorem FloorClosed.rel_floorSetReply (hR : FloorClosed R) (f : SetupFields) (s : State) :
    R s (floorSetReply f s).state := by
  unfold floorSetReply; split
  · exact hR.refl s
  · split
    · exact hR.rel_setupChange _ s
    · exact hR.refl s

theorem FloorClosed.rel_priorityOnReply (hR : FloorClosed R) (s : State) : R s (priorityOnReply s).state := by
  unfold priorityOnReply; split
  · exact hR.trans (hR.floor s _) (hR.rel_holdStart _ _)
  · exact hR.floor s _
  · exact hR.refl s
  · exact hR.refl s

theorem FloorClosed.rel_priorityOffReply (hR : FloorClosed R) (s : State) : R s (priorityOffReply s).state := by
  unfold priorityOffReply; split
  · exact hR.trans (hR.floor s _) (hR.rel_endHoldIfFree _)
  · exact hR.refl s

end FloorReplies

/-! ### The owners of the other commands -/

theorem orderly_setMessages (who : Option Seat) (m : Option Message) (s : State) : Orderly s (setMessages who m s) := by
  unfold setMessages; split
  · exact orderly_withScreens s _
  · exact orderly_withScreens s _

theorem orderly_seatMessageReply (target duration : Nat) (text : Text) (s : State) :
    Orderly s (seatMessageReply target duration text s).state := by
  unfold seatMessageReply; split
  · exact Orderly.refl s
  · split
    · exact Orderly.refl s
    · exact orderly_setMessages _ _ s

theorem orderly_messageClearReply (target : Nat) (s : State) : Orderly s (messageClearReply target s).state := by
  unfold messageClearReply; split
  · exact Orderly.refl s
  · exact orderly_setMessages _ _ s

theorem orderly_bankSelectReply (b : Nat) (s : State) : Orderly s (bankSelectReply b s).state := by
  unfold bankSelectReply; split
  · exact meetingClosed_orderly.bank _ s
  · exact Orderly.refl s

/-- CLIP READ empties the counters and clears their source (R99, R190). -/
theorem orderly_clipReadReply (s : State) : Orderly s (clipReadReply s).state where
  summary h := ⟨h.1, rfl, h.2.2⟩
  log := id
  fifo := rfl
  answers := rfl
  pending := rfl

theorem orderly_meterReadReply (first count : Nat) (s : State) : Orderly s (meterReadReply first count s).state := by
  unfold meterReadReply; split
  · exact Orderly.refl s
  · exact orderly_withGate s _

theorem orderly_powerOnReply (display input : Nat) (s : State) : Orderly s (powerOnReply display input s).state := by
  unfold powerOnReply; split
  · exact emitterClosed_orderly.rel_requestOn _ _ s
  · exact Orderly.refl s

theorem orderly_powerOffReply (display input : Nat) (s : State) : Orderly s (powerOffReply display input s).state := by
  unfold powerOffReply; split
  · exact emitterClosed_orderly.rel_requestOff _ s
  · exact Orderly.refl s

theorem orderly_inputReply (display input : Nat) (s : State) : Orderly s (inputReply display input s).state := by
  unfold inputReply; split
  · exact emitterClosed_orderly.rel_requestInput _ _ s
  · exact Orderly.refl s

/-- CLOCK SET makes the clock valid and clears CLOCK (R158, R190). -/
theorem orderly_setClock (time : RoomTime) (s : State) : Orderly s (setClock time s) := by
  let t := (s.withClock { time := time, valid := true }).withDue { s.due with boundary := none }
  have valid : Orderly s (t.withNotices { t.notices with summary := { t.notices.summary with clock := false } }) :=
    ⟨fun h => ⟨h.1, h.2.1, rfl⟩, id, rfl, rfl, rfl⟩
  exact valid.trans (orderly_appendWith _ _ _ _)

theorem orderly_clockJump (time : RoomTime) (s : State) : Orderly s (clockJump time s) :=
  (orderly_setClock time s).trans ((placingClosed_orderly.rel_placeAll _ _ _ _).trans
    (floorClosed_orderly.rel_foldl _ (fun u k => placingClosed_orderly.rel_placeOrMiss _ _ _ u k) _ _))

theorem orderly_clockSetReply (day hour minute second : Nat) (s : State) :
    Orderly s (clockSetReply day hour minute second s).state := by
  unfold clockSetReply; split
  · exact Orderly.refl s
  · exact orderly_clockJump _ s

theorem orderly_setSlot (k : SlotNo) (x : Slot) (s : State) : Orderly s (setSlot k x s) := orderly_withSched s _

theorem orderly_commitReply (slot : Nat) (s : State) : Orderly s (commitReply slot s).state := by
  have place : ∀ (k : SlotNo) x, Orderly s (if s.clock.valid
      then place ⟨.late, .clock⟩ (presentMinute s) k (setSlot k x s) else setSlot k x s) := by
    intro k x; split
    · exact (orderly_setSlot k x s).trans (placingClosed_orderly.rel_place _ _ _ _)
    · exact orderly_setSlot k x s
  unfold commitReply; split
  · unfold commitSlot; split
    · split
      · exact Orderly.refl s
      · split
        · exact Orderly.refl s
        · split
          · exact Orderly.refl s
          · exact place _ _
    · exact Orderly.refl s
  · exact Orderly.refl s

theorem orderly_extendSlot (k : SlotNo) (minutes : Nat) (s : State) : Orderly s (extendSlot k minutes s).state := by
  unfold extendSlot; split
  · split
    · exact Orderly.refl s
    · split
      · exact Orderly.refl s
      · split
        · exact Orderly.refl s
        · dsimp only [done]; split
          · exact orderly_setSlot _ _ s
          · exact (orderly_setSlot _ _ s).trans (placingClosed_orderly.rel_place _ _ _ _)
  · exact Orderly.refl s

theorem orderly_extendReply (slot minutes : Nat) (s : State) : Orderly s (extendReply slot minutes s).state := by
  unfold extendReply; split
  · split
    · exact orderly_extendSlot _ _ s
    · exact Orderly.refl s
  · exact Orderly.refl s

theorem orderly_endNowReply (slot : Nat) (s : State) : Orderly s (endNowReply slot s).state := by
  unfold endNowReply; split
  · unfold endNowSlot; split
    · split
      · exact (orderly_setSlot _ _ s).trans (placingClosed_orderly.rel_place _ _ _ _)
      · exact Orderly.refl s
    · exact Orderly.refl s
  · exact Orderly.refl s

theorem orderly_cancelReply (slot : Nat) (s : State) : Orderly s (cancelReply slot s).state := by
  have off : ∀ (k : SlotNo) f u, Orderly s u → Orderly s (setSlot k .free (powerOffPlan f u)) := fun k f u h =>
    h.trans ((emitterClosed_orderly.rel_powerOffPlan f u).trans (orderly_setSlot _ _ _))
  unfold cancelReply; split
  · unfold cancelSlot; split
    · exact Orderly.refl s
    · exact orderly_setSlot _ _ s
    · split
      · exact orderly_setSlot _ _ s
      · exact off _ _ s (Orderly.refl s)
      · exact off _ _ s (Orderly.refl s)
      · exact off _ _ _ (placingClosed_orderly.ends _ _ s)
      · exact off _ _ _ (placingClosed_orderly.ends _ _ s)
  · exact Orderly.refl s

/-- LOG READ takes one record from the unread ones and clears LOG with the last (R189, R190). -/
theorem orderly_logReadReply (s : State) : Orderly s (logReadReply s).state := by
  unfold logReadReply; split
  · next left r hunread _ =>
    refine ⟨fun h => ⟨?_, h.2⟩, fun h => ⟨h.1, ?_, h.2.2⟩, rfl, rfl, rfl⟩
    · have hlog : s.notices.summary.log = true := by rw [h.1, hunread]; simp
      show (s.notices.summary.log && decide (left ≠ 0)) = decide (0 < left)
      rw [hlog, Bool.true_and]; exact decide_eq_decide.mpr (by omega)
    · have := h.2.1; rw [hunread] at this; exact Nat.le_of_succ_le this
  · refine ⟨fun h => ⟨?_, h.2⟩, id, rfl, rfl, rfl⟩
    show (s.notices.summary.log && decide (s.log.unread ≠ 0)) = decide (0 < s.log.unread)
    rw [h.1, ← Bool.decide_and]; exact decide_eq_decide.mpr (by omega)

theorem orderly_noticeSetReply (mask trigger : Nat) (s : State) : Orderly s (noticeSetReply mask trigger s).state := by
  unfold noticeSetReply; split
  · exact orderly_withNotices rfl rfl rfl
  · exact Orderly.refl s

theorem orderly_clearSeen (s : State) : Orderly s (clearSeen s) := orderly_withNotices rfl rfl rfl

theorem orderly_statusReply (s : State) : Orderly s (statusReply s).state :=
  (orderly_clearSeen s).trans (emitterClosed_orderly.draws _ _)

theorem orderly_statusSeatReply (seat : Nat) (s : State) : Orderly s (statusSeatReply seat s).state := by
  unfold statusSeatReply; split
  · exact orderly_clearSeen s
  · exact Orderly.refl s

/-! ### The owners of the tables and lists -/

theorem orderly_setCursor (c : Cursor) (s : State) : Orderly s (setCursor c s) := orderly_withPort rfl rfl

theorem orderly_selectReply (p : Option (TableName × Nat)) (s : State) : Orderly s (selectReply p s).state := by
  unfold selectReply; split
  · unfold selectCursor; split
    · exact orderly_setCursor _ s
    · exact Orderly.refl s
  · exact Orderly.refl s

theorem orderly_getReply (p : Option Unit) (s : State) : Orderly s (getReply p s).state := by
  unfold getReply; split
  · unfold getAtCursor; dsimp only; split
    · exact orderly_setCursor _ s
    · exact Orderly.refl s
  · exact Orderly.refl s

theorem orderly_putAtCursor {α : Type} (ofTable : TableName → Bool) (p : Option α)
    {store : TableName → Nat → α → State → Reply} (h : ∀ t i x u, Orderly u (store t i x u).state)
    (s : State) :
    Orderly s (putAtCursor ofTable p store s).state := by
  unfold putAtCursor; dsimp only; split
  · exact Orderly.refl s
  · split
    · split
      · exact (h _ _ _ s).trans (orderly_setCursor _ _)
      · exact Orderly.refl s
    · exact Orderly.refl s

theorem orderly_atIndex {α : Type} {k : Nat} {store : Fin k → α → State → Reply}
    (h : ∀ j x u, Orderly u (store j x u).state) (i : Nat) (x : α) (u : State) :
    Orderly u (atIndex k i store x u).state := by
  unfold atIndex; split
  · exact h _ _ _
  · exact Orderly.refl u

theorem orderly_storeSeat (n : Seat) (e : SeatEntry) (s : State) : Orderly s (storeSeat n e s) :=
  SameBooks.orderly (by constructor <;> rfl)

theorem orderly_changeRole (n : Seat) (e : SeatEntry) (s : State) : Orderly s (changeRole n e s) :=
  (floorClosed_orderly.rel_takeOut _ _ n s).trans ((floorClosed_orderly.rel_leaveHolders n _).trans
    ((orderly_storeSeat n e _).trans (floorClosed_orderly.rel_afterFloor _)))

theorem orderly_keepRole (n : Seat) (e : SeatEntry) (s : State) : Orderly s (keepRole n e s) := by
  unfold keepRole; dsimp only; split
  · exact orderly_storeSeat n e s
  · split
    · exact (orderly_storeSeat n e s).trans ((floorClosed_orderly.rel_recomputeSeat n _).trans
        (floorClosed_orderly.rel_afterFloor _))
    · exact orderly_storeSeat n e s

theorem orderly_putSeatStore (n : Seat) (f : SeatFields) (s : State) : Orderly s (putSeatStore n f s).state := by
  unfold putSeatStore; split
  · exact Orderly.refl s
  · split
    · exact Orderly.refl s
    · split
      · exact orderly_keepRole _ _ s
      · exact orderly_changeRole _ _ s

theorem orderly_putNameStore (i : NameNo) (x : Text) (s : State) : Orderly s (putNameStore i x s).state := by
  unfold putNameStore; split
  · exact Orderly.refl s
  · exact orderly_withScreens s _

theorem orderly_putGainStore (t : TableName) (i : Fin 65) (g : Nat) (s : State) :
    Orderly s (putGainStore t i g s).state := by
  unfold putGainStore; split
  · exact orderly_withMixer rfl rfl
  · exact orderly_withMixer rfl rfl

theorem orderly_putBookingStore (k : SlotNo) (f : BookingFields) (s : State) :
    Orderly s (putBookingStore k f s).state := by
  have draft : ∀ items, Orderly s (match fixed? f with
      | some x => done (setSlot k (.draft x items) s)
      | none => refusal .range s).state := by
    intro items; split
    · exact orderly_setSlot _ _ s
    · exact Orderly.refl s
  unfold putBookingStore; split
  · exact Orderly.refl s
  · exact draft _
  · exact draft _

theorem orderly_putIdleStore (f : IdleFields) (s : State) : Orderly s (putIdleStore f s).state := by
  unfold putIdleStore; split
  · exact (orderly_withSched s _).trans (meetingClosed_orderly.rel_idleEffect _ _ _)
  · exact Orderly.refl s

theorem orderly_putDisplayStore (d : DisplayNo) (f : PresetFields) (s : State) :
    Orderly s (putDisplayStore d f s).state := by
  unfold putDisplayStore; split
  · exact orderly_withDisplays s _
  · exact Orderly.refl s

theorem orderly_clearAssignReply (slot : Nat) (s : State) : Orderly s (clearAssignReply slot s).state := by
  unfold clearAssignReply; split
  · exact Orderly.refl s
  · split
    · exact orderly_setSlot _ _ s
    · exact Orderly.refl s

theorem orderly_addAssignReply (slot : Nat) (raw : List (Nat × Nat)) (s : State) :
    Orderly s (addAssignReply slot raw s).state := by
  unfold addAssignReply; split
  · split
    · exact Orderly.refl s
    · split
      · dsimp only; split
        · exact Orderly.refl s
        · exact orderly_setSlot _ _ s
      · exact Orderly.refl s
  · exact Orderly.refl s

theorem getAssignReply_state (slot offset : Nat) (s : State) : (getAssignReply slot offset s).state = s := by
  unfold getAssignReply; split
  · rfl
  · dsimp only; split <;> rfl

theorem orderly_clearCodeReply (slot times gap : Nat) (s : State) :
    Orderly s (clearCodeReply slot times gap s).state := by
  unfold clearCodeReply; split
  · exact Orderly.refl s
  · split
    · exact Orderly.refl s
    · split
      · exact Orderly.refl s
      · exact orderly_withDisplays s _

theorem orderly_addCodeReply (slot : Nat) (pairs : List (Nat × Nat)) (s : State) :
    Orderly s (addCodeReply slot pairs s).state := by
  unfold addCodeReply; split
  · exact Orderly.refl s
  · dsimp only; split
    · exact Orderly.refl s
    · split
      · exact Orderly.refl s
      · split
        · exact Orderly.refl s
        · exact orderly_withDisplays s _

theorem getCodeReply_state (slot offset : Nat) (s : State) : (getCodeReply slot offset s).state = s := by
  unfold getCodeReply; split
  · rfl
  · dsimp only; split <;> rfl

end Sys2Proof.Machine
end

section
/-!
PROOFS. THE ROWS THAT ARE NO COMMAND'S, AND RESTART, keep the books; then the statements that rest on it: every row
answers a next state and leaves the waiting commands, and every step keeps the laws of the summary, of the log and of
the FIFOs (R185, R190, R200, R202).
-/

namespace Sys2Proof.Machine

/-! ### What a clock row takes first -/

theorem orderly_takeBoundary (s : State) : Orderly s (takeBoundary s) := by
  unfold takeBoundary; split
  · exact Orderly.refl s
  · dsimp only; split
    · exact (orderly_withDue s _).trans (placingClosed_orderly.rel_placeBoundary _ _)
    · exact orderly_withDue s _

theorem orderly_expireRefused (n : Seat) (s : State) : Orderly s (expireRefused n s) := by
  unfold expireRefused; split
  · exact (orderly_withDue s _).trans (orderly_setSeat _ _ _)
  · exact Orderly.refl s

theorem orderly_expireMessage (n : Seat) (s : State) : Orderly s (expireMessage n s) := by
  unfold expireMessage; split
  · split
    · exact (orderly_withDue s _).trans (orderly_withScreens _ _)
    · exact Orderly.refl s
  · exact Orderly.refl s

theorem orderly_expireWarm (d : DisplayNo) (s : State) : Orderly s (expireWarm d s) := by
  unfold expireWarm; split
  · exact (orderly_withDue s _).trans ((emitterClosed_orderly.rel_warmExpired d _).trans
      (emitterClosed_orderly.rel_emit _))
  · exact Orderly.refl s

theorem orderly_expireCool (d : DisplayNo) (s : State) : Orderly s (expireCool d s) := by
  unfold expireCool; split
  · exact (orderly_withDue s _).trans ((emitterClosed_orderly.rel_coolExpired d _).trans
      (emitterClosed_orderly.rel_emit _))
  · exact Orderly.refl s

theorem orderly_foldl {α : Type} {f : State → α → State} (h : ∀ s a, Orderly s (f s a)) (l : List α)
    (s : State) :
    Orderly s (l.foldl f s) :=
  floorClosed_orderly.rel_foldl f h l s

theorem orderly_settleExpiries (s : State) : Orderly s (settleExpiries s) :=
  (orderly_foldl (fun t n => orderly_expireRefused n t) _ s).trans
    ((orderly_foldl (fun t n => orderly_expireMessage n t) _ _).trans
      ((orderly_foldl (fun t d => (orderly_expireWarm d t).trans (orderly_expireCool d _)) _ _).trans
        (orderly_withDue _ _)))

theorem orderly_settleQuiet (s : State) : Orderly s (settleQuiet s) := by
  unfold settleQuiet; split
  · refine (orderly_withNotices ?_ ?_ ?_).trans (orderly_withDue _ _) <;> split <;> rfl
  · exact Orderly.refl s

theorem orderly_setPending (b : Bool) (s : State) : Orderly s (s.withNotices { s.notices with pending := b }) :=
  orderly_withNotices rfl rfl rfl

theorem orderly_raiseLink (s : State) : Orderly s (s.withNotices (raiseLink s.notices)) :=
  orderly_withNotices rfl rfl rfl

theorem orderly_setArrived (x : Option (List Byte)) (s : State) : Orderly s (s.withPort { s.port with arrived := x }) :=
  orderly_withPort rfl rfl

theorem orderly_setUpCell (x : Option UpCell) (s : State) : Orderly s (s.withPort { s.port with slot := x }) :=
  orderly_withPort rfl rfl

theorem orderly_capture (s : State) : Orderly s (capture s) := orderly_withMixer rfl rfl

/-- The contents of a released slot go back to where they waited (R9). -/
theorem lawful_releaseSlot (s : State) : Lawful s (releaseSlot s) := by
  unfold releaseSlot; split
  · exact Lawful.refl s
  · split
    · next hlt => exact lawful_withPort fun hs => ⟨hs.1, hlt⟩
    · exact Lawful.refl s
  · exact ((orderly_setUpCell none s).trans (orderly_setPending true _)).lawful
  · exact (orderly_setUpCell none s).lawful

theorem lawful_changeLock (link : Link) (s : State) : Lawful s (changeLock link s) := by
  have release : ∀ u, Lawful s u →
      Lawful s (if link = .trunk ∧ (linkState s.links link).locked = true then releaseSlot u else u) := by
    intro u hu; split
    · exact hu.trans (lawful_releaseSlot u)
    · exact hu
  exact (release _ (orderly_withLinks s _).lawful).trans
    ((orderly_appendWith _ _ _ _).lawful.trans (orderly_raiseLink _).lawful)

theorem lawful_settleLink (link : Link) (s : State) : Lawful s (settleLink link s) := by
  unfold settleLink; split
  · exact lawful_changeLock link s
  · exact Lawful.refl s

theorem lawful_settleLinks (s : State) : Lawful s (settleLinks s) :=
  (lawful_settleLink _ s).trans ((lawful_settleLink _ _).trans (lawful_settleLink _ _))

theorem orderly_presenceStarts (n : Seat) (s : State) : Orderly s (presenceStarts n s) := by
  unfold presenceStarts; split
  · exact floorClosed_orderly.rel_afterFloor s
  · exact Orderly.refl s

theorem orderly_presenceEnds (n : Seat) (s : State) : Orderly s (presenceEnds n s) := by
  unfold presenceEnds; split
  · exact (floorClosed_orderly.rel_closeVoiceHold n s).trans (floorClosed_orderly.rel_afterFloor _)
  · exact Orderly.refl s

theorem orderly_handOne (r : VoiceReport) (s : State) : Orderly s (handOne r s) := by
  unfold handOne; split
  · exact orderly_presenceStarts _ s
  · exact orderly_presenceEnds _ s

theorem orderly_handStarts (l : List VoiceReport) (s : State) : Orderly s (handStarts l s) := by
  induction l generalizing s with
  | nil => exact orderly_withDue s _
  | cons r l ih =>
    unfold handStarts; split
    · exact (orderly_presenceStarts _ s).trans (ih _)
    · exact orderly_withDue s _

theorem orderly_handAll (s : State) : Orderly s (handAll s) :=
  (orderly_withDue s _).trans (orderly_foldl (fun t r => orderly_handOne r t) _ _)

theorem orderly_evaluate (e : VoiceDue) (s : State) : Orderly s (evaluate e s) :=
  (orderly_withGate s _).trans (orderly_withDue _ _)

theorem orderly_voiceEvaluate (s : State) : Orderly s (voiceEvaluate s) := by
  unfold voiceEvaluate; split
  · exact Orderly.refl s
  · exact (orderly_evaluate _ s).trans (orderly_handStarts _ _)

theorem orderly_settleVoice (s : State) : Orderly s (settleVoice s) := by
  unfold settleVoice; split
  · exact orderly_handAll s
  · exact (orderly_handAll s).trans ((orderly_evaluate _ _).trans (orderly_handAll _))

theorem lawful_settleStart (s : State) : Lawful s (settleStart s) :=
  (floorClosed_orderly.rel_takeCounts s).lawful.trans ((orderly_takeBoundary _).lawful.trans
    ((lawful_settleLinks _).trans ((orderly_settleExpiries _).lawful.trans
      ((emitterClosed_orderly.rel_settleEmitter _).lawful.trans (orderly_settleQuiet _).lawful))))

theorem lawful_settleEnd (s : State) : Lawful s (settleEnd s) :=
  (orderly_takeBoundary s).lawful.trans ((lawful_settleLinks _).trans ((orderly_settleExpiries _).lawful.trans
    ((orderly_settleVoice _).lawful.trans
      ((emitterClosed_orderly.rel_settleEmitter _).lawful.trans (orderly_settleQuiet _).lawful))))

theorem lawful_settleFrame (s : State) : Lawful s (settleFrame s) :=
  (lawful_settleLinks s).trans ((orderly_settleExpiries _).lawful.trans ((orderly_takeBoundary _).lawful.trans
    ((emitterClosed_orderly.rel_settleEmitter _).lawful.trans (orderly_settleQuiet _).lawful)))

/-! ### Frames and superframes -/

/-- A computation counts its clips and sets CLIP when it clips (R98, R190). -/
theorem orderly_countClips (s : State) : Orderly s (countClips s) := by
  have counted : ∀ (n : Nat) (clip : Bool), (0 < countClip n clip) ↔ (0 < n ∨ clip = true) := by
    intro n clip; unfold countClip; cases clip <;> simp; split <;> omega
  unfold countClips; dsimp only; split
  · next hclip =>
    refine ⟨fun h => ⟨h.1, ?_, h.2.2⟩, id, rfl, rfl, rfl⟩
    refine (decide_eq_true ?_).symm
    show 0 < countClip _ _ ∨ 0 < countClip _ _
    rw [counted, counted]
    rcases Bool.or_eq_true _ _ ▸ hclip with hf | hr
    · exact Or.inl (Or.inr hf)
    · exact Or.inr (Or.inr hr)
  · next hclip =>
    obtain ⟨hf, hr⟩ : floorClips s = false ∧ farClips s = false := by simpa using hclip
    refine orderly_withMixer ?_ ?_ <;> simp [countClip, hf, hr]

theorem orderly_composeOrder (link : Link) (s : State) : Orderly s (composeOrder link s).2 := by
  unfold composeOrder; dsimp only; split
  · split
    · split
      · exact orderly_withScreens s _
      · exact Orderly.refl s
    · exact Orderly.refl s
  · exact Orderly.refl s

theorem lawful_sendAnswer (s : State) : Lawful s (sendAnswer s) := by
  unfold sendAnswer; split
  · next a rest _ hanswers =>
    split
    · refine lawful_withPort fun hs => ⟨hs.1, ?_⟩
      have := hs.2; rw [hanswers, List.length_cons] at this; exact Nat.le_of_succ_le this
    · exact Lawful.refl s
  · exact Lawful.refl s

theorem orderly_sendNotice (s : State) : Orderly s (sendNotice s) := by
  unfold sendNotice; split
  · split
    · exact (orderly_setPending false s).trans (orderly_setUpCell _ _)
    · exact Orderly.refl s
  · exact Orderly.refl s

theorem lawful_takeSlot (s : State) : Lawful s (takeSlot s).2 := by
  unfold takeSlot; split
  · exact (lawful_sendAnswer s).trans ((orderly_sendNotice _).lawful.trans (orderly_setUpCell none _).lawful)
  · exact Lawful.refl s

theorem lawful_sendFrame (s : State) : Lawful s (sendFrame s) :=
  (orderly_countClips s).lawful.trans ((orderly_withGate _ _).lawful.trans
    ((orderly_composeOrder .chainA _).lawful.trans ((orderly_composeOrder .chainB _).lawful.trans
      ((lawful_takeSlot _).trans ((orderly_withSent _ _).lawful.trans (orderly_withTime _ _).lawful)))))

theorem lawful_outgoingFrame (s : State) : Lawful s (outgoingFrame s) :=
  (lawful_settleFrame s).trans ((orderly_withDisplays _ _).lawful.trans (lawful_sendFrame _))

theorem orderly_countSuperframe (s : State) : Orderly s (countSuperframe s) :=
  SameBooks.orderly (by constructor <;> rfl)

theorem lawful_superframeEnd (s : State) : Lawful s (superframeEnd s) :=
  (lawful_settleEnd s).trans ((orderly_withDisplays _ _).trans ((orderly_countSuperframe _).trans
    ((orderly_withGate _ _).trans (orderly_withDue _ _)))).lawful

/-- The clock advances; whether it is valid stays. -/
theorem orderly_tickClock (s : State) : Orderly s (tickClock s) := by
  have advance : Orderly s (s.withClock { s.clock with time := advanceTime s.clock.time }) :=
    SameBooks.orderly (by constructor <;> rfl)
  unfold tickClock; dsimp only; split
  · exact advance.trans (orderly_withDue _ _)
  · exact advance

theorem lawful_superframeStart (limitsFirst : Bool) (s : State) : Lawful s (superframeStart limitsFirst s) := by
  have counts : ∀ t, Orderly t (if limitsFirst then takeCounts t else t) := by
    intro t; cases limitsFirst
    · exact Orderly.refl t
    · exact floorClosed_orderly.rel_takeCounts t
  exact (lawful_settleStart s).trans ((orderly_withDisplays _ _).trans ((orderly_withTime _ _).trans
    ((orderly_tickClock _).trans ((floorClosed_orderly.rel_oweCounts _).trans ((counts _).trans
      ((orderly_capture _).trans (orderly_withGate _ _))))))).lawful

/-! ### Incoming frames and cells -/

theorem orderly_setPresence (n : Seat) (p : Presence) (s : State) : Orderly s (setPresence n p s) :=
  orderly_setSeat n _ s

theorem orderly_seatIsLost (n : Seat) (s : State) : Orderly s (seatIsLost n s) :=
  (orderly_setPresence n _ s).trans ((floorClosed_orderly.rel_floorSeatLost n _).trans
    ((orderly_appendWith _ _ _ _).trans (orderly_setSeat n _ _)))

theorem orderly_missingReport (n : Seat) (s : State) : Orderly s (missingReport n s) := by
  unfold missingReport; split
  · exact Orderly.refl s
  · exact orderly_setPresence _ _ s
  · exact orderly_setPresence _ _ s
  · exact orderly_setPresence _ _ s
  · split
    · exact orderly_setPresence _ _ s
    · exact orderly_seatIsLost n s

theorem orderly_sampleButton (n : Seat) (r : Report) (s : State) (b : ButtonName) :
    Orderly s (sampleButton n r s b) := by
  unfold sampleButton; dsimp only; split
  · exact orderly_setSeat _ _ s
  · exact (orderly_setSeat _ _ s).trans (floorClosed_orderly.rel_buttonEvent _ _ _ _ _)

theorem orderly_sampleButtons (n : Seat) (r : Report) (s : State) : Orderly s (sampleButtons n r s) :=
  orderly_foldl (fun t b => orderly_sampleButton n r t b) _ s

theorem orderly_validReport (n : Seat) (r : Report) (s : State) : Orderly s (validReport n r s) := by
  unfold validReport
  refine Orderly.trans ?_ (orderly_setSeat n _ _)
  split
  · exact orderly_setPresence _ _ s
  · exact orderly_setPresence _ _ s
  · exact (orderly_setSeat _ _ s).trans ((orderly_withScreens _ _).trans (orderly_appendWith _ _ _ _))
  · exact orderly_sampleButtons n r s
  · exact (orderly_setPresence _ _ s).trans (orderly_sampleButtons n r _)

theorem orderly_takeReport (n : Seat) (r : Option Report) (s : State) : Orderly s (takeReport n r s) := by
  unfold takeReport; split
  · exact orderly_validReport n _ s
  · exact orderly_missingReport n s

theorem orderly_endLink (link : Link) (s : State) : Orderly s (endLink link s) := by
  unfold endLink; split
  · exact orderly_withLinks s _
  · exact Orderly.refl s

theorem orderly_chainFrameIn (link : Link) (bytes : List Byte) (s : State) : Orderly s (chainFrameIn link bytes s) :=
  (orderly_withLinks s _).trans ((orderly_withAudio _ _).trans ((orderly_takeReport _ _ _).trans
    (orderly_endLink link _)))

theorem orderly_trunkFrameIn (bytes : List Byte) (s : State) : Orderly s (trunkFrameIn bytes s) :=
  (orderly_withLinks s _).trans ((orderly_withAudio _ _).trans ((orderly_setArrived _ _).trans
    (orderly_endLink .trunk _)))

theorem lawful_offerCell (c : CommandCell) (s : State) : Lawful s (offerCell c s) := by
  unfold offerCell; split
  · next hlt =>
    refine lawful_withPort fun hs => ⟨?_, hs.2⟩
    rw [List.length_append, List.length_singleton]; omega
  · split
    · next hlt => exact lawful_placeAnswer _ hlt
    · exact Lawful.refl s

theorem lawful_takeCell (s : State) : Lawful s (takeCell s) := by
  unfold takeCell; split
  · exact Lawful.refl s
  · dsimp only; split
    · exact (orderly_setArrived none s).lawful.trans (lawful_offerCell _ _)
    · exact (orderly_setArrived none s).lawful

/-! ### RESET and RESTART -/

/-- Settles O9: law by law, on the reset state written out. -/
theorem resetMeetsTheLaws : Obligations.ResetMeetsTheLaws := by
  refine ⟨?summary, ?log, ?displays, ?floor, ?fifos, fun _ _ => rfl⟩
  case summary => exact ⟨by decide, by decide, by decide⟩
  case log => exact ⟨by decide, by decide, trivial⟩
  case displays =>
    intro d
    have hrecord : look State.reset.displays.records d = .reset := by simp [look, State.reset]
    simp only [displayLawFor, hrecord]
    exact ⟨rfl, rfl, rfl⟩
  case floor =>
    refine ⟨by decide, fun _ => rfl, fun _ => ⟨rfl, rfl, rfl⟩, by decide, by decide, by decide, by decide,
      by decide, by decide, by decide, by decide, fun k => ?_⟩
    have hslot : look State.reset.sched.slots k = .free := by simp [look, State.reset]
    rw [hslot]; rfl
  case fifos => exact ⟨by decide, by decide⟩

theorem lawful_resetPin (lowNs : Nat) (s : State) : Lawful s (resetPin lowNs s) := by
  obtain ⟨hsummary, hlog, -, -, hfifo, -⟩ := resetMeetsTheLaws
  unfold resetPin; split
  · exact ⟨fun _ => hsummary, fun _ => hlog, fun _ => hfifo, rfl⟩
  · exact Lawful.refl s

/-- The summary of the Notice Unit after RESTART is that of the log, the emptied clip counters and the clock (R197). -/
theorem restartNotices_summaryLaw {s : State} (hf : s.mixer.clipFloor = 0) (hr : s.mixer.clipFar = 0) :
    summaryLaw (restartNotices s) := by
  refine ⟨rfl, ?_, rfl⟩
  show false = decide (0 < s.mixer.clipFloor ∨ 0 < s.mixer.clipFar)
  rw [hf, hr]; rfl

theorem lawful_restartLinks (s : State) : Lawful s (restartLinks s) :=
  ((orderly_withLinks s _).trans ((orderly_withSeats _ _).trans (orderly_setArrived none _))).lawful.trans
    (lawful_releaseSlot _)

/-- The summary after RESTART is formed anew, from emptied clip counters (R104, R197). -/
theorem lawful_restartNotices {s u : State} (hlog : u.log = s.log) (hport : u.port = s.port)
    (hpending : u.pending = s.pending) (hf : u.mixer.clipFloor = 0) (hr : u.mixer.clipFar = 0) :
    Lawful s (restartNotices u) where
  summary _ := restartNotices_summaryLaw hf hr
  log := by
    have : (restartNotices u).log = s.log := hlog
    unfold logLaw; rw [this]; exact id
  fifo := by
    have : (restartNotices u).port = s.port := hport
    unfold fifoLaw; rw [this]; exact id
  pending := hpending

/-- RESTART from the Floor Controller to the Notice Unit. -/
theorem lawful_restartRoom (s : State) :
    Lawful s (restartNotices (restartDisplays (restartScreens (restartGate (restartMixer (restartFloor s)))))) := by
  refine lawful_restartNotices (u := restartDisplays (restartScreens (restartGate (restartMixer (restartFloor s)))))
    ?_ ?_ ?_ ?_ ?_ <;> rfl

theorem lawful_restartBlocks (s : State) : Lawful s (restartBlocks s) := by
  have links : Lawful s (restartLinks (restartDue s)) := (orderly_withDue s _).lawful.trans (lawful_restartLinks _)
  exact links.trans ((lawful_restartRoom _).trans
    (placingClosed_orderly.rel_restartBookings (orderly_withSched _ _)).lawful)

theorem lawful_restartPort (s : State) : Lawful s (restartPort s) :=
  lawful_withPort fun hs => ⟨Nat.zero_le 8, hs.2⟩

theorem lawful_restartAll (tag : Byte) {s : State} (h : s.port.answers.length < 8) : Lawful s (restartAll tag s) :=
  (lawful_placeAnswer _ h).trans ((lawful_restartPort _).trans (lawful_restartBlocks _))

end Sys2Proof.Machine
end

section
/-!
PROOFS. THE STEP KEEPS THE BOOKS (R185, R190, R200, R202), and RESET (R222).
-/

namespace Sys2Proof.Machine

theorem orderly_of_state_eq {act : State → Reply} (h : ∀ u, (act u).state = u) (u : State) :
    Orderly u (act u).state := by rw [h u]; exact Orderly.refl u

theorem lawful_if {c : Prop} [Decidable c] {s t : State} (h : Lawful s t) : Lawful s (if c then t else s) := by
  split
  · exact h
  · exact Lawful.refl s

theorem exec_restart_lawful (tag : Byte) (p : Option Unit) (s : State) :
    ∃ t, exec (.restart tag p) s = .next t ∧ Lawful s t := by
  show ∃ t, execRestart tag p s = .next t ∧ Lawful s t
  unfold execRestart; split
  · exact ⟨s, rfl, Lawful.refl s⟩
  · next u hu =>
    obtain ⟨rest, hready, rfl⟩ := ready_of_takeCommand hu
    cases p with
    | some _ => exact ⟨_, rfl, (lawful_taken hready).trans (lawful_restartAll tag hready.1)⟩
    | none => exact ⟨_, rfl, (lawful_taken hready).trans (lawful_placeAnswer _ hready.1)⟩

theorem exec_presenceEnd_lawful (n : Seat) (s : State) : ∃ t, exec (.presenceEnd n) s = .next t ∧ Lawful s t := by
  show ∃ t, execPresenceEnd n s = .next t ∧ Lawful s t
  unfold execPresenceEnd; split
  · exact ⟨_, rfl, lawful_if ((orderly_withDue s _).trans ((orderly_presenceEnds n _).trans
      (orderly_handStarts _ _))).lawful⟩
  · exact ⟨s, rfl, Lawful.refl s⟩

theorem exec_incomingFrame_lawful (link : Link) (bytes : List Byte) (s : State) :
    ∃ t, exec (.incomingFrame link bytes) s = .next t ∧ Lawful s t := by
  cases link with
  | trunk => exact ⟨_, rfl, (lawful_takeCell s).trans (orderly_trunkFrameIn bytes _).lawful⟩
  | chainA => exact ⟨_, rfl, (orderly_chainFrameIn .chainA bytes s).lawful⟩
  | chainB => exact ⟨_, rfl, (orderly_chainFrameIn .chainB bytes s).lawful⟩

theorem exec_alertSample_lawful (level : AlertLevel) (s : State) :
    ∃ t, exec (.alertSample level) s = .next t ∧ Lawful s t := by
  refine ⟨_, rfl, Orderly.lawful ?_⟩
  split
  · split
    · exact (orderly_withAlert s _).trans (floorClosed_orderly.rel_alertEntry _)
    · exact (orderly_withAlert s _).trans (floorClosed_orderly.rel_alertExit _)
  · exact orderly_withAlert s _

/-- The SPEAKING rows take a count, or nothing. -/
theorem lawful_takeCount_if {c : Prop} [Decidable c] (n : Seat) (s : State) :
    Lawful s (if c then takeCount n s else s) :=
  lawful_if (floorClosed_orderly.rel_takeCount n s).lawful

/-- Every row answers a next state, and keeps the books. -/
theorem exec_lawful (i : Instr) (s : State) : ∃ t, exec i s = .next t ∧ Lawful s t := by
  have command : ∀ (tag code : Byte) (act : State → Reply), (∀ u, Orderly u (act u).state) →
      ∃ t, (Host.Outcome.next (runCommand i tag code act s) : Result) = .next t ∧ Lawful s t :=
    fun tag code act h => ⟨_, rfl, lawful_runCommand i tag code h s⟩
  have formed : ∀ {α : Type} (tag code : Byte) (p : Option α) (act : α → State → Reply),
      (∀ x u, Orderly u (act x u).state) →
      ∃ t, (Host.Outcome.next (runCommand i tag code (withForm p act) s) : Result) = .next t ∧ Lawful s t :=
    fun tag code p act h => command tag code _ (orderly_withForm h p)
  have hF := floorClosed_orderly
  cases i with
  | resetPin lowNs => exact ⟨_, rfl, lawful_resetPin lowNs s⟩
  | incomingFrame link bytes => exact exec_incomingFrame_lawful link bytes s
  | outgoingFrame => exact ⟨_, rfl, lawful_outgoingFrame s⟩
  | answerSent => exact ⟨_, rfl, lawful_sendAnswer s⟩
  | noticeSent => exact ⟨_, rfl, (orderly_sendNotice s).lawful⟩
  | superframeStart limitsFirst => exact ⟨_, rfl, lawful_superframeStart limitsFirst s⟩
  | speakingWarning n => exact ⟨_, rfl, lawful_takeCount_if n s⟩
  | speakingLimitClose n => exact ⟨_, rfl, lawful_takeCount_if n s⟩
  | speakingLimitNotify n => exact ⟨_, rfl, lawful_takeCount_if n s⟩
  | minuteBoundary => exact ⟨_, rfl, (orderly_takeBoundary s).lawful⟩
  | superframeEnd => exact ⟨_, rfl, lawful_superframeEnd s⟩
  | chainLock link =>
    refine ⟨_, rfl, ?_⟩
    split
    · exact Lawful.refl s
    · exact lawful_settleLink link s
  | chainUnlock link => exact ⟨_, rfl, lawful_if (lawful_settleLink link s)⟩
  | alertSample level => exact exec_alertSample_lawful level s
  | refusedTimerExpiry n => exact ⟨_, rfl, (orderly_expireRefused n s).lawful⟩
  | messageExpiry n => exact ⟨_, rfl, (orderly_expireMessage n s).lawful⟩
  | voiceEvaluation => exact ⟨_, rfl, (orderly_voiceEvaluate s).lawful⟩
  | presenceEnd n => exact exec_presenceEnd_lawful n s
  | quietTimeout => exact ⟨_, rfl, lawful_if (orderly_settleQuiet s).lawful⟩
  | warmExpiry d => exact ⟨_, rfl, (orderly_expireWarm d s).lawful⟩
  | coolExpiry d => exact ⟨_, rfl, (orderly_expireCool d s).lawful⟩
  | irTransmissionStart instant =>
    exact ⟨_, rfl, lawful_if (emitterClosed_orderly.rel_runEmitter instant s).lawful⟩
  | irTransmissionComplete =>
    exact ⟨_, rfl, lawful_if (emitterClosed_orderly.rel_finishTransmission s).lawful⟩
  | commandCellArrival => exact ⟨_, rfl, lawful_takeCell s⟩
  | unknownCommand tag code =>
    refine ⟨_, rfl, ?_⟩
    split
    · exact Lawful.refl s
    · exact lawful_runCommand _ tag code (fun u => Orderly.refl u) s
  | select tag p => exact command tag _ _ (orderly_selectReply p)
  | get tag p => exact command tag _ _ (orderly_getReply p)
  | putSeat tag p =>
    exact command tag _ _ (orderly_putAtCursor _ p fun _ => orderly_atIndex orderly_putSeatStore)
  | putName tag p =>
    exact command tag _ _ (orderly_putAtCursor _ p fun _ => orderly_atIndex orderly_putNameStore)
  | putGain tag p =>
    exact command tag _ _ (orderly_putAtCursor _ p fun t => orderly_atIndex (orderly_putGainStore t))
  | putNom tag p =>
    exact command tag _ _ (orderly_putAtCursor _ p fun _ => orderly_atIndex fun _ _ _ => orderly_withMixer rfl rfl)
  | putBooking tag p =>
    exact command tag _ _ (orderly_putAtCursor _ p fun _ => orderly_atIndex orderly_putBookingStore)
  | putIdle tag p => exact command tag _ _ (orderly_putAtCursor _ p fun _ _ => orderly_putIdleStore)
  | putDisplay tag p =>
    exact command tag _ _ (orderly_putAtCursor _ p fun _ => orderly_atIndex orderly_putDisplayStore)
  | listClearAssign tag p => exact formed tag _ p _ orderly_clearAssignReply
  | listClearIrcode tag p => exact formed tag _ p _ fun x => orderly_clearCodeReply x.1 x.2.1 x.2.2
  | listAddAssign tag p => exact formed tag _ p _ fun x => orderly_addAssignReply x.1 x.2
  | listAddIrcode tag p => exact formed tag _ p _ fun x => orderly_addCodeReply x.1 x.2
  | listGetAssign tag p => exact formed tag _ p _ fun x => orderly_of_state_eq (getAssignReply_state x.1 x.2)
  | listGetIrcode tag p => exact formed tag _ p _ fun x => orderly_of_state_eq (getCodeReply_state x.1 x.2)
  | status tag p => exact formed tag _ p _ fun _ => orderly_statusReply
  | statusSeat tag n => exact command tag _ _ (orderly_statusSeatReply n)
  | restart tag p => exact exec_restart_lawful tag p s
  | seatOpen tag p => exact formed tag _ p _ hF.rel_seatOpenReply
  | seatClose tag p => exact formed tag _ p _ hF.rel_seatCloseReply
  | grantNext tag p => exact formed tag _ p _ fun _ => hF.rel_grantReply
  | queueClear tag p =>
    exact formed tag _ p _ fun _ u => (hF.rel_clearQueue u).trans (hF.rel_afterFloor _)
  | floorSet tag p => exact formed tag _ p _ hF.rel_floorSetReply
  | priorityOn tag p => exact formed tag _ p _ fun _ => hF.rel_priorityOnReply
  | priorityOff tag p => exact formed tag _ p _ fun _ => hF.rel_priorityOffReply
  | bankSelect tag p => exact formed tag _ p _ orderly_bankSelectReply
  | clipRead tag p => exact formed tag _ p _ fun _ => orderly_clipReadReply
  | meterRead tag p => exact formed tag _ p _ fun x => orderly_meterReadReply x.1 x.2
  | seatMessage tag p => exact formed tag _ p _ fun x => orderly_seatMessageReply x.1 x.2.1 x.2.2
  | messageClear tag p => exact formed tag _ p _ orderly_messageClearReply
  | displayPowerOn tag p => exact formed tag _ p _ fun x => orderly_powerOnReply x.1 x.2
  | displayPowerOff tag p => exact formed tag _ p _ fun x => orderly_powerOffReply x.1 x.2
  | displayInput tag p => exact formed tag _ p _ fun x => orderly_inputReply x.1 x.2
  | clockSet tag p => exact formed tag _ p _ fun x => orderly_clockSetReply x.1 x.2.1 x.2.2.1 x.2.2.2
  | clockGet tag p => exact formed tag _ p _ fun _ u => Orderly.refl u
  | commit tag p => exact formed tag _ p _ orderly_commitReply
  | extend tag p => exact formed tag _ p _ fun x => orderly_extendReply x.1 x.2
  | endNow tag p => exact formed tag _ p _ orderly_endNowReply
  | cancel tag p => exact formed tag _ p _ orderly_cancelReply
  | logRead tag p => exact formed tag _ p _ fun _ => orderly_logReadReply
  | noticeSet tag p => exact formed tag _ p _ fun x => orderly_noticeSetReply x.1 x.2

/-- A property that does not read the waiting commands and that every row keeps is kept by every step. -/
theorem step_keeps {P : State → Prop} (hpending : ∀ s l, P s → P (s.withPending l))
    (hexec : ∀ i s t, P s → exec i s = .next t → P t) (s t : State) (h : P s) (hstep : step s = .next t) :
    P t := by
  unfold step at hstep
  split at hstep
  · cases hstep; exact h
  · exact hexec _ _ _ (hpending s _ h) hstep

/-- What a row that answers `t` keeps. -/
theorem lawful_of_exec {i : Instr} {s t : State} (h : exec i s = .next t) : Lawful s t := by
  obtain ⟨u, hu, hlaw⟩ := exec_lawful i s
  cases h.symm.trans hu
  exact hlaw

/-- Settles O1: by the definition of the step. -/
theorem stepRunsFrontCommand : Obligations.StepRunsFrontCommand := by
  refine ⟨fun c rest s h => ?_, fun s h => ?_⟩
  · simp only [step, h]
  · simp only [step, h]

/-- Settles O2, row by row. -/
theorem everyCommandAnswersNext : Obligations.EveryCommandAnswersNext := by
  intro c s
  obtain ⟨t, ht, hlaw⟩ := exec_lawful c s
  exact ⟨t, ht, hlaw.pending⟩

/-- Settles O3. -/
theorem summaryLawKept : Obligations.SummaryLawKept :=
  step_keeps (fun _ _ => id) fun _ _ _ hs h => (lawful_of_exec h).summary hs

/-- Settles O4. -/
theorem logLawKept : Obligations.LogLawKept :=
  step_keeps (fun _ _ => id) fun _ _ _ hs h => (lawful_of_exec h).log hs

/-- Settles O8. -/
theorem fifoLawKept : Obligations.FifoLawKept :=
  step_keeps (fun _ _ => id) fun _ _ _ hs h => (lawful_of_exec h).fifo hs

/-- Settles O10: by the length of the low level. -/
theorem resetPinResets : Obligations.ResetPinResets := by
  refine fun lowNs s => ⟨fun h => ?_, fun h => ?_⟩
  · simp only [exec, execResetPin, resetPin, if_pos h]; rfl
  · simp only [exec, execResetPin, resetPin, if_neg (Nat.not_le.mpr h)]

end Sys2Proof.Machine
end

section
/-!
PROOFS. THE LAW OF THE DISPLAYS (R141, R143 to R149). What one display shows the law (its record, what waits for it,
what flies for it) is a `View`; each operation of the Display Sequencer and the IR Emitter moves the view of one
display, and leaves those of the others.
-/

namespace Sys2Proof.Machine

/-! ### Views -/

/-- What may wait and fly for a display, case by case of its state: the law of one display as an inductive predicate. -/
inductive View : DisplayRecord → List IrCode → Option IrCode → Prop
  | off {r : DisplayRecord} (hs : r.state = .off) (hp : r.phase = none) (ht : r.timer = 0) : View r [] none
  | cooling {r : DisplayRecord} (hs : r.state = .cooling) (hp : r.phase = none) : View r [] none
  | onWaits {r : DisplayRecord} (hs : r.state = .warming) (hp : r.phase = some .sending) (ht : r.timer = 0) :
      View r [.powerOn] none
  | onFlies {r : DisplayRecord} (hs : r.state = .warming) (hp : r.phase = some .sending) (ht : r.timer = 0) :
      View r [] (some .powerOn)
  | timing {r : DisplayRecord} (hs : r.state = .warming) (hp : r.phase = some .timing) : View r [] none
  | steady {r : DisplayRecord} {w : List IrCode} {f : Option IrCode} (hs : r.state = .on)
      (hp : r.phase = some .steady) (ht : r.timer = 0) (hw : w.length ≤ 1) (hi : w.all isInput = true)
      (hf : f.all isInput = true) : View r w f
  | offWaits {r : DisplayRecord} {f : Option IrCode} (hs : r.state = .warming ∨ r.state = .on)
      (hp : r.phase = some .stopping) (ht : r.timer = 0) (hf : f ≠ some .powerOff) : View r [.powerOff] f
  | offFlies {r : DisplayRecord} (hs : r.state = .warming ∨ r.state = .on) (hp : r.phase = some .stopping)
      (ht : r.timer = 0) : View r [] (some .powerOff)

theorem displayLawFor_iff (x : Displays) (d : DisplayNo) :
    displayLawFor x d ↔ View (look x.records d) (waitingCodes x d) (flyingCode x d) := by
  unfold displayLawFor
  generalize look x.records d = r
  generalize waitingCodes x d = w
  generalize flyingCode x d = f
  dsimp only
  constructor
  · intro h
    split at h
    · next hs hp => obtain ⟨rfl, rfl, ht⟩ := h; exact .off hs hp ht
    · next hs hp => obtain ⟨rfl, rfl⟩ := h; exact .cooling hs hp
    · next hs hp =>
      obtain ⟨⟨rfl, rfl⟩ | ⟨rfl, rfl⟩, ht⟩ := h
      · exact .onWaits hs hp ht
      · exact .onFlies hs hp ht
    · next hs hp => obtain ⟨rfl, rfl⟩ := h; exact .timing hs hp
    · next hs hp => obtain ⟨hw, hi, hf, ht⟩ := h; exact .steady hs hp ht hw hi hf
    · next hs hp =>
      obtain ⟨⟨rfl, hf⟩ | ⟨rfl, rfl⟩, ht⟩ := h
      · exact .offWaits (Or.inl hs) hp ht hf
      · exact .offFlies (Or.inl hs) hp ht
    · next hs hp =>
      obtain ⟨⟨rfl, hf⟩ | ⟨rfl, rfl⟩, ht⟩ := h
      · exact .offWaits (Or.inr hs) hp ht hf
      · exact .offFlies (Or.inr hs) hp ht
    · exact h.elim
  · intro h
    cases h with
    | off hs hp ht => rw [hs, hp]; exact ⟨rfl, rfl, ht⟩
    | cooling hs hp => rw [hs, hp]; exact ⟨rfl, rfl⟩
    | onWaits hs hp ht => rw [hs, hp]; exact ⟨Or.inl ⟨rfl, rfl⟩, ht⟩
    | onFlies hs hp ht => rw [hs, hp]; exact ⟨Or.inr ⟨rfl, rfl⟩, ht⟩
    | timing hs hp => rw [hs, hp]; exact ⟨rfl, rfl⟩
    | steady hs hp ht hw hi hf => rw [hs, hp]; exact ⟨hw, hi, hf, ht⟩
    | offWaits hs hp ht hf =>
      obtain hs | hs := hs
      · rw [hs, hp]; exact ⟨Or.inl ⟨rfl, hf⟩, ht⟩
      · rw [hs, hp]; exact ⟨Or.inl ⟨rfl, hf⟩, ht⟩
    | offFlies hs hp ht =>
      obtain hs | hs := hs
      · rw [hs, hp]; exact ⟨Or.inr ⟨rfl, rfl⟩, ht⟩
      · rw [hs, hp]; exact ⟨Or.inr ⟨rfl, rfl⟩, ht⟩

/-- At most one entry waits (R148). -/
theorem View.waiting_le {r : DisplayRecord} {w : List IrCode} {f : Option IrCode} (h : View r w f) : w.length ≤ 1 := by
  cases h with
  | steady _ _ _ hw _ _ => exact hw
  | _ => simp

/-- The law reads of the record its state, its phase and its timer. -/
theorem View.of_record {r q : DisplayRecord} {w : List IrCode} {f : Option IrCode} (h : View r w f)
    (hs : q.state = r.state) (hp : q.phase = r.phase) (ht : r.timer = 0 → q.timer = 0) : View q w f := by
  cases h with
  | off s p t => exact .off (hs.trans s) (hp.trans p) (ht t)
  | cooling s p => exact .cooling (hs.trans s) (hp.trans p)
  | onWaits s p t => exact .onWaits (hs.trans s) (hp.trans p) (ht t)
  | onFlies s p t => exact .onFlies (hs.trans s) (hp.trans p) (ht t)
  | timing s p => exact .timing (hs.trans s) (hp.trans p)
  | steady s p t hw hi hf => exact .steady (hs.trans s) (hp.trans p) (ht t) hw hi hf
  | offWaits s p t hf => exact .offWaits (hs ▸ s) (hp.trans p) (ht t) hf
  | offFlies s p t => exact .offFlies (hs ▸ s) (hp.trans p) (ht t)

/-- A display that is OFF has nothing waiting or flying (R143). -/
theorem View.of_off {r : DisplayRecord} {w : List IrCode} {f : Option IrCode} (h : View r w f)
    (hs : r.state = .off) : w = [] ∧ f = none ∧ r.timer = 0 := by
  cases h with
  | off _ _ ht => exact ⟨rfl, rfl, ht⟩
  | cooling s => rw [hs] at s; cases s
  | onWaits s => rw [hs] at s; cases s
  | onFlies s => rw [hs] at s; cases s
  | timing s => rw [hs] at s; cases s
  | steady s => rw [hs] at s; cases s
  | offWaits s => rw [hs] at s; obtain s | s := s <;> cases s
  | offFlies s => rw [hs] at s; obtain s | s := s <;> cases s

/-- Switching off a display that is up (R144, R145). -/
theorem View.stopped {r q : DisplayRecord} {w : List IrCode} {f : Option IrCode} (h : View r w f)
    (hup : r.state = .warming ∨ r.state = .on) (hrun : r.phase ≠ some .stopping) (hs : q.state = r.state)
    (hp : q.phase = some .stopping) (ht : q.timer = 0) : View q [.powerOff] f := by
  refine .offWaits (hs ▸ hup) hp ht ?_
  cases h with
  | steady _ _ _ _ _ hf => rintro rfl; cases hf
  | offWaits _ p => exact absurd p hrun
  | offFlies _ p => exact absurd p hrun
  | _ => simp

/-- A display that is ON and not stopping is STEADY. -/
theorem View.of_on {r : DisplayRecord} {w : List IrCode} {f : Option IrCode} (h : View r w f)
    (hs : r.state = .on) (hrun : r.phase ≠ some .stopping) :
    r.phase = some .steady ∧ r.timer = 0 ∧ w.all isInput = true ∧ w.length ≤ 1 ∧ f.all isInput = true := by
  cases h with
  | steady _ p t hw hi hf => exact ⟨p, t, hi, hw, hf⟩
  | off s => rw [hs] at s; cases s
  | cooling s => rw [hs] at s; cases s
  | onWaits s => rw [hs] at s; cases s
  | onFlies s => rw [hs] at s; cases s
  | timing s => rw [hs] at s; cases s
  | offWaits _ p => exact absurd p hrun
  | offFlies _ p => exact absurd p hrun

/-- The head of the queue begins to fly: nothing flew for its display, and nothing more waits for it (R149). -/
theorem View.launched {r : DisplayRecord} {c : IrCode} {w : List IrCode} (h : View r (c :: w) none) :
    View r w (some c) := by
  cases h with
  | onWaits s p t => exact .onFlies s p t
  | steady s p t hw hi hf =>
    have hw : w = [] := List.eq_nil_of_length_eq_zero (Nat.le_zero.mp (Nat.le_of_succ_le_succ hw))
    subst hw
    refine .steady s p t (Nat.zero_le 1) rfl ?_
    simpa using hi
  | offWaits s p t _ => exact .offFlies s p t

end Sys2Proof.Machine
end

section
/-!
PROOFS. EVERY STEP KEEPS THE LAW OF THE DISPLAYS (R148): the requests, the expiries, the completions and the emitter
keep it, and no other row writes what it reads but to count a timer down or to clear all.
-/

namespace Sys2Proof.Machine

/-! ### The view of one display in a state -/

/-- What the state shows the law of one display. -/
def ViewAt (s : State) (d : DisplayNo) : Prop :=
  View (displayRecord s d) (waitingCodes s.displays d) (flyingCode s.displays d)

theorem displayLaw_iff (s : State) : displayLaw s ↔ ∀ d, ViewAt s d :=
  forall_congr' fun d => displayLawFor_iff s.displays d

theorem ViewAt.of_eq {s t : State} {d : DisplayNo} (h : ViewAt s d) (hr : displayRecord t d = displayRecord s d)
    (hw : waitingCodes t.displays d = waitingCodes s.displays d)
    (hf : flyingCode t.displays d = flyingCode s.displays d) : ViewAt t d := by
  unfold ViewAt; rw [hr, hw, hf]; exact h

theorem displayRecord_setRecord (d e : DisplayNo) (r : DisplayRecord) (s : State) :
    displayRecord (setRecord d r s) e = if d = e then r else displayRecord s e :=
  look_upd s.displays.records d e r

@[simp] theorem displayRecord_setRecord_self (d : DisplayNo) (r : DisplayRecord) (s : State) :
    displayRecord (setRecord d r s) d = r := by rw [displayRecord_setRecord, if_pos rfl]

@[simp] theorem waitingCodes_setRecord (d e : DisplayNo) (r : DisplayRecord) (s : State) :
    waitingCodes (setRecord d r s).displays e = waitingCodes s.displays e := rfl

@[simp] theorem flyingCode_setRecord (d e : DisplayNo) (r : DisplayRecord) (s : State) :
    flyingCode (setRecord d r s).displays e = flyingCode s.displays e := rfl

@[simp] theorem displayRecord_queueCode (d e : DisplayNo) (c : IrCode) (s : State) :
    displayRecord (queueCode d c s) e = displayRecord s e := rfl

@[simp] theorem flyingCode_queueCode (d e : DisplayNo) (c : IrCode) (s : State) :
    flyingCode (queueCode d c s).displays e = flyingCode s.displays e := rfl

theorem waitingCodes_queueCode (d e : DisplayNo) (c : IrCode) (s : State) :
    waitingCodes (queueCode d c s).displays e =
      if d = e then waitingCodes s.displays e ++ [c] else waitingCodes s.displays e := by
  by_cases h : d = e <;> simp [queueCode, waitingCodes, h]

@[simp] theorem waitingCodes_queueCode_self (d : DisplayNo) (c : IrCode) (s : State) :
    waitingCodes (queueCode d c s).displays d = waitingCodes s.displays d ++ [c] := by
  rw [waitingCodes_queueCode, if_pos rfl]

@[simp] theorem displayRecord_unqueue (d e : DisplayNo) (s : State) :
    displayRecord (unqueue d s) e = displayRecord s e := rfl

@[simp] theorem flyingCode_unqueue (d e : DisplayNo) (s : State) :
    flyingCode (unqueue d s).displays e = flyingCode s.displays e := rfl

theorem waitingCodes_unqueue (d e : DisplayNo) (s : State) :
    waitingCodes (unqueue d s).displays e = if d = e then [] else waitingCodes s.displays e := by
  by_cases h : d = e
  · subst h
    simp [unqueue, waitingCodes, List.filter_filter]
  · simp only [unqueue, waitingCodes, withDisplays_displays, List.filter_filter, if_neg h]
    congr 1
    refine List.filter_congr fun x _ => ?_
    by_cases hx : x.display = e <;> simp [hx, Ne.symm h]

@[simp] theorem waitingCodes_unqueue_self (d : DisplayNo) (s : State) : waitingCodes (unqueue d s).displays d = [] := by
  rw [waitingCodes_unqueue, if_pos rfl]

/-- A record of one display replaced, and a code queued for it: the other displays look as they did. -/
theorem ViewAt.other_setRecord {s : State} {d e : DisplayNo} (r : DisplayRecord) (h : ViewAt s e) (hne : d ≠ e) :
    ViewAt (setRecord d r s) e :=
  h.of_eq (by rw [displayRecord_setRecord, if_neg hne]) rfl rfl

theorem ViewAt.other_queueCode {s : State} {d e : DisplayNo} (c : IrCode) (h : ViewAt s e) (hne : d ≠ e) :
    ViewAt (queueCode d c s) e :=
  h.of_eq rfl (by rw [waitingCodes_queueCode, if_neg hne]) rfl

theorem ViewAt.other_unqueue {s : State} {d e : DisplayNo} (h : ViewAt s e) (hne : d ≠ e) : ViewAt (unqueue d s) e :=
  h.of_eq rfl (by rw [waitingCodes_unqueue, if_neg hne]) rfl

/-- The law from the view of one display and the views of the others. -/
theorem displayLaw_of_one {t : State} {d : DisplayNo} (hd : ViewAt t d) (hother : ∀ e, d ≠ e → ViewAt t e) :
    displayLaw t := by
  rw [displayLaw_iff]
  intro e
  by_cases h : d = e
  · exact h ▸ hd
  · exact hother e h

/-! ### Requests -/

/-- A record that keeps its state and phase, and a timer at 0, keeps the law. -/
theorem displayLaw_setRecord {s : State} {d : DisplayNo} {r : DisplayRecord} (h : displayLaw s)
    (hs : r.state = (displayRecord s d).state) (hp : r.phase = (displayRecord s d).phase)
    (ht : (displayRecord s d).timer = 0 → r.timer = 0) : displayLaw (setRecord d r s) := by
  rw [displayLaw_iff] at h
  refine displayLaw_of_one (d := d) ?_ fun e hne => (h e).other_setRecord r hne
  have := (h d).of_record hs hp ht
  simpa [ViewAt] using this

@[simp] theorem withPendingInput_state (i : Option InputNo) (r : DisplayRecord) :
    (withPendingInput i r).state = r.state := by cases i <;> rfl

@[simp] theorem withPendingInput_phase (i : Option InputNo) (r : DisplayRecord) :
    (withPendingInput i r).phase = r.phase := by cases i <;> rfl

@[simp] theorem withPendingInput_timer (i : Option InputNo) (r : DisplayRecord) :
    (withPendingInput i r).timer = r.timer := by cases i <;> rfl

theorem displayLaw_startUp {s : State} {d : DisplayNo} (i : Option InputNo) (h : displayLaw s)
    (hoff : (displayRecord s d).state = .off) : displayLaw (startUp d i s) := by
  rw [displayLaw_iff] at h
  obtain ⟨hw, hf, ht⟩ := (h d).of_off hoff
  refine displayLaw_of_one (d := d) ?_ fun e hne => ((h e).other_setRecord _ hne).other_queueCode _ hne
  simp only [ViewAt, startUp, displayRecord_queueCode, displayRecord_setRecord_self, waitingCodes_queueCode_self,
    waitingCodes_setRecord, flyingCode_queueCode, flyingCode_setRecord, hw, hf]
  exact .onWaits rfl rfl (by simpa using ht)

theorem hasInputWaiting_iff (d : DisplayNo) (x : Displays) :
    hasInputWaiting d x.queue = (waitingCodes x d).any isInput := by
  simp only [hasInputWaiting, waitingCodes, List.any_map, List.any_filter]
  rfl

theorem replaceInput_display (d : DisplayNo) (n : InputNo) (e : IrEntry) :
    (replaceInput d n e).display = e.display := by
  unfold replaceInput; split
  · split <;> rfl
  · rfl

theorem replaceInput_of_ne {d : DisplayNo} (n : InputNo) {e : IrEntry} (h : e.display ≠ d) : replaceInput d n e = e :=
  if_neg h

theorem isInput_replaceInput (d : DisplayNo) (n : InputNo) (e : IrEntry) :
    isInput (replaceInput d n e).code = isInput e.code := by
  unfold replaceInput; split
  · split
    · next hc => rw [hc]; rfl
    · rfl
  · rfl

/-- The codes that wait for a display once its INPUT entries have taken another input. -/
theorem waitingCodes_replaceInput (d e : DisplayNo) (n : InputNo) (x : Displays) :
    waitingCodes { x with queue := x.queue.map (replaceInput d n) } e =
      (x.queue.filter (fun y => decide (y.display = e))).map (fun y => (replaceInput d n y).code) := by
  simp only [waitingCodes, List.filter_map, List.map_map]
  congr 1
  refine List.filter_congr fun y _ => ?_
  simp [replaceInput_display]

theorem displayLaw_steadyInput {s : State} {d : DisplayNo} (n : InputNo) (h : displayLaw s)
    (hon : (displayRecord s d).state = .on) (hrun : (displayRecord s d).phase ≠ some .stopping) :
    displayLaw (steadyInput d n s) := by
  rw [displayLaw_iff] at h
  obtain ⟨hp, ht, hi, hw, hf⟩ := (h d).of_on hon hrun
  unfold steadyInput
  split
  · refine displayLaw_of_one (d := d) (.steady hon hp ht ?_ ?_ hf) fun e hne => (h e).of_eq rfl ?_ rfl
    · rw [withDisplays_displays, waitingCodes_replaceInput, List.length_map]
      rwa [waitingCodes, List.length_map] at hw
    · rw [withDisplays_displays, waitingCodes_replaceInput, List.all_map]
      simpa [waitingCodes, isInput_replaceInput, Function.comp_def] using hi
    · rw [withDisplays_displays, waitingCodes_replaceInput]
      refine List.map_congr_left fun y hy => ?_
      have : y.display = e := by simpa using (List.mem_filter.mp hy).2
      rw [replaceInput_of_ne n (by rw [this]; exact Ne.symm hne)]
  · next hnone =>
    have hnil : waitingCodes s.displays d = [] := by
      rw [hasInputWaiting_iff] at hnone
      cases hcodes : waitingCodes s.displays d with
      | nil => rfl
      | cons c l => rw [hcodes] at hnone hi; simp_all
    refine displayLaw_of_one (d := d) (.steady hon hp ht ?_ ?_ hf) fun e hne => (h e).other_queueCode _ hne
    · simp [hnil]
    · simp [hnil, isInput]

theorem displayLaw_stopDisplay {s : State} {d : DisplayNo} (h : displayLaw s)
    (hup : (displayRecord s d).state = .warming ∨ (displayRecord s d).state = .on)
    (hrun : (displayRecord s d).phase ≠ some .stopping) : displayLaw (stopDisplay d s) := by
  rw [displayLaw_iff] at h
  refine displayLaw_of_one (d := d) ?_ fun e hne =>
    (((h e).other_unqueue hne).other_setRecord _ hne).other_queueCode _ hne
  simp only [ViewAt, stopDisplay, displayRecord_queueCode, displayRecord_setRecord_self, waitingCodes_queueCode_self,
    waitingCodes_setRecord, waitingCodes_unqueue_self, flyingCode_queueCode, flyingCode_setRecord,
    flyingCode_unqueue, List.nil_append]
  exact (h d).stopped hup hrun rfl rfl rfl

theorem displayLaw_handleOn (d : DisplayNo) (i : Option InputNo) {s : State} (h : displayLaw s) :
    displayLaw (handleOn d i s) := by
  have on : ∀ b, displayLaw (setRecord d { withPendingInput i (displayRecord s d) with pendingOn := b } s) :=
    fun b => displayLaw_setRecord h (by simp) (by simp) (by simp)
  unfold handleOn; dsimp only; split
  · next hs => exact displayLaw_startUp i h hs
  · exact on true
  · exact on true
  · exact displayLaw_setRecord h (by simp) (by simp) (by simp)
  · next _ hs hrun =>
    split
    · exact displayLaw_steadyInput _ h hs hrun
    · exact h

theorem displayLaw_handleOff (d : DisplayNo) {s : State} (h : displayLaw s) : displayLaw (handleOff d s) := by
  unfold handleOff; dsimp only; split
  · exact h
  · exact displayLaw_setRecord h rfl rfl id
  · exact displayLaw_setRecord h rfl rfl id
  · next _ hs hrun => exact displayLaw_stopDisplay h (Or.inl hs) hrun
  · next _ hs hrun => exact displayLaw_stopDisplay h (Or.inr hs) hrun

theorem displayLaw_handleInput (d : DisplayNo) (n : InputNo) {s : State} (h : displayLaw s) :
    displayLaw (handleInput d n s) := by
  unfold handleInput; dsimp only; split
  · exact displayLaw_setRecord h rfl rfl id
  · next _ hs hrun => exact displayLaw_steadyInput n h hs hrun
  · exact displayLaw_setRecord h rfl rfl id

end Sys2Proof.Machine
end

section
/-!
PROOFS. RELATIONS THAT EVERY ROW KEEPS. A relation that reads only the floor, the bookings, the ALERT filter and the
displays, and that holds across each operation on these, holds across every row of the opcode table.
-/

namespace Sys2Proof.Machine

/-- A relation that does not read the other blocks, and holds across each operation on the floor, the bookings, the
ALERT filter and the displays. -/
structure RowClosed (R : State → State → Prop) : Prop extends PlacingClosed R where
  time (s : State) (x : TimeBase) : R s (s.withTime x)
  links (s : State) (x : Links) : R s (s.withLinks x)
  audio (s : State) (x : AudioIn) : R s (s.withAudio x)
  seats (s : State) (x : Vector SeatUnit 64) : R s (s.withSeats x)
  mixer (s : State) (x : Mixer) : R s (s.withMixer x)
  gate (s : State) (x : Gate) : R s (s.withGate x)
  screens (s : State) (x : Screens) : R s (s.withScreens x)
  clock (s : State) (x : Clock) : R s (s.withClock x)
  log (s : State) (x : SpeechLog) : R s (s.withLog x)
  notices (s : State) (x : Notices) : R s (s.withNotices x)
  port (s : State) (x : Port) : R s (s.withPort x)
  sent (s : State) (x : Sent) : R s (s.withSent x)
  due (s : State) (x : Due) : R s (s.withDue x)
  draws (s : State) (x : Nat) : R s (s.withDraws x)
  oweCounts (s : State) : R s (oweCounts s)
  takeCount (n : Seat) (s : State) : R s (takeCount n s)
  presenceStarts (n : Seat) (s : State) : R s (presenceStarts n s)
  presenceEnds (n : Seat) (s : State) : R s (presenceEnds n s)
  button (b : ButtonName) (edge : Bool) (n : Seat) (stamp : Stamp) (s : State) : R s (buttonEvent b edge n stamp s)
  seatLost (n : Seat) (s : State) : R s (floorSeatLost n s)
  alertSample {level : AlertLevel} {s t : State} : execAlertSample level s = .next t → R s t
  seatOpen (seat : Nat) (s : State) : R s (seatOpenReply seat s).state
  seatClose (seat : Nat) (s : State) : R s (seatCloseReply seat s).state
  grant (s : State) : R s (grantReply s).state
  queueClear (s : State) : R s (afterFloor (clearQueue s))
  floorSet (f : SetupFields) (s : State) : R s (floorSetReply f s).state
  priorityOn (s : State) : R s (priorityOnReply s).state
  priorityOff (s : State) : R s (priorityOffReply s).state
  putSeat (n : Seat) (f : SeatFields) (s : State) : R s (putSeatStore n f s).state
  putIdle (f : IdleFields) (s : State) : R s (putIdleStore f s).state
  restartFloor (s : State) : R s (restartFloor s)
  restartSlots (s : State) : R s (s.withSched { s.sched with slots := s.sched.slots.map backToPending })
  draft (k : SlotNo) (items : List Item) {f : BookingFields} {x : Fixed} {s : State} :
    fixed? f = some x → R s (setSlot k (.draft x items) s)
  input (d : DisplayNo) (n : InputNo) (s : State) : R s (requestInput d n s)
  expireWarm (d : DisplayNo) (s : State) : R s (expireWarm d s)
  expireCool (d : DisplayNo) (s : State) : R s (expireCool d s)
  settleEmitter (s : State) : R s (settleEmitter s)
  runEmitter (instant : Nat) (s : State) : R s (runEmitter instant s)
  finishTransmission (s : State) : R s (finishTransmission s)
  presets (s : State) (x : Vector Preset 4) : R s (s.withDisplays { s.displays with presets := x })
  codes (s : State) (x : Vector CodeList 24) : R s (s.withDisplays { s.displays with codes := x })
  reach (instant : Nat) (s : State) : R s (reach instant s)
  passFrame (s : State) : R s (passFrame s)
  countTimers (s : State) : R s (s.withDisplays
    { s.displays with records := s.displays.records.map (fun r => { r with timer := countDown r.timer }) })
  restartDisplays (s : State) : R s (restartDisplays s)
  resetPin (lowNs : Nat) (s : State) : R s (resetPin lowNs s)

namespace RowClosed

variable {R : State → State → Prop} (hR : RowClosed R)
include hR

/-! ### Commands -/

theorem rel_runCommand (i : Instr) (tag code : Byte) {act : State → Reply} (h : ∀ u, R u (act u).state)
    (s : State) : R s (runCommand i tag code act s) := by
  obtain hs | ⟨rest, -, hs⟩ := runCommand_cases i tag code act s
  · rw [hs]; exact hR.refl s
  · rw [hs]
    exact hR.trans (hR.port s _) (hR.trans (h _) (hR.port _ _))

theorem rel_withForm {α : Type} {act : α → State → Reply} (h : ∀ x u, R u (act x u).state) (p : Option α)
    (u : State) : R u (withForm p act u).state := by
  cases p with
  | none => exact hR.refl u
  | some x => exact h x u

theorem rel_putAtCursor {α : Type} (ofTable : TableName → Bool) (p : Option α)
    {store : TableName → Nat → α → State → Reply} (h : ∀ t i x u, R u (store t i x u).state) (s : State) :
    R s (putAtCursor ofTable p store s).state := by
  unfold putAtCursor; dsimp only; split
  · exact hR.refl s
  · split
    · split
      · exact hR.trans (h _ _ _ s) (hR.port _ _)
      · exact hR.refl s
    · exact hR.refl s

theorem rel_atIndex {α : Type} {k : Nat} {store : Fin k → α → State → Reply}
    (h : ∀ j x u, R u (store j x u).state) (i : Nat) (x : α) (u : State) : R u (atIndex k i store x u).state := by
  unfold atIndex; split
  · exact h _ _ _
  · exact hR.refl u

/-- A slot freed, or written again with the fixed part it holds. -/
theorem rel_setSlot {k : SlotNo} {x y : Slot} {s : State} (hslot : look s.sched.slots k = y)
    (hx : slotFixed x = none ∨ slotFixed x = slotFixed y) : R s (setSlot k x s) := by
  refine hR.slot k fun f hf => ?_
  obtain hnone | hsame := hx
  · rw [hnone] at hf; cases hf
  · exact ⟨k, by rw [hslot, ← hsame, hf]⟩

theorem rel_commitReply (slot : Nat) (s : State) : R s (commitReply slot s).state := by
  unfold commitReply; split
  · next k _ =>
    unfold commitSlot; split
    · next hslot =>
      split
      · exact hR.refl s
      · split
        · exact hR.refl s
        · split
          · exact hR.refl s
          · dsimp only [done]; split
            · refine hR.trans ?_ (hR.rel_place _ _ _ _)
              exact hR.rel_setSlot hslot (Or.inr rfl)
            · exact hR.rel_setSlot hslot (Or.inr rfl)
    · exact hR.refl s
  · exact hR.refl s

theorem rel_extendReply (slot minutes : Nat) (s : State) : R s (extendReply slot minutes s).state := by
  unfold extendReply; split
  · split
    · unfold extendSlot; split
      · next hslot =>
        split
        · exact hR.refl s
        · split
          · exact hR.refl s
          · split
            · exact hR.refl s
            · dsimp only [done]; split
              · exact hR.rel_setSlot hslot (Or.inr rfl)
              · refine hR.trans ?_ (hR.rel_place _ _ _ _)
                exact hR.rel_setSlot hslot (Or.inr rfl)
      · exact hR.refl s
    · exact hR.refl s
  · exact hR.refl s

theorem rel_endNowReply (slot : Nat) (s : State) : R s (endNowReply slot s).state := by
  unfold endNowReply; split
  · unfold endNowSlot; split
    · next hslot =>
      split
      · refine hR.trans ?_ (hR.rel_place _ _ _ _)
        exact hR.rel_setSlot hslot (Or.inr rfl)
      · exact hR.refl s
    · exact hR.refl s
  · exact hR.refl s

theorem rel_cancelReply (slot : Nat) (s : State) : R s (cancelReply slot s).state := by
  have free : ∀ (k : SlotNo) u, R u (setSlot k .free u) := fun k u => hR.rel_setSlot rfl (Or.inl rfl)
  have off : ∀ (k : SlotNo) f u, R s u → R s (setSlot k .free (powerOffPlan f u)) := fun k f u h =>
    hR.trans h (hR.trans (hR.rel_powerOffPlan f u) (free _ _))
  unfold cancelReply; split
  · unfold cancelSlot; split
    · exact hR.refl s
    · exact free _ s
    · split
      · exact free _ s
      · exact off _ _ s (hR.refl s)
      · exact off _ _ s (hR.refl s)
      · exact off _ _ _ (hR.ends _ _ s)
      · exact off _ _ _ (hR.ends _ _ s)
  · exact hR.refl s

theorem rel_clockSetReply (day hour minute second : Nat) (s : State) :
    R s (clockSetReply day hour minute second s).state := by
  have jump : ∀ time, R s (clockJump time s) := fun time =>
    hR.trans (hR.clock s _) (hR.trans (hR.due _ _) (hR.trans (hR.notices _ _) (hR.trans (hR.append _ _ _ _)
      (hR.trans (hR.rel_placeAll _ _ _ _) (hR.rel_foldl _ (fun u k => hR.rel_placeOrMiss _ _ _ u k) _ _)))))
  unfold clockSetReply; split
  · exact hR.refl s
  · exact jump _

theorem rel_setMessages (who : Option Seat) (m : Option Message) (s : State) : R s (setMessages who m s) := by
  unfold setMessages; split
  · exact hR.screens s _
  · exact hR.screens s _

theorem rel_seatMessageReply (target duration : Nat) (text : Text) (s : State) :
    R s (seatMessageReply target duration text s).state := by
  unfold seatMessageReply; split
  · exact hR.refl s
  · split
    · exact hR.refl s
    · exact hR.rel_setMessages _ _ s

theorem rel_messageClearReply (target : Nat) (s : State) : R s (messageClearReply target s).state := by
  unfold messageClearReply; split
  · exact hR.refl s
  · exact hR.rel_setMessages _ _ s

theorem rel_bankSelectReply (b : Nat) (s : State) : R s (bankSelectReply b s).state := by
  unfold bankSelectReply; split
  · exact hR.mixer s _
  · exact hR.refl s

theorem rel_meterReadReply (first count : Nat) (s : State) : R s (meterReadReply first count s).state := by
  unfold meterReadReply; split
  · exact hR.refl s
  · exact hR.gate s _

theorem rel_powerOnReply (display input : Nat) (s : State) : R s (powerOnReply display input s).state := by
  unfold powerOnReply; split
  · exact hR.on _ _ s
  · exact hR.refl s

theorem rel_powerOffReply (display input : Nat) (s : State) : R s (powerOffReply display input s).state := by
  unfold powerOffReply; split
  · exact hR.off _ s
  · exact hR.refl s

theorem rel_inputReply (display input : Nat) (s : State) : R s (inputReply display input s).state := by
  unfold inputReply; split
  · exact hR.input _ _ s
  · exact hR.refl s

theorem rel_logReadReply (s : State) : R s (logReadReply s).state := by
  unfold logReadReply; split
  · exact hR.trans (hR.log s _) (hR.notices _ _)
  · exact hR.notices s _

theorem rel_noticeSetReply (mask trigger : Nat) (s : State) : R s (noticeSetReply mask trigger s).state := by
  unfold noticeSetReply; split
  · exact hR.notices s _
  · exact hR.refl s

theorem rel_statusSeatReply (seat : Nat) (s : State) : R s (statusSeatReply seat s).state := by
  unfold statusSeatReply; split
  · exact hR.notices s _
  · exact hR.refl s

theorem rel_selectReply (p : Option (TableName × Nat)) (s : State) : R s (selectReply p s).state := by
  unfold selectReply; split
  · unfold selectCursor; split
    · exact hR.port s _
    · exact hR.refl s
  · exact hR.refl s

theorem rel_getReply (p : Option Unit) (s : State) : R s (getReply p s).state := by
  unfold getReply; split
  · unfold getAtCursor; dsimp only; split
    · exact hR.port s _
    · exact hR.refl s
  · exact hR.refl s

theorem rel_putNameStore (i : NameNo) (x : Text) (s : State) : R s (putNameStore i x s).state := by
  unfold putNameStore; split
  · exact hR.refl s
  · exact hR.screens s _

theorem rel_putGainStore (t : TableName) (i : Fin 65) (g : Nat) (s : State) : R s (putGainStore t i g s).state := by
  unfold putGainStore; split
  · exact hR.mixer s _
  · exact hR.mixer s _

theorem rel_putBookingStore (k : SlotNo) (f : BookingFields) (s : State) : R s (putBookingStore k f s).state := by
  have stored : ∀ items, R s (match fixed? f with
      | some x => done (setSlot k (.draft x items) s)
      | none => refusal .range s).state := by
    intro items; split
    · next hx => exact hR.draft k items hx
    · exact hR.refl s
  unfold putBookingStore; split
  · exact hR.refl s
  · exact stored _
  · exact stored _

theorem rel_putDisplayStore (d : DisplayNo) (f : PresetFields) (s : State) : R s (putDisplayStore d f s).state := by
  unfold putDisplayStore; split
  · exact hR.presets s _
  · exact hR.refl s

theorem rel_clearAssignReply (slot : Nat) (s : State) : R s (clearAssignReply slot s).state := by
  unfold clearAssignReply; split
  · exact hR.refl s
  · split
    · next hslot => exact hR.rel_setSlot hslot (Or.inr rfl)
    · exact hR.refl s

theorem rel_addAssignReply (slot : Nat) (raw : List (Nat × Nat)) (s : State) :
    R s (addAssignReply slot raw s).state := by
  unfold addAssignReply; split
  · split
    · exact hR.refl s
    · split
      · next hslot =>
        dsimp only; split
        · exact hR.refl s
        · exact hR.rel_setSlot hslot (Or.inr rfl)
      · exact hR.refl s
  · exact hR.refl s

theorem rel_clearCodeReply (slot times gap : Nat) (s : State) : R s (clearCodeReply slot times gap s).state := by
  unfold clearCodeReply; split
  · exact hR.refl s
  · split
    · exact hR.refl s
    · split
      · exact hR.refl s
      · exact hR.codes s _

theorem rel_addCodeReply (slot : Nat) (pairs : List (Nat × Nat)) (s : State) :
    R s (addCodeReply slot pairs s).state := by
  unfold addCodeReply; split
  · exact hR.refl s
  · dsimp only; split
    · exact hR.refl s
    · split
      · exact hR.refl s
      · split
        · exact hR.refl s
        · exact hR.codes s _

/-! ### What a clock row takes first -/

theorem rel_takeBoundary (s : State) : R s (takeBoundary s) := by
  unfold takeBoundary; split
  · exact hR.refl s
  · dsimp only; split
    · exact hR.trans (hR.due s _) (hR.rel_placeBoundary _ _)
    · exact hR.due s _

theorem rel_expireRefused (n : Seat) (s : State) : R s (expireRefused n s) := by
  unfold expireRefused; split
  · exact hR.trans (hR.due s _) (hR.seats _ _)
  · exact hR.refl s

theorem rel_expireMessage (n : Seat) (s : State) : R s (expireMessage n s) := by
  unfold expireMessage; split
  · split
    · exact hR.trans (hR.due s _) (hR.screens _ _)
    · exact hR.refl s
  · exact hR.refl s

theorem rel_settleExpiries (s : State) : R s (settleExpiries s) :=
  hR.trans (hR.rel_foldl _ (fun t n => hR.rel_expireRefused n t) _ s)
    (hR.trans (hR.rel_foldl _ (fun t n => hR.rel_expireMessage n t) _ _)
      (hR.trans (hR.rel_foldl _ (fun t d => hR.trans (hR.expireWarm d t) (hR.expireCool d _)) _ _)
        (hR.due _ _)))

theorem rel_settleQuiet (s : State) : R s (settleQuiet s) := by
  rw [settleQuiet_frame]; exact hR.trans (hR.notices s _) (hR.due _ _)

theorem rel_releaseSlot (s : State) : R s (releaseSlot s) := by
  unfold releaseSlot; split
  · exact hR.refl s
  · split
    · exact hR.port s _
    · exact hR.refl s
  · exact hR.trans (hR.port s _) (hR.notices _ _)
  · exact hR.port s _

theorem rel_changeLock (link : Link) (s : State) : R s (changeLock link s) := by
  have release : ∀ u, R s u →
      R s (if link = .trunk ∧ (linkState s.links link).locked = true then releaseSlot u else u) := by
    intro u hu; split
    · exact hR.trans hu (hR.rel_releaseSlot u)
    · exact hu
  exact hR.trans (release _ (hR.links s _)) (hR.trans (hR.append _ _ _ _) (hR.notices _ _))

theorem rel_settleLink (link : Link) (s : State) : R s (settleLink link s) := by
  unfold settleLink; split
  · exact hR.rel_changeLock link s
  · exact hR.refl s

theorem rel_settleLinks (s : State) : R s (settleLinks s) :=
  hR.trans (hR.rel_settleLink _ s) (hR.trans (hR.rel_settleLink _ _) (hR.rel_settleLink _ _))

theorem rel_handStarts (l : List VoiceReport) (s : State) : R s (handStarts l s) := by
  induction l generalizing s with
  | nil => exact hR.due s _
  | cons r l ih =>
    unfold handStarts; split
    · exact hR.trans (hR.presenceStarts _ s) (ih _)
    · exact hR.due s _

theorem rel_handOne (r : VoiceReport) (s : State) : R s (handOne r s) := by
  unfold handOne; split
  · exact hR.presenceStarts _ s
  · exact hR.presenceEnds _ s

theorem rel_handAll (s : State) : R s (handAll s) :=
  hR.trans (hR.due s _) (hR.rel_foldl _ (fun t r => hR.rel_handOne r t) _ _)

theorem rel_evaluate (e : VoiceDue) (s : State) : R s (evaluate e s) := hR.trans (hR.gate s _) (hR.due _ _)

theorem rel_voiceEvaluate (s : State) : R s (voiceEvaluate s) := by
  unfold voiceEvaluate; split
  · exact hR.refl s
  · exact hR.trans (hR.rel_evaluate _ s) (hR.rel_handStarts _ _)

theorem rel_settleVoice (s : State) : R s (settleVoice s) := by
  unfold settleVoice; split
  · exact hR.rel_handAll s
  · exact hR.trans (hR.rel_handAll s) (hR.trans (hR.rel_evaluate _ _) (hR.rel_handAll _))

theorem rel_takeCounts (s : State) : R s (takeCounts s) :=
  hR.rel_foldl _ (fun t n => hR.takeCount n t) _ s

theorem rel_settleStart (s : State) : R s (settleStart s) :=
  hR.trans (hR.rel_takeCounts s) (hR.trans (hR.rel_takeBoundary _) (hR.trans (hR.rel_settleLinks _)
    (hR.trans (hR.rel_settleExpiries _) (hR.trans (hR.settleEmitter _) (hR.rel_settleQuiet _)))))

theorem rel_settleEnd (s : State) : R s (settleEnd s) :=
  hR.trans (hR.rel_takeBoundary s) (hR.trans (hR.rel_settleLinks _) (hR.trans (hR.rel_settleExpiries _)
    (hR.trans (hR.rel_settleVoice _) (hR.trans (hR.settleEmitter _) (hR.rel_settleQuiet _)))))

theorem rel_settleFrame (s : State) : R s (settleFrame s) :=
  hR.trans (hR.rel_settleLinks s) (hR.trans (hR.rel_settleExpiries _) (hR.trans (hR.rel_takeBoundary _)
    (hR.trans (hR.settleEmitter _) (hR.rel_settleQuiet _))))

/-! ### Frames and superframes -/

theorem rel_countClips (s : State) : R s (countClips s) := by
  unfold countClips; dsimp only; split
  · exact hR.trans (hR.mixer s _) (hR.notices _ _)
  · exact hR.mixer s _

theorem rel_composeOrder (link : Link) (s : State) : R s (composeOrder link s).2 := by
  unfold composeOrder; dsimp only; split
  · split
    · split
      · exact hR.screens s _
      · exact hR.refl s
    · exact hR.refl s
  · exact hR.refl s

theorem rel_sendAnswer (s : State) : R s (sendAnswer s) := by
  unfold sendAnswer; split
  · split
    · exact hR.trans (hR.port s _) (hR.port _ _)
    · exact hR.refl s
  · exact hR.refl s

theorem rel_sendNotice (s : State) : R s (sendNotice s) := by
  unfold sendNotice; split
  · split
    · exact hR.trans (hR.notices s _) (hR.port _ _)
    · exact hR.refl s
  · exact hR.refl s

theorem rel_takeSlot (s : State) : R s (takeSlot s).2 := by
  unfold takeSlot; split
  · exact hR.trans (hR.rel_sendAnswer s) (hR.trans (hR.rel_sendNotice _) (hR.port _ _))
  · exact hR.refl s

theorem rel_sendFrame (s : State) : R s (sendFrame s) :=
  hR.trans (hR.rel_countClips s) (hR.trans (hR.gate _ _) (hR.trans (hR.rel_composeOrder .chainA _)
    (hR.trans (hR.rel_composeOrder .chainB _) (hR.trans (hR.rel_takeSlot _)
      (hR.trans (hR.sent _ _) (hR.time _ _))))))

theorem rel_outgoingFrame (s : State) : R s (outgoingFrame s) :=
  hR.trans (hR.rel_settleFrame s) (hR.trans (hR.passFrame _) (hR.rel_sendFrame _))

theorem rel_countSuperframe (s : State) : R s (countSuperframe s) :=
  hR.trans (hR.seats s _) (hR.trans (hR.screens _ _) (hR.trans (hR.countTimers _) (hR.due _ _)))

theorem rel_superframeEnd (s : State) : R s (superframeEnd s) :=
  hR.trans (hR.rel_settleEnd s) (hR.trans (hR.reach _ _) (hR.trans (hR.rel_countSuperframe _)
    (hR.trans (hR.gate _ _) (hR.due _ _))))

theorem rel_tickClock (s : State) : R s (tickClock s) := by
  unfold tickClock; dsimp only; split
  · exact hR.trans (hR.clock s _) (hR.due _ _)
  · exact hR.clock s _

theorem rel_superframeStart (limitsFirst : Bool) (s : State) : R s (superframeStart limitsFirst s) := by
  have counts : ∀ t, R t (if limitsFirst then Machine.takeCounts t else t) := by
    intro t; cases limitsFirst
    · exact hR.refl t
    · exact hR.rel_takeCounts t
  exact hR.trans (hR.rel_settleStart s) (hR.trans (hR.reach _ _) (hR.trans (hR.time _ _)
    (hR.trans (hR.rel_tickClock _) (hR.trans (hR.oweCounts _) (hR.trans (counts _)
      (hR.trans (hR.mixer _ _) (hR.gate _ _)))))))

/-! ### Incoming frames and cells -/

theorem rel_setSeat (n : Seat) (u : SeatUnit) (s : State) : R s (setSeat n u s) := hR.seats s _

theorem rel_missingReport (n : Seat) (s : State) : R s (missingReport n s) := by
  unfold missingReport; split
  · exact hR.refl s
  · exact hR.rel_setSeat _ _ s
  · exact hR.rel_setSeat _ _ s
  · exact hR.rel_setSeat _ _ s
  · split
    · exact hR.rel_setSeat _ _ s
    · exact hR.trans (hR.rel_setSeat n _ s) (hR.trans (hR.seatLost n _) (hR.trans (hR.append _ _ _ _)
        (hR.rel_setSeat n _ _)))

theorem rel_sampleButton (n : Seat) (r : Report) (s : State) (b : ButtonName) : R s (sampleButton n r s b) := by
  unfold sampleButton; dsimp only; split
  · exact hR.rel_setSeat _ _ s
  · exact hR.trans (hR.rel_setSeat _ _ s) (hR.button _ _ _ _ _)

theorem rel_sampleButtons (n : Seat) (r : Report) (s : State) : R s (sampleButtons n r s) :=
  hR.rel_foldl _ (fun t b => hR.rel_sampleButton n r t b) _ s

theorem rel_validReport (n : Seat) (r : Report) (s : State) : R s (validReport n r s) := by
  unfold validReport
  refine hR.trans ?_ (hR.rel_setSeat n _ _)
  split
  · exact hR.rel_setSeat _ _ s
  · exact hR.rel_setSeat _ _ s
  · exact hR.trans (hR.rel_setSeat _ _ s) (hR.trans (hR.screens _ _) (hR.append _ _ _ _))
  · exact hR.rel_sampleButtons n r s
  · exact hR.trans (hR.rel_setSeat _ _ s) (hR.rel_sampleButtons n r _)

theorem rel_takeReport (n : Seat) (r : Option Report) (s : State) : R s (takeReport n r s) := by
  unfold takeReport; split
  · exact hR.rel_validReport n _ s
  · exact hR.rel_missingReport n s

theorem rel_endLink (link : Link) (s : State) : R s (endLink link s) := by
  unfold endLink; split
  · exact hR.links s _
  · exact hR.refl s

theorem rel_chainFrameIn (link : Link) (bytes : List Byte) (s : State) : R s (chainFrameIn link bytes s) :=
  hR.trans (hR.links s _) (hR.trans (hR.audio _ _) (hR.trans (hR.rel_takeReport _ _ _) (hR.rel_endLink link _)))

theorem rel_trunkFrameIn (bytes : List Byte) (s : State) : R s (trunkFrameIn bytes s) :=
  hR.trans (hR.links s _) (hR.trans (hR.audio _ _) (hR.trans (hR.port _ _) (hR.rel_endLink .trunk _)))

theorem rel_takeCell (s : State) : R s (takeCell s) := by
  have offer : ∀ c u, R u (offerCell c u) := by
    intro c u; unfold offerCell; split
    · exact hR.port u _
    · split
      · exact hR.port u _
      · exact hR.refl u
  unfold takeCell; split
  · exact hR.refl s
  · dsimp only; split
    · exact hR.trans (hR.port s _) (offer _ _)
    · exact hR.port s _

theorem rel_if {c : Prop} [Decidable c] {s t : State} (h : R s t) : R s (if c then t else s) := by
  split
  · exact h
  · exact hR.refl s

/-! ### RESTART -/

theorem rel_restartBlocks (s : State) : R s (restartBlocks s) :=
  hR.trans (hR.due s _) (hR.trans (hR.links _ _) (hR.trans (hR.seats _ _) (hR.trans (hR.port _ _)
    (hR.trans (hR.rel_releaseSlot _) (hR.trans (hR.restartFloor _) (hR.trans (hR.mixer _ _) (hR.trans (hR.gate _ _)
      (hR.trans (hR.screens _ _) (hR.trans (hR.restartDisplays _) (hR.trans (hR.notices _ _)
        (hR.rel_restartBookings (hR.restartSlots _))))))))))))

theorem exec_restart {tag : Byte} {p : Option Unit} {s t : State} (h : exec (.restart tag p) s = .next t) : R s t := by
  change execRestart tag p s = .next t at h
  unfold execRestart at h; split at h
  · cases h; exact hR.refl s
  · next u hu =>
    obtain ⟨rest, -, rfl⟩ := ready_of_takeCommand hu
    cases p with
    | some _ =>
      cases h
      exact hR.trans (hR.port s _) (hR.trans (hR.port _ _) (hR.trans (hR.port _ _) (hR.rel_restartBlocks _)))
    | none => cases h; exact hR.trans (hR.port s _) (hR.port _ _)

/-! ### Every row -/

theorem exec_incomingFrame {link : Link} {bytes : List Byte} {s t : State}
    (h : exec (.incomingFrame link bytes) s = .next t) : R s t := by
  cases link with
  | trunk => cases h; exact hR.trans (hR.rel_takeCell s) (hR.rel_trunkFrameIn bytes _)
  | chainA => cases h; exact hR.rel_chainFrameIn .chainA bytes s
  | chainB => cases h; exact hR.rel_chainFrameIn .chainB bytes s

theorem exec_presenceEnd {n : Seat} {s t : State} (h : exec (.presenceEnd n) s = .next t) : R s t := by
  change execPresenceEnd n s = .next t at h
  unfold execPresenceEnd at h; split at h
  · cases h
    exact hR.rel_if (hR.trans (hR.due s _) (hR.trans (hR.presenceEnds n _) (hR.rel_handStarts _ _)))
  · cases h; exact hR.refl s

/-- Across every row. -/
theorem exec_rel {i : Instr} {s t : State} (h : exec i s = .next t) : R s t := by
  have command : ∀ (tag code : Byte) {act : State → Reply}, (∀ u, R u (act u).state) →
      (Host.Outcome.next (runCommand i tag code act s) : Result) = .next t → R s t :=
    fun tag code _ hact heq => by cases heq; exact hR.rel_runCommand i tag code hact s
  have formed : ∀ {α : Type} (tag code : Byte) (p : Option α) {act : α → State → Reply},
      (∀ x u, R u (act x u).state) →
      (Host.Outcome.next (runCommand i tag code (withForm p act) s) : Result) = .next t → R s t :=
    fun tag code p _ hact => command tag code (hR.rel_withForm hact p)
  cases i with
  | resetPin lowNs => cases h; exact hR.resetPin lowNs s
  | incomingFrame link bytes => exact hR.exec_incomingFrame h
  | outgoingFrame => cases h; exact hR.rel_outgoingFrame s
  | answerSent => cases h; exact hR.rel_sendAnswer s
  | noticeSent => cases h; exact hR.rel_sendNotice s
  | superframeStart limitsFirst => cases h; exact hR.rel_superframeStart limitsFirst s
  | speakingWarning n => cases h; exact hR.rel_if (hR.takeCount n s)
  | speakingLimitClose n => cases h; exact hR.rel_if (hR.takeCount n s)
  | speakingLimitNotify n => cases h; exact hR.rel_if (hR.takeCount n s)
  | minuteBoundary => cases h; exact hR.rel_takeBoundary s
  | superframeEnd => cases h; exact hR.rel_superframeEnd s
  | chainLock link =>
    cases h
    split
    · exact hR.refl s
    · exact hR.rel_settleLink link s
  | chainUnlock link => cases h; exact hR.rel_if (hR.rel_settleLink link s)
  | alertSample level => exact hR.alertSample h
  | refusedTimerExpiry n => cases h; exact hR.rel_expireRefused n s
  | messageExpiry n => cases h; exact hR.rel_expireMessage n s
  | voiceEvaluation => cases h; exact hR.rel_voiceEvaluate s
  | presenceEnd n => exact hR.exec_presenceEnd h
  | quietTimeout => cases h; exact hR.rel_if (hR.rel_settleQuiet s)
  | warmExpiry d => cases h; exact hR.expireWarm d s
  | coolExpiry d => cases h; exact hR.expireCool d s
  | irTransmissionStart instant => cases h; exact hR.rel_if (hR.runEmitter instant s)
  | irTransmissionComplete => cases h; exact hR.rel_if (hR.finishTransmission s)
  | commandCellArrival => cases h; exact hR.rel_takeCell s
  | unknownCommand tag code =>
    cases h
    split
    · exact hR.refl s
    · exact hR.rel_runCommand _ tag code (fun u => hR.refl u) s
  | select tag p => exact command tag _ (hR.rel_selectReply p) h
  | get tag p => exact command tag _ (hR.rel_getReply p) h
  | putSeat tag p => exact command tag _ (hR.rel_putAtCursor _ p fun _ => hR.rel_atIndex hR.putSeat) h
  | putName tag p => exact command tag _ (hR.rel_putAtCursor _ p fun _ => hR.rel_atIndex hR.rel_putNameStore) h
  | putGain tag p =>
    exact command tag _ (hR.rel_putAtCursor _ p fun t => hR.rel_atIndex (hR.rel_putGainStore t)) h
  | putNom tag p =>
    exact command tag _ (hR.rel_putAtCursor _ p fun _ => hR.rel_atIndex fun _ _ _ => hR.mixer _ _) h
  | putBooking tag p =>
    exact command tag _ (hR.rel_putAtCursor _ p fun _ => hR.rel_atIndex hR.rel_putBookingStore) h
  | putIdle tag p => exact command tag _ (hR.rel_putAtCursor _ p fun _ _ => hR.putIdle) h
  | putDisplay tag p =>
    exact command tag _ (hR.rel_putAtCursor _ p fun _ => hR.rel_atIndex hR.rel_putDisplayStore) h
  | listClearAssign tag p => exact formed tag _ p hR.rel_clearAssignReply h
  | listClearIrcode tag p => exact formed tag _ p (fun x => hR.rel_clearCodeReply x.1 x.2.1 x.2.2) h
  | listAddAssign tag p => exact formed tag _ p (fun x => hR.rel_addAssignReply x.1 x.2) h
  | listAddIrcode tag p => exact formed tag _ p (fun x => hR.rel_addCodeReply x.1 x.2) h
  | listGetAssign tag p =>
    exact formed tag _ p (fun x u => by rw [getAssignReply_state]; exact hR.refl u) h
  | listGetIrcode tag p => exact formed tag _ p (fun x u => by rw [getCodeReply_state]; exact hR.refl u) h
  | status tag p => exact formed tag _ p (fun _ u => hR.trans (hR.notices u _) (hR.draws _ _)) h
  | statusSeat tag n => exact command tag _ (hR.rel_statusSeatReply n) h
  | restart tag p => exact hR.exec_restart h
  | seatOpen tag p => exact formed tag _ p hR.seatOpen h
  | seatClose tag p => exact formed tag _ p hR.seatClose h
  | grantNext tag p => exact formed tag _ p (fun _ => hR.grant) h
  | queueClear tag p => exact formed tag _ p (fun _ => hR.queueClear) h
  | floorSet tag p => exact formed tag _ p hR.floorSet h
  | priorityOn tag p => exact formed tag _ p (fun _ => hR.priorityOn) h
  | priorityOff tag p => exact formed tag _ p (fun _ => hR.priorityOff) h
  | bankSelect tag p => exact formed tag _ p hR.rel_bankSelectReply h
  | clipRead tag p => exact formed tag _ p (fun _ u => hR.trans (hR.mixer u _) (hR.notices _ _)) h
  | meterRead tag p => exact formed tag _ p (fun x => hR.rel_meterReadReply x.1 x.2) h
  | seatMessage tag p => exact formed tag _ p (fun x => hR.rel_seatMessageReply x.1 x.2.1 x.2.2) h
  | messageClear tag p => exact formed tag _ p hR.rel_messageClearReply h
  | displayPowerOn tag p => exact formed tag _ p (fun x => hR.rel_powerOnReply x.1 x.2) h
  | displayPowerOff tag p => exact formed tag _ p (fun x => hR.rel_powerOffReply x.1 x.2) h
  | displayInput tag p => exact formed tag _ p (fun x => hR.rel_inputReply x.1 x.2) h
  | clockSet tag p => exact formed tag _ p (fun x => hR.rel_clockSetReply x.1 x.2.1 x.2.2.1 x.2.2.2) h
  | clockGet tag p => exact formed tag _ p (fun _ u => hR.refl u) h
  | commit tag p => exact formed tag _ p hR.rel_commitReply h
  | extend tag p => exact formed tag _ p (fun x => hR.rel_extendReply x.1 x.2) h
  | endNow tag p => exact formed tag _ p hR.rel_endNowReply h
  | cancel tag p => exact formed tag _ p hR.rel_cancelReply h
  | logRead tag p => exact formed tag _ p (fun _ => hR.rel_logReadReply) h
  | noticeSet tag p => exact formed tag _ p (fun x => hR.rel_noticeSetReply x.1 x.2) h

end RowClosed

end Sys2Proof.Machine
end

section
/-!
PROOFS. EVERY STEP KEEPS THE LAW OF THE DISPLAYS, the second half: expiries, completions, the emitter (R144 to R152),
and the step.
-/

namespace Sys2Proof.Machine

/-- The law reads of the displays their records, the queue, and the entry in flight. -/
theorem displayLaw_of_same {s t : State} (h : displayLaw s) (hr : t.displays.records = s.displays.records)
    (hq : t.displays.queue = s.displays.queue)
    (hf : t.displays.inFlight.map InFlight.entry = s.displays.inFlight.map InFlight.entry) : displayLaw t := by
  have flying : ∀ (x : Displays) d, flyingCode x d =
      (x.inFlight.map InFlight.entry).bind (fun e => if e.display = d then some e.code else none) := by
    intro x d; cases hx : x.inFlight <;> simp [flyingCode, hx]
  rw [displayLaw_iff] at h ⊢
  intro d
  refine (h d).of_eq ?_ ?_ ?_
  · unfold displayRecord; rw [hr]
  · unfold waitingCodes; rw [hq]
  · rw [flying, flying, hf]

theorem displayLaw_of_displays {s t : State} (h : displayLaw s) (ht : t.displays = s.displays) : displayLaw t :=
  displayLaw_of_same h (by rw [ht]) (by rw [ht]) (by rw [ht])

/-! ### Expiries and completions -/

/-- Nothing waits and nothing flies for a display. -/
def Idle (s : State) (d : DisplayNo) : Prop := waitingCodes s.displays d = [] ∧ flyingCode s.displays d = none

theorem displayLaw_warmExpired {s : State} {d : DisplayNo} (hd : Idle s d) (h : ∀ e, d ≠ e → ViewAt s e) :
    displayLaw (warmExpired d s) := by
  obtain ⟨hw, hf⟩ := hd
  unfold warmExpired; dsimp only; split
  · refine displayLaw_of_one (d := d) ?_ fun e hne => ((h e hne).other_setRecord _ hne).other_queueCode _ hne
    simp only [ViewAt, displayRecord_queueCode, displayRecord_setRecord_self, waitingCodes_queueCode_self,
      waitingCodes_setRecord, flyingCode_queueCode, flyingCode_setRecord, hw, hf]
    exact .steady rfl rfl rfl (by simp) (by simp [isInput]) rfl
  · refine displayLaw_of_one (d := d) ?_ fun e hne => (h e hne).other_setRecord _ hne
    simp only [ViewAt, displayRecord_setRecord_self, waitingCodes_setRecord, flyingCode_setRecord, hw, hf]
    exact .steady rfl rfl rfl (by simp) rfl rfl

theorem displayLaw_coolExpired {s : State} {d : DisplayNo} (hd : Idle s d) (h : ∀ e, d ≠ e → ViewAt s e) :
    displayLaw (coolExpired d s) := by
  obtain ⟨hw, hf⟩ := hd
  have off : displayLaw (setRecord d { displayRecord s d with
      state := .off, phase := none, timer := 0, pendingOn := false } s) := by
    refine displayLaw_of_one (d := d) ?_ fun e hne => (h e hne).other_setRecord _ hne
    simp only [ViewAt, displayRecord_setRecord_self, waitingCodes_setRecord, flyingCode_setRecord, hw, hf]
    exact .off rfl rfl rfl
  unfold coolExpired; dsimp only; split
  · exact displayLaw_startUp none off (by simp)
  · exact off

theorem displayLaw_powerOnComplete {s : State} {d : DisplayNo} (hs : (displayRecord s d).state = .warming)
    (hd : Idle s d) (h : ∀ e, d ≠ e → ViewAt s e) : displayLaw (powerOnComplete d s) := by
  unfold powerOnComplete; dsimp only; split
  · exact displayLaw_warmExpired hd fun e hne => (h e hne).other_setRecord _ hne
  · obtain ⟨hw, hf⟩ := hd
    refine displayLaw_of_one (d := d) ?_ fun e hne => (h e hne).other_setRecord _ hne
    simp only [ViewAt, displayRecord_setRecord_self, waitingCodes_setRecord, flyingCode_setRecord, hw, hf]
    exact .timing hs rfl

theorem displayLaw_powerOffComplete {s : State} {d : DisplayNo} (hd : Idle s d) (h : ∀ e, d ≠ e → ViewAt s e) :
    displayLaw (powerOffComplete d s) := by
  unfold powerOffComplete; dsimp only; split
  · exact displayLaw_coolExpired hd fun e hne => (h e hne).other_setRecord _ hne
  · obtain ⟨hw, hf⟩ := hd
    refine displayLaw_of_one (d := d) ?_ fun e hne => (h e hne).other_setRecord _ hne
    simp only [ViewAt, displayRecord_setRecord_self, waitingCodes_setRecord, flyingCode_setRecord, hw, hf]
    exact .cooling rfl rfl

/-- A code that the Display Sequencer awaits, landing: nothing else waits for the display (R144, R146). -/
theorem View.awaited_alone {r : DisplayRecord} {w : List IrCode} {c : IrCode} (h : View r w (some c))
    (hc : c = .powerOn ∧ r.phase = some .sending ∨ c = .powerOff ∧ r.phase = some .stopping) : w = [] := by
  cases h with
  | onFlies => rfl
  | offFlies => rfl
  | steady _ p _ _ _ hf =>
    obtain ⟨-, hp⟩ | ⟨-, hp⟩ := hc
    · rw [p] at hp; cases hp
    · rw [p] at hp; cases hp
  | offWaits _ p _ hf =>
    obtain ⟨-, hp⟩ | ⟨hoff, -⟩ := hc
    · rw [p] at hp; cases hp
    · exact absurd (congrArg some hoff) hf

/-- A code that the display does not await, landing. -/
theorem View.landed {r : DisplayRecord} {w : List IrCode} {c : IrCode} (h : View r w (some c))
    (hon : ¬ (c = .powerOn ∧ r.phase = some .sending)) (hoff : ¬ (c = .powerOff ∧ r.phase = some .stopping)) :
    View r w none := by
  cases h with
  | onFlies _ p _ => exact absurd ⟨rfl, p⟩ hon
  | offFlies _ p _ => exact absurd ⟨rfl, p⟩ hoff
  | steady s p t hw hi _ => exact .steady s p t hw hi rfl
  | offWaits s p t _ => exact .offWaits s p t (by simp)

/-- A display that is SENDING is WARMING (R143). -/
theorem View.warming_of_sending {r : DisplayRecord} {w : List IrCode} {f : Option IrCode} (h : View r w f)
    (hp : r.phase = some .sending) : r.state = .warming := by
  cases h with
  | onWaits s _ _ => exact s
  | onFlies s _ _ => exact s
  | off _ p => rw [p] at hp; cases hp
  | cooling _ p => rw [p] at hp; cases hp
  | timing _ p => rw [p] at hp; cases hp
  | steady _ p => rw [p] at hp; cases hp
  | offWaits _ p => rw [p] at hp; cases hp
  | offFlies _ p => rw [p] at hp; cases hp

/-- The completion of an entry that has flown: the emitter is idle, and the display shows the law with the code still
flying (R149). -/
theorem displayLaw_completion {e : IrEntry} {s : State} (hidle : ∀ d, flyingCode s.displays d = none)
    (hd : View (displayRecord s e.display) (waitingCodes s.displays e.display) (some e.code))
    (h : ∀ d, e.display ≠ d → ViewAt s d) : displayLaw (completion e s) := by
  have landed := fun hon hoff => displayLaw_of_one (t := s) (d := e.display)
    (by unfold ViewAt; rw [hidle]; exact hd.landed hon hoff) h
  unfold completion; dsimp only; split
  · next hc hs hp =>
    exact displayLaw_powerOnComplete hs ⟨hd.awaited_alone (Or.inl ⟨hc, hp⟩), hidle _⟩ h
  · next hc hp =>
    exact displayLaw_powerOffComplete ⟨hd.awaited_alone (Or.inr ⟨hc, hp⟩), hidle _⟩ h
  · next n hc hs =>
    exact displayLaw_setRecord (landed (by simp [hc]) (by simp [hc])) rfl rfl id
  · next _ hoff hon =>
    refine landed (fun hc => ?_) fun hc => hoff hc.1 hc.2
    exact hon hc.1 (hd.warming_of_sending hc.2) hc.2

/-! ### The emitter -/

theorem flyingCode_of_idle {x : Displays} (h : x.inFlight = none) (d : DisplayNo) : flyingCode x d = none := by
  simp [flyingCode, h]

theorem flyingCode_of_inFlight {x : Displays} {f : InFlight} (h : x.inFlight = some f) (d : DisplayNo) :
    flyingCode x d = if f.entry.display = d then some f.entry.code else none := by
  simp [flyingCode, h]

theorem waitingCodes_cons {x : Displays} {e : IrEntry} {rest : List IrEntry} (h : x.queue = e :: rest) (d : DisplayNo) :
    waitingCodes x d = if e.display = d then e.code :: waitingCodes { x with queue := rest } d
      else waitingCodes { x with queue := rest } d := by
  by_cases hd : e.display = d <;> simp [waitingCodes, h, hd]

/-- The head taken from the queue of an idle emitter, as if it flew: its display's view, and those of the others. -/
theorem views_of_taken {s : State} {e : IrEntry} {rest : List IrEntry} (h : displayLaw s)
    (hidle : s.displays.inFlight = none) (hq : s.displays.queue = e :: rest) :
    let t := s.withDisplays { s.displays with queue := rest }
    View (displayRecord t e.display) (waitingCodes t.displays e.display) (some e.code) ∧
      ∀ d, e.display ≠ d → ViewAt t d := by
  rw [displayLaw_iff] at h
  refine ⟨?_, fun d hne => ?_⟩
  · have := h e.display
    rw [ViewAt, waitingCodes_cons hq, if_pos rfl, flyingCode_of_idle hidle] at this
    exact this.launched
  · refine (h d).of_eq rfl ?_ rfl
    rw [waitingCodes_cons hq, if_neg hne]; rfl

theorem displayLaw_takeHead (k instant : Nat) {s : State} (h : displayLaw s) : displayLaw (takeHead k instant s) := by
  induction k generalizing s with
  | zero => exact h
  | succ k ih =>
    unfold takeHead; split
    · next e rest hidle hq =>
      obtain ⟨hown, hothers⟩ := views_of_taken h hidle hq
      dsimp only; split
      · exact ih (displayLaw_completion (e := e) (flyingCode_of_idle hidle) hown hothers)
      · refine displayLaw_of_one (d := e.display) ?_ fun d hne => (hothers d hne).of_eq rfl rfl ?_
        · unfold ViewAt
          rw [flyingCode_of_inFlight (f := _) rfl, if_pos rfl]
          exact hown
        · rw [flyingCode_of_inFlight (f := _) rfl, if_neg hne]
          exact (flyingCode_of_idle hidle d).symm
    · exact h

theorem displayLaw_runEmitter (instant : Nat) {s : State} (h : displayLaw s) : displayLaw (runEmitter instant s) :=
  displayLaw_takeHead _ _ (displayLaw_of_same h rfl rfl rfl)

theorem displayLaw_emit {s : State} (h : displayLaw s) : displayLaw (emit s) := by
  unfold emit; split
  · exact displayLaw_runEmitter _ (displayLaw_of_displays h rfl)
  · exact h

theorem displayLaw_finishTransmission {s : State} (h : displayLaw s) : displayLaw (finishTransmission s) := by
  unfold finishTransmission; split
  · exact h
  · next f hf =>
    rw [displayLaw_iff] at h
    refine displayLaw_runEmitter _ (displayLaw_completion (fun d => flyingCode_of_idle rfl d) ?_ fun d hne => ?_)
    · have := h f.entry.display
      rwa [ViewAt, flyingCode_of_inFlight hf, if_pos rfl] at this
    · refine (h d).of_eq rfl rfl ?_
      rw [flyingCode_of_idle rfl, flyingCode_of_inFlight hf, if_neg hne]

theorem displayLaw_finishAll (k : Nat) {s : State} (h : displayLaw s) : displayLaw (finishAll k s) := by
  induction k generalizing s with
  | zero => exact h
  | succ k ih =>
    unfold finishAll; split
    · exact ih (displayLaw_finishTransmission h)
    · exact h

/-- A display timer at its last count runs in WARMING, TIMING, or in COOLING, where nothing waits or flies (R146). -/
theorem View.idle_of_timer {r : DisplayRecord} {w : List IrCode} {f : Option IrCode} (h : View r w f)
    (ht : r.timer = 1) : w = [] ∧ f = none := by
  cases h with
  | cooling => exact ⟨rfl, rfl⟩
  | timing => exact ⟨rfl, rfl⟩
  | off _ _ t => rw [ht] at t; cases t
  | onWaits _ _ t => rw [ht] at t; cases t
  | onFlies _ _ t => rw [ht] at t; cases t
  | steady _ _ t => rw [ht] at t; cases t
  | offWaits _ _ t => rw [ht] at t; cases t
  | offFlies _ _ t => rw [ht] at t; cases t

theorem idle_of_displayDue {s : State} {d : DisplayNo} (h : displayLaw s) (hdue : displayDue d s = true) :
    Idle s d := by
  have ht : (displayRecord s d).timer = 1 := by
    unfold displayDue at hdue; exact of_decide_eq_true (Bool.and_eq_true _ _ ▸ hdue).2
  exact ((displayLaw_iff s).mp h d).idle_of_timer ht

theorem displayLaw_expireWarm (d : DisplayNo) {s : State} (h : displayLaw s) : displayLaw (expireWarm d s) := by
  unfold expireWarm; split
  · next hdue =>
    have hidle := idle_of_displayDue h (Bool.and_eq_true _ _ ▸ hdue).1
    exact displayLaw_emit (displayLaw_warmExpired (s := dropDisplay d s) hidle
      fun e _ => (displayLaw_iff s).mp h e)
  · exact h

theorem displayLaw_expireCool (d : DisplayNo) {s : State} (h : displayLaw s) : displayLaw (expireCool d s) := by
  unfold expireCool; split
  · next hdue =>
    have hidle := idle_of_displayDue h (Bool.and_eq_true _ _ ▸ hdue).1
    exact displayLaw_emit (displayLaw_coolExpired (s := dropDisplay d s) hidle
      fun e _ => (displayLaw_iff s).mp h e)
  · exact h

/-! ### The step -/

/-- What keeps the law of the displays. -/
def KeepsDisplays (s t : State) : Prop := displayLaw s → displayLaw t

theorem keepsDisplays_of_eq {s t : State} (h : t.displays = s.displays) : KeepsDisplays s t :=
  fun hs => displayLaw_of_displays hs h

theorem meetingClosed_keepsDisplays : MeetingClosed KeepsDisplays where
  refl _ := id
  trans h k := k ∘ h
  append _ _ _ _ := id
  floor _ _ := id
  gate _ _ := id
  refuse _ _ := id
  bank _ _ := id
  messages _ := id

theorem displayLaw_replicate {s : State} (hr : s.displays.records = Vector.replicate 4 .reset)
    (hq : s.displays.queue = []) (hf : s.displays.inFlight = none) : displayLaw s := by
  rw [displayLaw_iff]
  intro d
  have hrecord : displayRecord s d = .reset := by simp [displayRecord, hr, look]
  have hwaiting : waitingCodes s.displays d = [] := by simp [waitingCodes, hq]
  rw [ViewAt, hrecord, hwaiting, flyingCode_of_idle hf]
  exact .off rfl rfl rfl

theorem rowClosed_keepsDisplays : RowClosed KeepsDisplays where
  toPlacingClosed := meetingClosed_keepsDisplays.placingClosed
    (fun d i _ h => displayLaw_emit (displayLaw_handleOn d i h))
    (fun d _ h => displayLaw_emit (displayLaw_handleOff d h)) (fun _ _ => id)
  time _ _ := id
  links _ _ := id
  audio _ _ := id
  seats _ _ := id
  mixer _ _ := id
  gate _ _ := id
  screens _ _ := id
  clock _ _ := id
  log _ _ := id
  notices _ _ := id
  port _ _ := id
  sent _ _ := id
  due _ _ := id
  draws _ _ := id
  oweCounts _ := id
  takeCount := meetingClosed_keepsDisplays.rel_takeCount
  presenceStarts n s := by
    unfold presenceStarts; split
    · exact meetingClosed_keepsDisplays.rel_afterFloor s
    · exact id
  presenceEnds n s := by
    unfold presenceEnds; split
    · exact meetingClosed_keepsDisplays.trans (meetingClosed_keepsDisplays.rel_closeVoiceHold n s)
        (meetingClosed_keepsDisplays.rel_afterFloor _)
    · exact id
  button := meetingClosed_keepsDisplays.rel_buttonEvent
  seatLost := meetingClosed_keepsDisplays.rel_floorSeatLost
  alertSample := by
    intro level s t h
    cases h
    split
    · split
      · exact fun hs => meetingClosed_keepsDisplays.rel_alertEntry (s.withAlert _) hs
      · exact fun hs => meetingClosed_keepsDisplays.rel_alertExit (s.withAlert _) hs
    · exact id
  seatOpen := meetingClosed_keepsDisplays.rel_seatOpenReply
  seatClose := meetingClosed_keepsDisplays.rel_seatCloseReply
  grant := meetingClosed_keepsDisplays.rel_grantReply
  queueClear s := meetingClosed_keepsDisplays.trans (meetingClosed_keepsDisplays.rel_clearQueue s)
    (meetingClosed_keepsDisplays.rel_afterFloor _)
  floorSet := meetingClosed_keepsDisplays.rel_floorSetReply
  priorityOn := meetingClosed_keepsDisplays.rel_priorityOnReply
  priorityOff := meetingClosed_keepsDisplays.rel_priorityOffReply
  putSeat n f s := by
    have keep : ∀ e, KeepsDisplays s (keepRole n e s) := by
      intro e; unfold keepRole; dsimp only; split
      · exact id
      · split
        · exact fun hs => meetingClosed_keepsDisplays.rel_afterFloor _
            (meetingClosed_keepsDisplays.rel_recomputeSeat n (storeSeat n e s) hs)
        · exact id
    have change : ∀ e, KeepsDisplays s (changeRole n e s) := fun e hs =>
      meetingClosed_keepsDisplays.rel_afterFloor (storeSeat n e _) (meetingClosed_keepsDisplays.rel_leaveHolders n _
        (meetingClosed_keepsDisplays.rel_takeOut _ _ n s hs))
    unfold putSeatStore; split
    · exact id
    · split
      · exact id
      · split
        · exact keep _
        · exact change _
  putIdle f s := by
    unfold putIdleStore; split
    · exact fun hs => meetingClosed_keepsDisplays.rel_idleEffect _ _ (s.withSched _) hs
    · exact id
  restartFloor _ := id
  restartSlots _ := id
  draft _ _ _ _ _ _ := id
  input d n _ h := displayLaw_emit (displayLaw_handleInput d n h)
  expireWarm d _ := displayLaw_expireWarm d
  expireCool d _ := displayLaw_expireCool d
  settleEmitter _ h := displayLaw_finishAll _ (displayLaw_emit h)
  runEmitter instant _ := displayLaw_runEmitter instant
  finishTransmission _ := displayLaw_finishTransmission
  presets _ _ h := displayLaw_of_same h rfl rfl rfl
  codes _ _ h := displayLaw_of_same h rfl rfl rfl
  reach _ _ h := displayLaw_of_same h rfl rfl rfl
  passFrame s h := by
    refine displayLaw_of_same h rfl rfl ?_
    show (s.displays.inFlight.map _).map _ = _
    rw [Option.map_map]; rfl
  countTimers s h := by
    rw [displayLaw_iff] at h ⊢
    intro d
    have hrecord : displayRecord (s.withDisplays { s.displays with
        records := s.displays.records.map (fun r => { r with timer := countDown r.timer }) }) d =
        { displayRecord s d with timer := countDown (displayRecord s d).timer } := by
      simp [displayRecord, look]
    unfold ViewAt
    rw [hrecord]
    exact (h d).of_record rfl rfl fun ht => by rw [ht]; rfl
  restartDisplays _ _ := displayLaw_replicate rfl rfl rfl
  resetPin lowNs s := by
    unfold resetPin; split
    · exact fun _ => displayLaw_replicate rfl rfl rfl
    · exact id

/-- Settles O5: every row keeps the law, and a view has at most one entry waiting. -/
theorem displayLawKept : Obligations.DisplayLawKept :=
  ⟨step_keeps (fun _ _ => id) fun _ _ _ hs h => rowClosed_keepsDisplays.exec_rel h hs,
    fun s h d => ((displayLaw_iff s).mp h d).waiting_le⟩

end Sys2Proof.Machine
end

section
/-!
PROOFS. WHAT FLOOR OPERATIONS DO TO THE LISTS. Closing, cancelling, disarming and the timer checks only take seats off
the floor (`Shrinks`); joining the Open List adds one entry at most. These facts serve the laws of the floor (R26 to
R32, R56, R59) and of auto-advance (R40).
-/

namespace Sys2Proof.Machine

/-! ### Taking seats off the floor -/

/-- What the laws read of an Open List entry. -/
def entryKey (e : Entry) : Seat × Bool := (e.seat, e.chair)

/-- From `s` to `t` seats have at most left the lists of the floor; the floor's other parts, the bookings and the ALERT
filter are the same. -/
structure Shrinks (s t : State) : Prop where
  phase : t.floor.phase = s.floor.phase
  setup : t.floor.setup = s.floor.setup
  meeting : t.floor.meeting = s.floor.meeting
  holders : t.floor.holders = s.floor.holders
  remote : t.floor.remote = s.floor.remote
  opened : (t.floor.openList.map entryKey).Sublist (s.floor.openList.map entryKey)
  shadow : (t.floor.shadow.map entryKey).Sublist (s.floor.shadow.map entryKey)
  queue : t.floor.queue.Sublist s.floor.queue
  armed : t.floor.armed.Sublist s.floor.armed
  sched : t.sched = s.sched
  alert : t.alert = s.alert

theorem Shrinks.refl (s : State) : Shrinks s s :=
  ⟨rfl, rfl, rfl, rfl, rfl, .refl _, .refl _, .refl _, .refl _, rfl, rfl⟩

theorem Shrinks.trans {s t u : State} (h : Shrinks s t) (k : Shrinks t u) : Shrinks s u :=
  ⟨k.phase.trans h.phase, k.setup.trans h.setup, k.meeting.trans h.meeting, k.holders.trans h.holders,
    k.remote.trans h.remote, k.opened.trans h.opened, k.shadow.trans h.shadow, k.queue.trans h.queue,
    k.armed.trans h.armed, k.sched.trans h.sched, k.alert.trans h.alert⟩

theorem Shrinks.foldl {α : Type} {f : State → α → State} (h : ∀ s a, Shrinks s (f s a)) (l : List α)
    (s : State) : Shrinks s (l.foldl f s) := by
  induction l generalizing s with
  | nil => exact .refl s
  | cons a l ih => exact (h s a).trans (ih _)

/-- The number of delegates is read from the keys (R33). -/
theorem delegates_eq_keys (f : Floor) :
    delegates f = ((f.openList.map entryKey).filter (fun k => !k.2)).length := by
  rw [delegates, List.filter_map, List.length_map]; rfl

theorem Shrinks.delegates_le {s t : State} (h : Shrinks s t) : delegates t.floor ≤ delegates s.floor := by
  rw [delegates_eq_keys, delegates_eq_keys]
  exact (h.opened.filter _).length_le

theorem Shrinks.openList_nil {s t : State} (h : Shrinks s t) (hs : s.floor.openList = []) : t.floor.openList = [] := by
  have := h.opened
  rw [hs] at this
  exact List.map_eq_nil_iff.mp (List.sublist_nil.mp this)

theorem Shrinks.shadow_nil {s t : State} (h : Shrinks s t) (hs : s.floor.shadow = []) : t.floor.shadow = [] := by
  have := h.shadow
  rw [hs] at this
  exact List.map_eq_nil_iff.mp (List.sublist_nil.mp this)

/-- Other contents of the Open List whose keys are a part of those before. -/
theorem shrinks_withOpenList {s : State} {l : List Entry}
    (h : (l.map entryKey).Sublist (s.floor.openList.map entryKey)) :
    Shrinks s (s.withFloor { s.floor with openList := l }) :=
  { Shrinks.refl s with opened := h }

theorem shrinks_withShadow {s : State} {l : List Entry} (h : (l.map entryKey).Sublist (s.floor.shadow.map entryKey)) :
    Shrinks s (s.withFloor { s.floor with shadow := l }) :=
  { Shrinks.refl s with shadow := h }

theorem shrinks_withQueue {s : State} {l : List Request} (h : l.Sublist s.floor.queue) :
    Shrinks s (s.withFloor { s.floor with queue := l }) :=
  { Shrinks.refl s with queue := h }

theorem shrinks_withArmed {s : State} {l : List Seat} (h : l.Sublist s.floor.armed) :
    Shrinks s (s.withFloor { s.floor with armed := l }) :=
  { Shrinks.refl s with armed := h }

/-- Another state with the same floor, bookings and ALERT filter. -/
theorem Shrinks.of_same {s t : State} (hf : t.floor = s.floor) (hs : t.sched = s.sched) (ha : t.alert = s.alert) :
    Shrinks s t := by
  refine ⟨?_, ?_, ?_, ?_, ?_, ?_, ?_, ?_, ?_, hs, ha⟩ <;> rw [hf]

theorem shrinks_record (e : LogEvent) (n : Option Seat) (s : State) : Shrinks s (record e n s) :=
  .of_same rfl rfl rfl

theorem shrinks_refuse (n : Seat) (s : State) : Shrinks s (refuse n s) := .of_same rfl rfl rfl

theorem restFilters_floor (s : State) : (restFilters s).floor = s.floor := withGate_floor s _

theorem shrinks_restFilters (s : State) : Shrinks s (restFilters s) :=
  .of_same (restFilters_floor s) (withGate_sched s _) (withGate_alert s _)

theorem shrinks_dropSeat (n : Seat) (s : State) :
    Shrinks s (s.withFloor { s.floor with openList := dropSeat n s.floor.openList }) :=
  shrinks_withOpenList (List.Sublist.map entryKey List.filter_sublist)

theorem shrinks_closeOpen (r : CloseReason) (n : Seat) (s : State) : Shrinks s (closeOpen r n s) := by
  unfold closeOpen; split
  · exact (shrinks_dropSeat n s).trans (shrinks_record _ _ _)
  · exact .refl s

theorem shrinks_closeShadow (r : CloseReason) (n : Seat) (s : State) : Shrinks s (closeShadow r n s) := by
  unfold closeShadow; split
  · exact (shrinks_withShadow (List.Sublist.map entryKey List.filter_sublist)).trans (shrinks_record _ _ _)
  · exact .refl s

theorem shrinks_leaveQueue (r : CancelReason) (n : Seat) (s : State) : Shrinks s (leaveQueue r n s) := by
  unfold leaveQueue; split
  · exact (shrinks_withQueue List.filter_sublist).trans (shrinks_record _ _ _)
  · exact .refl s

theorem shrinks_disarm (n : Seat) (s : State) : Shrinks s (disarm n s) := shrinks_withArmed List.filter_sublist

theorem shrinks_clearQueue (s : State) : Shrinks s (clearQueue s) := by
  unfold clearQueue; split
  · exact .refl s
  · exact (shrinks_withQueue (List.nil_sublist _)).trans (shrinks_record _ _ _)

theorem shrinks_clearArming (s : State) : Shrinks s (clearArming s) := shrinks_withArmed (List.nil_sublist _)

theorem shrinks_closeOpenSeats (r : CloseReason) (l : List Seat) (s : State) : Shrinks s (closeOpenSeats r l s) :=
  .foldl (fun t n => shrinks_closeOpen r n t) l s

theorem shrinks_closeShadowSeats (r : CloseReason) (l : List Seat) (s : State) : Shrinks s (closeShadowSeats r l s) :=
  .foldl (fun t n => shrinks_closeShadow r n t) l s

theorem shrinks_takeOut (close : CloseReason) (cancel : CancelReason) (n : Seat) (s : State) :
    Shrinks s (takeOut close cancel n s) := by
  unfold takeOut; split
  · exact shrinks_closeOpen _ n s
  · exact shrinks_leaveQueue _ n s
  · exact shrinks_closeShadow _ n s
  · exact shrinks_disarm n s
  · exact .refl s

/-! ### Timers -/

theorem entryKey_modifyTimer (n : Seat) (f : Timer → Timer) (l : List Entry) :
    (modifyTimer n f l).map entryKey = l.map entryKey := by
  rw [modifyTimer, List.map_map]
  refine List.map_congr_left fun e _ => ?_
  simp only [Function.comp_apply]; split <;> rfl

theorem shrinks_modifyOpenTimer (n : Seat) (f : Timer → Timer) (s : State) : Shrinks s (modifyOpenTimer n f s) :=
  shrinks_withOpenList (by rw [entryKey_modifyTimer])

theorem shrinks_checkWarning (n : Seat) (s : State) : Shrinks s (checkWarning n s) := by
  unfold checkWarning; split
  · split
    · exact (shrinks_modifyOpenTimer n _ s).trans (shrinks_record _ _ _)
    · exact .refl s
  · exact .refl s

theorem shrinks_checkLimit (n : Seat) (s : State) : Shrinks s (checkLimit n s) := by
  unfold checkLimit; split
  · unfold limitClose; split
    · split
      · exact shrinks_closeOpen _ n s
      · exact .refl s
    · exact .refl s
  · unfold limitNotify; split
    · split
      · exact (shrinks_modifyOpenTimer n _ s).trans (shrinks_record _ _ _)
      · exact .refl s
    · exact .refl s

theorem shrinks_checkTimer (n : Seat) (s : State) : Shrinks s (checkTimer n s) :=
  (shrinks_checkWarning n s).trans (shrinks_checkLimit n _)

theorem shrinks_checkTimers (l : List Seat) (s : State) : Shrinks s (checkTimers l s) :=
  .foldl (fun t n => shrinks_checkTimer n t) l s

theorem entryKey_map_timer {f : Entry → Entry} (h : ∀ e, entryKey (f e) = entryKey e) (l : List Entry) :
    (l.map f).map entryKey = l.map entryKey := by
  rw [List.map_map]; exact List.map_congr_left fun e _ => h e

theorem shrinks_mapTimers {f : Entry → Entry} (h : ∀ e, entryKey (f e) = entryKey e) (s : State) :
    Shrinks s (s.withFloor { s.floor with openList := s.floor.openList.map f, shadow := s.floor.shadow.map f }) :=
  { Shrinks.refl s with
    opened := by show ((s.floor.openList.map f).map entryKey).Sublist _; rw [entryKey_map_timer h]
    shadow := by show ((s.floor.shadow.map f).map entryKey).Sublist _; rw [entryKey_map_timer h] }

theorem shrinks_recomputeAll (s : State) : Shrinks s (recomputeAll s) :=
  (shrinks_mapTimers (f := realignEntry s.floor.setup s.seatTable) (fun _ => rfl) s).trans (shrinks_checkTimers _ _)

theorem shrinks_recomputeSeat (n : Seat) (s : State) : Shrinks s (recomputeSeat n s) :=
  (shrinks_mapTimers (f := fun e => if e.seat = n then realignEntry s.floor.setup s.seatTable e else e)
    (fun e => by split <;> rfl) s).trans (shrinks_checkTimer n _)

theorem shrinks_oweCounts (s : State) : Shrinks s (oweCounts s) :=
  shrinks_withOpenList (by
    rw [entryKey_map_timer (f := fun e => { e with timer := oweCount e.timer }) fun _ => rfl])

/-! ### Joining -/

/-- A state in which a seat stands at the tail of the Open List, before its timer is checked. -/
theorem joinOpen_shrinks (how : How) (n : Seat) (s : State) : Shrinks (withOpened how n s) (joinOpen how n s) := by
  rw [joinOpen_eq]; exact shrinks_checkTimer n _

theorem delegates_withOpened (how : How) (n : Seat) (s : State) :
    delegates (withOpened how n s).floor =
      delegates s.floor + if effectiveRole s n = .chair then 0 else 1 := by
  show ((s.floor.openList ++ [freshEntry s how n]).filter (fun e => !e.chair)).length = _
  rw [List.filter_append, List.length_append]
  by_cases h : effectiveRole s n = .chair <;> simp [freshEntry, h, delegates]

theorem joinOpen_queue_sublist (how : How) (n : Seat) (s : State) :
    (joinOpen how n s).floor.queue.Sublist (dropRequest n s.floor.queue) :=
  (joinOpen_shrinks how n s).queue

/-! ### The end of a floor event -/

theorem afterFloor_floor (s : State) :
    (afterFloor s).floor = (advanceUpTo (s.floor.queue.length + s.floor.armed.length) s).floor :=
  restFilters_floor _

/-- One step of auto-advance or voice admission is a seat that opens while a slot is free (R40, R42). -/
theorem advanceOnce_cases {s t : State} (h : advanceOnce s = some t) :
    slotFree s.floor = true ∧
      ((∃ r l, s.floor.queue = r :: l ∧ t = joinOpen .auto r.seat s) ∨
        (s.floor.setup.mode = .voice ∧ ∃ n, t = joinOpen .voice n s)) := by
  have head : s.floor.queue.head?.map (fun r => joinOpen .auto r.seat s) = some t →
      ∃ r l, s.floor.queue = r :: l ∧ t = joinOpen .auto r.seat s := by
    intro hq
    cases hqueue : s.floor.queue with
    | nil => rw [hqueue] at hq; cases hq
    | cons r l => rw [hqueue] at hq; cases hq; exact ⟨r, l, rfl, rfl⟩
  unfold advanceOnce at h
  split at h
  · next hfree =>
    refine ⟨hfree, ?_⟩
    split at h
    · exact Or.inl (head h)
    · split at h
      · exact Or.inl (head h)
      · cases h
    · cases h
    · next hmode =>
      cases hc : candidate s with
      | none => rw [hc] at h; cases h
      | some n => rw [hc] at h; cases h; exact Or.inr ⟨hmode, n, rfl⟩
  · cases h

/-- A property that each step of auto-advance and voice admission keeps is kept to the end of the event. -/
theorem advanceUpTo_keeps {P : State → Prop} (h : ∀ s t, P s → advanceOnce s = some t → P t)
    (k : Nat) (s : State) (hs : P s) : P (advanceUpTo k s) := by
  induction k generalizing s with
  | zero => exact hs
  | succ k ih =>
    unfold advanceUpTo; split
    · next t ht => exact ih t (h s t hs ht)
    · exact hs

/-! ### Auto-advance (R40) -/

/-- Auto-advance applies: DIRECT, or QUEUED with auto-advance. -/
def autoAdvances (s : State) : Prop :=
  s.floor.setup.mode = .direct ∨ s.floor.setup.mode = .queued ∧ s.floor.setup.autoAdvance = true

/-- Where auto-advance applies and takes no step, no slot is free or nobody waits (R40). -/
theorem advanceLaw_of_done {s : State} (h : advanceOnce s = none) : advanceLaw s := by
  intro hmode hfree
  have hhead : s.floor.queue.head? = none := by
    unfold advanceOnce at h
    rw [if_pos hfree] at h
    obtain hd | ⟨hq, ha⟩ := hmode
    · rw [hd] at h; simpa using h
    · rw [hq] at h; simpa [ha] using h
  exact List.head?_eq_none_iff.mp hhead

theorem advanceOnce_setup {s t : State} (h : advanceOnce s = some t) : t.floor.setup = s.floor.setup := by
  obtain ⟨-, ⟨r, l, -, rfl⟩ | ⟨-, n, rfl⟩⟩ := advanceOnce_cases h
  · exact (joinOpen_shrinks _ _ s).setup
  · exact (joinOpen_shrinks _ _ s).setup

/-- With enough steps, auto-advance ends where its law holds: each step takes a seat out of the queue (R40). -/
theorem advanceLaw_advanceUpTo {k : Nat} {s : State} (hk : s.floor.queue.length ≤ k) :
    advanceLaw (advanceUpTo k s) := by
  induction k generalizing s with
  | zero => exact fun _ _ => List.eq_nil_of_length_eq_zero (Nat.le_zero.mp hk)
  | succ k ih =>
    unfold advanceUpTo; split
    · next t ht =>
      obtain ⟨hfree, ⟨r, l, hq, rfl⟩ | ⟨hvoice, n, rfl⟩⟩ := advanceOnce_cases ht
      · refine ih (Nat.le_trans (joinOpen_queue_sublist _ _ s).length_le ?_)
        rw [hq, List.length_cons] at hk
        have hdrop : dropRequest r.seat (r :: l) = dropRequest r.seat l := by simp [dropRequest]
        rw [hq, hdrop]
        exact Nat.le_trans List.filter_sublist.length_le (Nat.le_of_succ_le_succ hk)
      · have hmode : (advanceUpTo k (joinOpen .voice n s)).floor.setup.mode = .voice := by
          refine advanceUpTo_keeps (P := fun u => u.floor.setup.mode = .voice)
            (fun u v hu hv => ?_) k _ ?_
          · rw [advanceOnce_setup hv]; exact hu
          · rw [advanceOnce_setup ht]; exact hvoice
        rintro (hd | ⟨hq, -⟩) _
        · rw [hmode] at hd; cases hd
        · rw [hmode] at hq; cases hq
    · next hnone => exact advanceLaw_of_done hnone

theorem advanceLaw_of_floor {s t : State} (h : t.floor = s.floor) (hs : advanceLaw s) : advanceLaw t := by
  unfold advanceLaw; rw [h]; exact hs

/-- Every floor event ends with the law of auto-advance (R40). -/
theorem advanceLaw_afterFloor (s : State) : advanceLaw (afterFloor s) :=
  advanceLaw_of_floor (afterFloor_floor s) (advanceLaw_advanceUpTo (Nat.le_add_right _ _))

end Sys2Proof.Machine
end

section
/-!
PROOFS. EVERY STEP KEEPS THE LAW OF AUTO-ADVANCE (R40). A law of the floor, the bookings and the ALERT filter is kept by
every row when each operation on these keeps it (`RoomKept`); for auto-advance, since every floor event ends with it.
-/

namespace Sys2Proof.Machine

/-- The floor, the bookings and the ALERT filter are the same. -/
structure SameRoom (s t : State) : Prop where
  floor : t.floor = s.floor
  sched : t.sched = s.sched
  alert : t.alert = s.alert

theorem emitterClosed_sameRoom : EmitterClosed SameRoom where
  refl _ := ⟨rfl, rfl, rfl⟩
  trans h k := ⟨k.floor.trans h.floor, k.sched.trans h.sched, k.alert.trans h.alert⟩
  append _ _ _ _ := ⟨rfl, rfl, rfl⟩
  displays _ _ := ⟨rfl, rfl, rfl⟩
  draws _ _ := ⟨rfl, rfl, rfl⟩
  raise _ := ⟨rfl, rfl, rfl⟩

theorem SameRoom.trans {s t u : State} (h : SameRoom s t) (k : SameRoom t u) : SameRoom s u :=
  emitterClosed_sameRoom.trans h k

theorem sameRoom_expireWarm (d : DisplayNo) (s : State) : SameRoom s (expireWarm d s) := by
  have due : SameRoom s (dropDisplay d s) := ⟨rfl, rfl, rfl⟩
  unfold expireWarm; split
  · exact due.trans ((emitterClosed_sameRoom.rel_warmExpired d _).trans (emitterClosed_sameRoom.rel_emit _))
  · exact ⟨rfl, rfl, rfl⟩

theorem sameRoom_expireCool (d : DisplayNo) (s : State) : SameRoom s (expireCool d s) := by
  have due : SameRoom s (dropDisplay d s) := ⟨rfl, rfl, rfl⟩
  unfold expireCool; split
  · exact due.trans ((emitterClosed_sameRoom.rel_coolExpired d _).trans (emitterClosed_sameRoom.rel_emit _))
  · exact ⟨rfl, rfl, rfl⟩

/-- A law of the floor, the bookings and the ALERT filter that every operation on these keeps. -/
structure RoomKept (P : State → Prop) : Prop where
  room {s t : State} : SameRoom s t → P s → P t
  starts (k : SlotNo) (c : StartCause) {f : Fixed} {s : State} : HoldsFixed s f → P s → P (meetingStart k f c s)
  ends (f : Fixed) (c : EndCause) {s : State} : P s → P (meetingEnd f c s)
  slot (k : SlotNo) {x : Slot} {s : State} :
    (∀ f, slotFixed x = some f → HoldsFixed s f) → P s → P (setSlot k x s)
  oweCounts {s : State} : P s → P (oweCounts s)
  takeCount (n : Seat) {s : State} : P s → P (takeCount n s)
  presenceStarts (n : Seat) {s : State} : P s → P (presenceStarts n s)
  presenceEnds (n : Seat) {s : State} : P s → P (presenceEnds n s)
  button (b : ButtonName) (edge : Bool) (n : Seat) (stamp : Stamp) {s : State} :
    P s → P (buttonEvent b edge n stamp s)
  seatLost (n : Seat) {s : State} : P s → P (floorSeatLost n s)
  alertSample {level : AlertLevel} {s t : State} : execAlertSample level s = .next t → P s → P t
  seatOpen (seat : Nat) {s : State} : P s → P (seatOpenReply seat s).state
  seatClose (seat : Nat) {s : State} : P s → P (seatCloseReply seat s).state
  grant {s : State} : P s → P (grantReply s).state
  queueClear {s : State} : P s → P (afterFloor (clearQueue s))
  floorSet (f : SetupFields) {s : State} : P s → P (floorSetReply f s).state
  priorityOn {s : State} : P s → P (priorityOnReply s).state
  priorityOff {s : State} : P s → P (priorityOffReply s).state
  putSeat (n : Seat) (f : SeatFields) {s : State} : P s → P (putSeatStore n f s).state
  putIdle (f : IdleFields) {s : State} : P s → P (putIdleStore f s).state
  restartFloor {s : State} : P s → P (restartFloor s)
  restartSlots {s : State} : P s → P (s.withSched { s.sched with slots := s.sched.slots.map backToPending })
  draft (k : SlotNo) (items : List Item) {f : BookingFields} {x : Fixed} {s : State} :
    fixed? f = some x → P s → P (setSlot k (.draft x items) s)
  resetPin (lowNs : Nat) {s : State} : P s → P (resetPin lowNs s)

/-- Such a law is kept by every row. -/
theorem RoomKept.rowClosed {P : State → Prop} (hP : RoomKept P) : RowClosed (fun s t => P s → P t) :=
  have same : ∀ {s t : State}, SameRoom s t → P s → P t := hP.room
  have hE := emitterClosed_sameRoom
  { refl := fun _ => id
    trans := fun h k => k ∘ h
    append := fun _ _ _ _ => same ⟨rfl, rfl, rfl⟩
    starts := hP.starts
    ends := fun f c _ => hP.ends f c
    on := fun d i s => same (hE.rel_requestOn d i s)
    off := fun d s => same (hE.rel_requestOff d s)
    slot := hP.slot
    time := fun _ _ => same ⟨rfl, rfl, rfl⟩
    links := fun _ _ => same ⟨rfl, rfl, rfl⟩
    audio := fun _ _ => same ⟨rfl, rfl, rfl⟩
    seats := fun _ _ => same ⟨rfl, rfl, rfl⟩
    mixer := fun _ _ => same ⟨rfl, rfl, rfl⟩
    gate := fun _ _ => same ⟨rfl, rfl, rfl⟩
    screens := fun _ _ => same ⟨rfl, rfl, rfl⟩
    clock := fun _ _ => same ⟨rfl, rfl, rfl⟩
    log := fun _ _ => same ⟨rfl, rfl, rfl⟩
    notices := fun _ _ => same ⟨rfl, rfl, rfl⟩
    port := fun _ _ => same ⟨rfl, rfl, rfl⟩
    sent := fun _ _ => same ⟨rfl, rfl, rfl⟩
    due := fun _ _ => same ⟨rfl, rfl, rfl⟩
    draws := fun _ _ => same ⟨rfl, rfl, rfl⟩
    oweCounts := fun _ => hP.oweCounts
    takeCount := fun n _ => hP.takeCount n
    presenceStarts := fun n _ => hP.presenceStarts n
    presenceEnds := fun n _ => hP.presenceEnds n
    button := fun b edge n stamp _ => hP.button b edge n stamp
    seatLost := fun n _ => hP.seatLost n
    alertSample := hP.alertSample
    seatOpen := fun seat _ => hP.seatOpen seat
    seatClose := fun seat _ => hP.seatClose seat
    grant := fun _ => hP.grant
    queueClear := fun _ => hP.queueClear
    floorSet := fun f _ => hP.floorSet f
    priorityOn := fun _ => hP.priorityOn
    priorityOff := fun _ => hP.priorityOff
    putSeat := fun n f _ => hP.putSeat n f
    putIdle := fun f _ => hP.putIdle f
    restartFloor := fun _ => hP.restartFloor
    restartSlots := fun _ => hP.restartSlots
    draft := hP.draft
    input := fun d n s => same (hE.rel_requestInput d n s)
    expireWarm := fun d s => same (sameRoom_expireWarm d s)
    expireCool := fun d s => same (sameRoom_expireCool d s)
    settleEmitter := fun s => same (hE.rel_settleEmitter s)
    runEmitter := fun instant s => same (hE.rel_runEmitter instant s)
    finishTransmission := fun s => same (hE.rel_finishTransmission s)
    presets := fun _ _ => same ⟨rfl, rfl, rfl⟩
    codes := fun _ _ => same ⟨rfl, rfl, rfl⟩
    reach := fun _ _ => same ⟨rfl, rfl, rfl⟩
    passFrame := fun _ => same ⟨rfl, rfl, rfl⟩
    countTimers := fun _ => same ⟨rfl, rfl, rfl⟩
    restartDisplays := fun _ => same ⟨rfl, rfl, rfl⟩
    resetPin := fun lowNs _ => hP.resetPin lowNs }

/-! ### What an append and a bank request leave -/

@[simp] theorem appendWith_time (e : LogEvent) (n : Option Seat) (b : Option Nat) (s : State) :
    (appendWith e n b s).time = s.time := rfl

@[simp] theorem appendWith_links (e : LogEvent) (n : Option Seat) (b : Option Nat) (s : State) :
    (appendWith e n b s).links = s.links := rfl

@[simp] theorem appendWith_audio (e : LogEvent) (n : Option Seat) (b : Option Nat) (s : State) :
    (appendWith e n b s).audio = s.audio := rfl

@[simp] theorem appendWith_seats (e : LogEvent) (n : Option Seat) (b : Option Nat) (s : State) :
    (appendWith e n b s).seats = s.seats := rfl

@[simp] theorem appendWith_seatTable (e : LogEvent) (n : Option Seat) (b : Option Nat) (s : State) :
    (appendWith e n b s).seatTable = s.seatTable := rfl

@[simp] theorem appendWith_floor (e : LogEvent) (n : Option Seat) (b : Option Nat) (s : State) :
    (appendWith e n b s).floor = s.floor := rfl

@[simp] theorem appendWith_alert (e : LogEvent) (n : Option Seat) (b : Option Nat) (s : State) :
    (appendWith e n b s).alert = s.alert := rfl

@[simp] theorem appendWith_mixer (e : LogEvent) (n : Option Seat) (b : Option Nat) (s : State) :
    (appendWith e n b s).mixer = s.mixer := rfl

@[simp] theorem appendWith_gate (e : LogEvent) (n : Option Seat) (b : Option Nat) (s : State) :
    (appendWith e n b s).gate = s.gate := rfl

@[simp] theorem appendWith_screens (e : LogEvent) (n : Option Seat) (b : Option Nat) (s : State) :
    (appendWith e n b s).screens = s.screens := rfl

@[simp] theorem appendWith_displays (e : LogEvent) (n : Option Seat) (b : Option Nat) (s : State) :
    (appendWith e n b s).displays = s.displays := rfl

@[simp] theorem appendWith_clock (e : LogEvent) (n : Option Seat) (b : Option Nat) (s : State) :
    (appendWith e n b s).clock = s.clock := rfl

@[simp] theorem appendWith_sched (e : LogEvent) (n : Option Seat) (b : Option Nat) (s : State) :
    (appendWith e n b s).sched = s.sched := rfl

@[simp] theorem appendWith_port (e : LogEvent) (n : Option Seat) (b : Option Nat) (s : State) :
    (appendWith e n b s).port = s.port := rfl

@[simp] theorem appendWith_sent (e : LogEvent) (n : Option Seat) (b : Option Nat) (s : State) :
    (appendWith e n b s).sent = s.sent := rfl

@[simp] theorem appendWith_due (e : LogEvent) (n : Option Seat) (b : Option Nat) (s : State) :
    (appendWith e n b s).due = s.due := rfl

@[simp] theorem appendWith_draws (e : LogEvent) (n : Option Seat) (b : Option Nat) (s : State) :
    (appendWith e n b s).draws = s.draws := rfl

@[simp] theorem appendWith_pending (e : LogEvent) (n : Option Seat) (b : Option Nat) (s : State) :
    (appendWith e n b s).pending = s.pending := rfl

@[simp] theorem record_time (e : LogEvent) (n : Option Seat) (s : State) :
    (record e n s).time = s.time := rfl

@[simp] theorem record_links (e : LogEvent) (n : Option Seat) (s : State) :
    (record e n s).links = s.links := rfl

@[simp] theorem record_audio (e : LogEvent) (n : Option Seat) (s : State) :
    (record e n s).audio = s.audio := rfl

@[simp] theorem record_seats (e : LogEvent) (n : Option Seat) (s : State) :
    (record e n s).seats = s.seats := rfl

@[simp] theorem record_seatTable (e : LogEvent) (n : Option Seat) (s : State) :
    (record e n s).seatTable = s.seatTable := rfl

@[simp] theorem record_floor (e : LogEvent) (n : Option Seat) (s : State) :
    (record e n s).floor = s.floor := rfl

@[simp] theorem record_alert (e : LogEvent) (n : Option Seat) (s : State) :
    (record e n s).alert = s.alert := rfl

@[simp] theorem record_mixer (e : LogEvent) (n : Option Seat) (s : State) :
    (record e n s).mixer = s.mixer := rfl

@[simp] theorem record_gate (e : LogEvent) (n : Option Seat) (s : State) :
    (record e n s).gate = s.gate := rfl

@[simp] theorem record_screens (e : LogEvent) (n : Option Seat) (s : State) :
    (record e n s).screens = s.screens := rfl

@[simp] theorem record_displays (e : LogEvent) (n : Option Seat) (s : State) :
    (record e n s).displays = s.displays := rfl

@[simp] theorem record_clock (e : LogEvent) (n : Option Seat) (s : State) :
    (record e n s).clock = s.clock := rfl

@[simp] theorem record_sched (e : LogEvent) (n : Option Seat) (s : State) :
    (record e n s).sched = s.sched := rfl

@[simp] theorem record_port (e : LogEvent) (n : Option Seat) (s : State) :
    (record e n s).port = s.port := rfl

@[simp] theorem record_sent (e : LogEvent) (n : Option Seat) (s : State) :
    (record e n s).sent = s.sent := rfl

@[simp] theorem record_due (e : LogEvent) (n : Option Seat) (s : State) :
    (record e n s).due = s.due := rfl

@[simp] theorem record_draws (e : LogEvent) (n : Option Seat) (s : State) :
    (record e n s).draws = s.draws := rfl

@[simp] theorem record_pending (e : LogEvent) (n : Option Seat) (s : State) :
    (record e n s).pending = s.pending := rfl

@[simp] theorem bankRequest_floor (b : Fin 2) (s : State) : (bankRequest b s).floor = s.floor := rfl

/-! ### Auto-advance -/

theorem advanceLaw_of_notRunning {s : State} (h : s.floor.phase ≠ .running) : advanceLaw s := by
  intro _ hfree
  simp [slotFree, h] at hfree

theorem advanceLaw_of_queueNil {s : State} (h : s.floor.queue = []) : advanceLaw s := fun _ _ => h

/-- The law reads the floor but for its holders. -/
theorem advanceLaw_of_parts {s t : State} (hs : advanceLaw s) (hphase : t.floor.phase = s.floor.phase)
    (hsetup : t.floor.setup = s.floor.setup) (hqueue : t.floor.queue = s.floor.queue)
    (hdelegates : delegates t.floor = delegates s.floor) : advanceLaw t := by
  unfold advanceLaw slotFree at *; rw [hphase, hsetup, hqueue, hdelegates]; exact hs

theorem advanceLaw_holdEnd (s : State) : advanceLaw (holdEnd s) := by
  unfold holdEnd; exact advanceLaw_afterFloor _

theorem advanceLaw_meetingSignal (next : Meeting) (f : FloorSetup) (s : State) : advanceLaw (meetingSignal next f s) :=
  advanceLaw_afterFloor _

theorem meetingStart_floor (k : SlotNo) (f : Fixed) (c : StartCause) (s : State) :
    (meetingStart k f c s).floor = (meetingSignal (.booking k f.id f.chair) f.setup s).floor := by
  simp [meetingStart]

theorem meetingEnd_floor (f : Fixed) (c : EndCause) (s : State) : (meetingEnd f c s).floor =
    (meetingSignal (followingMeeting s.sched.idle) s.sched.idle.setup s).floor := by
  simp [meetingEnd]

/-- What an accepted PUT to the Idle Setup does to the floor while no booking is current (R181). -/
theorem idleEffect_floor (old new : IdleSetup) {s : State} (h : bookingCurrent s.floor.meeting = false) :
    (idleEffect old new s).floor =
      if old.enabled then
        if new.enabled then (idleSetupChange new.setup s).floor else (meetingSignal .none new.setup s).floor
      else if new.enabled then (meetingSignal .idle new.setup s).floor else s.floor := by
  unfold idleEffect; rw [h]
  cases old.enabled <;> cases new.enabled <;> simp
  split <;> simp

theorem advanceLaw_setupChange (f : FloorSetup) (s : State) : advanceLaw (setupChange f s) :=
  advanceLaw_afterFloor _

theorem advanceLaw_alertEntry (s : State) : advanceLaw (alertEntry s) := by
  refine advanceLaw_of_notRunning ?_
  have : (alertEntry s).floor.phase = .alert := by
    unfold alertEntry; rw [restFilters_floor]; rfl
  rw [this]; decide

theorem advanceLaw_stateRefused (n : Seat) {s : State} (h : advanceLaw s) : advanceLaw (stateRefused n s).state := by
  unfold stateRefused; dsimp only; split
  · exact advanceLaw_of_floor rfl h
  · exact h

theorem advanceLaw_openDelegate (n : Seat) {s : State} (h : advanceLaw s) : advanceLaw (openDelegate n s).state := by
  have slot : advanceLaw
      (if slotFree s.floor then done (afterFloor (joinOpen .command n s)) else stateRefused n s).state := by
    split
    · exact advanceLaw_afterFloor _
    · exact advanceLaw_stateRefused n h
  unfold openDelegate; split
  · exact slot
  · exact slot
  · exact advanceLaw_afterFloor _
  · split
    · exact h
    · exact advanceLaw_afterFloor _

theorem advanceLaw_openSeat (n : Seat) {s : State} (h : advanceLaw s) : advanceLaw (openSeat n s).state := by
  unfold openSeat; split
  · exact advanceLaw_stateRefused n h
  · split
    · exact h
    · split
      · exact advanceLaw_stateRefused n h
      · split
        · exact h
        · exact advanceLaw_afterFloor _
      · split
        · exact h
        · split
          · exact advanceLaw_stateRefused n h
          · exact advanceLaw_openDelegate n h

theorem advanceLaw_idleEffect (old new : IdleSetup) {s : State} (h : advanceLaw s) :
    advanceLaw (idleEffect old new s) := by
  have change : advanceLaw (idleSetupChange new.setup s) := by
    unfold idleSetupChange; split
    · next halert =>
      refine advanceLaw_of_notRunning ?_
      show s.floor.phase ≠ .running
      rw [halert]; decide
    · exact advanceLaw_setupChange _ s
  by_cases hcur : bookingCurrent s.floor.meeting = true
  · unfold idleEffect; rw [if_pos hcur]; exact h
  · have hfloor := idleEffect_floor old new (Bool.eq_false_iff.2 hcur)
    split at hfloor <;> split at hfloor
    · exact advanceLaw_of_floor hfloor change
    · exact advanceLaw_of_floor hfloor (advanceLaw_meetingSignal _ _ s)
    · exact advanceLaw_of_floor hfloor (advanceLaw_meetingSignal _ _ s)
    · exact advanceLaw_of_floor hfloor h

theorem roomKept_advanceLaw : RoomKept advanceLaw where
  room h := advanceLaw_of_floor h.floor
  starts k c f s _ _ := advanceLaw_of_floor (meetingStart_floor k f c s) (advanceLaw_meetingSignal _ _ s)
  ends f c s _ := advanceLaw_of_floor (meetingEnd_floor f c s) (advanceLaw_meetingSignal _ _ s)
  slot _ _ _ _ := advanceLaw_of_floor rfl
  oweCounts {s} hs := by
    refine advanceLaw_of_parts hs rfl rfl rfl ?_
    rw [delegates_eq_keys, delegates_eq_keys]
    show ((s.floor.openList.map _).map entryKey |>.filter _).length = _
    rw [entryKey_map_timer (f := fun e => { e with timer := oweCount e.timer }) fun _ => rfl]
  takeCount n s hs := by
    unfold takeCount; split
    · split
      · exact advanceLaw_afterFloor _
      · exact hs
    · exact hs
  presenceStarts n s hs := by
    unfold presenceStarts; split
    · exact advanceLaw_afterFloor _
    · exact hs
  presenceEnds n s hs := by
    unfold presenceEnds; split
    · exact advanceLaw_afterFloor _
    · exact hs
  button _ _ _ _ _ _ := advanceLaw_afterFloor _
  seatLost _ _ _ := advanceLaw_afterFloor _
  alertSample := by
    intro level s t h hs
    cases h
    split
    · split
      · exact advanceLaw_alertEntry _
      · exact advanceLaw_afterFloor _
    · exact advanceLaw_of_floor rfl hs
  seatOpen seat s hs := by
    unfold seatOpenReply; split
    · exact advanceLaw_openSeat _ hs
    · exact hs
  seatClose seat s hs := by
    unfold seatCloseReply; split
    · exact advanceLaw_afterFloor _
    · exact hs
  grant {s} hs := by
    unfold grantReply; split
    · exact advanceLaw_afterFloor _
    · exact hs
  queueClear _ := advanceLaw_afterFloor _
  floorSet f s hs := by
    unfold floorSetReply; split
    · exact hs
    · split
      · exact advanceLaw_setupChange _ s
      · exact hs
  priorityOn {s} hs := by
    unfold priorityOnReply; split
    · refine advanceLaw_of_notRunning (s := holdStart none (remoteJoins s)) fun h => ?_
      cases (show FloorState.hold = .running from h)
    · exact advanceLaw_of_parts hs rfl rfl rfl rfl
    · exact hs
    · exact hs
  priorityOff {s} hs := by
    unfold priorityOffReply; split
    · dsimp only [done]; unfold endHoldIfFree; split
      · exact advanceLaw_holdEnd _
      · exact advanceLaw_of_parts hs rfl rfl rfl rfl
    · exact hs
  putSeat n f s hs := by
    have keep : ∀ e, advanceLaw (keepRole n e s) := by
      intro e; unfold keepRole; dsimp only; split
      · exact advanceLaw_of_floor rfl hs
      · split
        · exact advanceLaw_afterFloor _
        · exact advanceLaw_of_floor rfl hs
    unfold putSeatStore; split
    · exact hs
    · split
      · exact hs
      · split
        · exact keep _
        · exact advanceLaw_afterFloor _
  putIdle f s hs := by
    unfold putIdleStore; split
    · exact advanceLaw_idleEffect _ _ (advanceLaw_of_floor rfl hs)
    · exact hs
  restartFloor _ := advanceLaw_of_queueNil rfl
  restartSlots := advanceLaw_of_floor rfl
  draft _ _ _ _ _ _ := advanceLaw_of_floor rfl
  resetPin lowNs s hs := by
    unfold resetPin; split
    · exact advanceLaw_of_queueNil rfl
    · exact hs

/-- Settles O7: every floor event ends with the law, and the other rows leave what it reads. -/
theorem advanceLawKept : Obligations.AdvanceLawKept :=
  step_keeps (fun _ _ => id) fun _ _ _ hs h => roomKept_advanceLaw.rowClosed.exec_rel h hs

end Sys2Proof.Machine
end

section
/-!
PROOFS. EVERY STEP KEEPS THE LAWS OF THE FLOOR (R26, R31, R32, R56, R59, R62, R67, R68). Taking seats off the floor
keeps them (`Shrinks`); a seat joins only with the floor live, and a delegate only in a free slot.
-/

namespace Sys2Proof.Machine

/-! ### The laws, one by one -/

/-- The laws of the floor but the bound on delegates (R31), which a new Floor Setup restores last. -/
structure FloorRules (s : State) : Prop where
  hold : s.floor.phase = .hold ↔ holdersSome s.floor = true
  shadow : s.floor.phase ≠ .hold → s.floor.shadow = []
  empty : s.floor.phase = .closed ∨ s.floor.phase = .alert →
    s.floor.openList = [] ∧ s.floor.queue = [] ∧ s.floor.armed = []
  alert : s.floor.phase = .alert ↔ s.alert.level = true
  closed : s.floor.phase = .closed → s.floor.meeting = .none
  meets : s.floor.phase = .running ∨ s.floor.phase = .hold → s.floor.meeting ≠ .none
  quiet : s.floor.phase = .hold → delegates s.floor = 0
  queue : s.floor.queue.length ≤ 24
  setups : setupsLaw s

/-- Never more delegates than max open (R31). -/
def withinMax (s : State) : Prop := delegates s.floor ≤ s.floor.setup.maxOpen

theorem floorLaw_iff {s : State} : floorLaw s ↔ FloorRules s ∧ withinMax s := by
  constructor
  · rintro ⟨h1, h2, h3, h4, h5, h6, h7, h8, h9, h10⟩
    exact ⟨⟨h1, h2, h3, h4, h5, h6, h7, h9, h10⟩, h8⟩
  · rintro ⟨⟨h1, h2, h3, h4, h5, h6, h7, h9, h10⟩, h8⟩
    exact ⟨h1, h2, h3, h4, h5, h6, h7, h8, h9, h10⟩

/-- Seats can join the Open List. -/
def live (s : State) : Prop := s.floor.phase = .running ∨ s.floor.phase = .hold

theorem slotFree_iff {f : Floor} : slotFree f = true ↔ f.phase = .running ∧ delegates f < f.setup.maxOpen := by
  simp [slotFree]

theorem live_of_slotFree {s : State} (h : slotFree s.floor = true) : live s := Or.inl (slotFree_iff.mp h).1

theorem live_of_not {s : State} (h : ¬ (s.floor.phase = .closed ∨ s.floor.phase = .alert)) : live s := by
  unfold live; cases hp : s.floor.phase <;> simp_all

theorem not_live_of {s : State} (h : live s) : ¬ (s.floor.phase = .closed ∨ s.floor.phase = .alert) := by
  rcases h with h | h <;> simp [h]

/-! ### Taking seats off the floor -/

theorem Shrinks.delegates_zero {s t : State} (h : Shrinks s t) (hs : delegates s.floor = 0) : delegates t.floor = 0 :=
  Nat.le_zero.mp (hs ▸ h.delegates_le)

theorem Shrinks.holdersSome_eq {s t : State} (h : Shrinks s t) : holdersSome t.floor = holdersSome s.floor := by
  unfold holdersSome; rw [h.holders, h.remote]

theorem Shrinks.live {s t : State} (h : Shrinks s t) (hs : live s) : live t := by
  unfold Machine.live; rw [h.phase]; exact hs

theorem setupsLaw_of {s t : State} (hs : setupsLaw s) (hf : setupFits t.floor.setup = true)
    (ht : t.sched = s.sched) : setupsLaw t := by
  obtain ⟨-, hidle, hslots⟩ := hs
  unfold setupsLaw; rw [ht]; exact ⟨hf, hidle, hslots⟩

theorem FloorRules.of_shrinks {s t : State} (hs : FloorRules s) (h : Shrinks s t) : FloorRules t where
  hold := by rw [h.phase, h.holdersSome_eq]; exact hs.hold
  shadow hp := h.shadow_nil (hs.shadow (h.phase ▸ hp))
  empty hp := by
    obtain ⟨ho, hq, ha⟩ := hs.empty (h.phase ▸ hp)
    exact ⟨h.openList_nil ho, List.sublist_nil.mp (hq ▸ h.queue), List.sublist_nil.mp (ha ▸ h.armed)⟩
  alert := by rw [h.phase, h.alert]; exact hs.alert
  closed hp := by rw [h.meeting]; exact hs.closed (h.phase ▸ hp)
  meets hp := by rw [h.meeting]; exact hs.meets (h.phase ▸ hp)
  quiet hp := h.delegates_zero (hs.quiet (h.phase ▸ hp))
  queue := Nat.le_trans h.queue.length_le hs.queue
  setups := setupsLaw_of hs.setups (h.setup ▸ hs.setups.1) h.sched

theorem withinMax_of_shrinks {s t : State} (hs : withinMax s) (h : Shrinks s t) : withinMax t := by
  unfold withinMax; rw [h.setup]; exact Nat.le_trans h.delegates_le hs

theorem floorLaw_of_shrinks {s t : State} (h : Shrinks s t) (hs : floorLaw s) : floorLaw t := by
  rw [floorLaw_iff] at *
  exact ⟨hs.1.of_shrinks h, withinMax_of_shrinks hs.2 h⟩

theorem shrinks_of_sameRoom {s t : State} (h : SameRoom s t) : Shrinks s t := .of_same h.floor h.sched h.alert

/-! ### Joining -/

/-- Another Open List and arming with the floor live, as long as no delegate opens in HOLD. -/
theorem FloorRules.of_live {s t : State} (hs : FloorRules s) (hl : live s) (hphase : t.floor.phase = s.floor.phase)
    (hmeeting : t.floor.meeting = s.floor.meeting) (hholders : holdersSome t.floor = holdersSome s.floor)
    (hsetup : t.floor.setup = s.floor.setup) (hshadow : t.floor.shadow = s.floor.shadow)
    (hqueue : t.floor.queue.length ≤ 24) (hquiet : s.floor.phase = .hold → delegates t.floor = 0)
    (hsched : t.sched = s.sched) (halert : t.alert = s.alert) : FloorRules t where
  hold := by rw [hphase, hholders]; exact hs.hold
  shadow hp := by rw [hshadow]; exact hs.shadow (hphase ▸ hp)
  empty hp := absurd (hphase ▸ hp) (not_live_of hl)
  alert := by rw [hphase, halert]; exact hs.alert
  closed hp := absurd (Or.inl (hphase ▸ hp)) (not_live_of hl)
  meets _ := by rw [hmeeting]; exact hs.meets hl
  quiet hp := hquiet (hphase ▸ hp)
  queue := hqueue
  setups := setupsLaw_of hs.setups (hsetup ▸ hs.setups.1) hsched

theorem floorLaw_joinOpen {how : How} {n : Seat} {s : State} (hs : floorLaw s) (hl : live s)
    (hroom : effectiveRole s n = .chair ∨ slotFree s.floor = true) : floorLaw (joinOpen how n s) := by
  refine floorLaw_of_shrinks (joinOpen_shrinks how n s) ?_
  obtain ⟨hr, hmax⟩ := floorLaw_iff.mp hs
  have hd := delegates_withOpened how n s
  refine floorLaw_iff.mpr ⟨hr.of_live hl rfl rfl rfl rfl rfl ?_ ?_ rfl rfl, ?_⟩
  · exact Nat.le_trans List.filter_sublist.length_le hr.queue
  · intro hp
    obtain hc | hf := hroom
    · rw [hd, if_pos hc, hr.quiet hp]
    · rw [(slotFree_iff.mp hf).1] at hp; cases hp
  · show delegates (withOpened how n s).floor ≤ s.floor.setup.maxOpen
    rw [hd]
    obtain hc | hf := hroom
    · rw [if_pos hc]; exact hmax
    · have := (slotFree_iff.mp hf).2
      split <;> omega

theorem floorLaw_joinOpen_free {how : How} {n : Seat} {s : State} (hs : floorLaw s) (hf : slotFree s.floor = true) :
    floorLaw (joinOpen how n s) :=
  floorLaw_joinOpen hs (live_of_slotFree hf) (Or.inr hf)

theorem floorLaw_afterFloor {s : State} (hs : floorLaw s) : floorLaw (afterFloor s) := by
  refine floorLaw_of_shrinks (shrinks_restFilters _) (advanceUpTo_keeps (fun s t h ht => ?_) _ s hs)
  obtain ⟨hf, ⟨r, l, -, rfl⟩ | ⟨-, n, rfl⟩⟩ := advanceOnce_cases ht
  · exact floorLaw_joinOpen_free h hf
  · exact floorLaw_joinOpen_free h hf

theorem floorLaw_arm {n : Seat} {s : State} (hs : floorLaw s) (hl : live s) : floorLaw (arm n s) := by
  obtain ⟨hr, hmax⟩ := floorLaw_iff.mp hs
  exact floorLaw_iff.mpr ⟨hr.of_live hl rfl rfl rfl rfl rfl hr.queue hr.quiet rfl rfl, hmax⟩

theorem closeVoiceHold_phase (n : Seat) (s : State) : (closeVoiceHold n s).floor.phase = s.floor.phase := by
  unfold closeVoiceHold; split <;> rfl

theorem floorLaw_closeVoiceHold {n : Seat} {s : State} (hs : floorLaw s) (hl : live s) :
    floorLaw (closeVoiceHold n s) := by
  unfold closeVoiceHold; split
  · have hd := floorLaw_of_shrinks (shrinks_dropSeat n s) hs
    exact floorLaw_of_shrinks (shrinks_record _ _ _) (floorLaw_arm (n := n) hd hl)
  · exact hs

theorem length_insertRequest (now : Stamp) (r : Request) (l : List Request) :
    (insertRequest now r l).length = l.length + 1 := by
  induction l with
  | nil => rfl
  | cons e l ih => unfold insertRequest; split <;> simp [ih]

theorem floorLaw_pressQueue {n : Seat} {stamp : Stamp} {s : State} (hs : floorLaw s) (hl : live s) :
    floorLaw (pressQueue n stamp s) := by
  obtain ⟨hr, hmax⟩ := floorLaw_iff.mp hs
  unfold pressQueue; split
  · next hroom =>
    refine floorLaw_iff.mpr ⟨hr.of_live hl rfl rfl rfl rfl rfl ?_ hr.quiet rfl rfl, hmax⟩
    show (insertRequest _ _ s.floor.queue).length ≤ 24
    rw [length_insertRequest]; exact hroom
  · exact floorLaw_of_shrinks (shrinks_refuse n s) hs

/-! ### Closing delegates -/

/-- Of a list of entries, those whose seat is not among the first `k` seats are no more than the entries behind. -/
theorem length_filter_notFirst (l : List Entry) (k : Nat) :
    (l.filter (fun e => !((seatsOf l).take k).contains e.seat)).length ≤ l.length - k := by
  have hfirst : (l.take k).filter (fun e => !((seatsOf l).take k).contains e.seat) = [] := by
    rw [List.filter_eq_nil_iff]
    intro e he
    have : e.seat ∈ (seatsOf l).take k := by
      rw [seatsOf, ← List.map_take]; exact List.mem_map_of_mem he
    simpa using this
  calc (l.filter (fun e => !((seatsOf l).take k).contains e.seat)).length
      = ((l.take k ++ l.drop k).filter (fun e => !((seatsOf l).take k).contains e.seat)).length := by
        rw [List.take_append_drop]
    _ = ((l.drop k).filter (fun e => !((seatsOf l).take k).contains e.seat)).length := by
        rw [List.filter_append, hfirst, List.nil_append]
    _ ≤ (l.drop k).length := List.length_filter_le _ _
    _ = l.length - k := List.length_drop

/-- Closing the oldest `k` delegates leaves at least `k` delegates fewer (R37, R49). -/
theorem delegates_closeFirst (r : CloseReason) (k : Nat) (s : State) :
    delegates (closeOpenSeats r ((delegateSeats s.floor).take k) s).floor ≤ delegates s.floor - k := by
  rw [closeOpenSeats_floor]
  show ((s.floor.openList.filter _).filter _).length ≤ _
  rw [List.filter_comm]
  exact length_filter_notFirst _ k

theorem delegates_closeDelegates (r : CloseReason) (s : State) :
    delegates (closeOpenSeats r (delegateSeats s.floor) s).floor = 0 := by
  have h := delegates_closeFirst r (delegates s.floor) s
  have hall : (delegateSeats s.floor).take (delegates s.floor) = delegateSeats s.floor :=
    List.take_of_length_le (by simp [delegateSeats, seatsOf, delegates])
  rw [hall, Nat.sub_self] at h
  exact Nat.le_zero.mp h

theorem floorLaw_overrideOpen {how : How} {n : Seat} {s : State} (hs : floorLaw s) (hp : s.floor.phase = .running) :
    floorLaw (overrideOpen how n s) := by
  obtain ⟨hr, hmax⟩ := floorLaw_iff.mp hs
  have hfits := hr.setups.1
  simp only [setupFits, Bool.and_eq_true, decide_eq_true_eq] at hfits
  unfold overrideOpen; dsimp only; split
  · next hfull =>
    have hsh := shrinks_closeOpenSeats .overridden ((delegateSeats s.floor).take 1) s
    have hd := delegates_closeFirst .overridden 1 s
    refine floorLaw_joinOpen_free (floorLaw_of_shrinks hsh hs) (slotFree_iff.mpr ⟨hsh.phase ▸ hp, ?_⟩)
    rw [hsh.setup]; omega
  · next hfree =>
    refine floorLaw_joinOpen_free hs (slotFree_iff.mpr ⟨hp, ?_⟩)
    unfold withinMax at hmax; omega

/-! ### Holds -/

theorem holdersSome_insertSeat (n : Seat) (f : Floor) :
    holdersSome { f with holders := insertSeat n f.holders } = true := by
  have : insertSeat n f.holders ≠ [] := by
    cases f.holders with
    | nil => simp [insertSeat]
    | cons m l => unfold insertSeat; split <;> [simp; (split <;> simp)]
  simp [holdersSome, this]

/-- A hold with a holder, on a floor RUNNING (R58). -/
theorem floorLaw_holdStart {seat : Option Seat} {s : State} {l : List Seat} {r : Bool} (hs : floorLaw s)
    (hp : s.floor.phase = .running) (hsome : holdersSome { s.floor with holders := l, remote := r } = true) :
    floorLaw (holdStart seat (s.withFloor { s.floor with holders := l, remote := r })) := by
  obtain ⟨hr, hmax⟩ := floorLaw_iff.mp hs
  have hd : delegates (holdStart seat (s.withFloor { s.floor with holders := l, remote := r })).floor = 0 := by
    show ((s.floor.openList.filter _).filter _).length = 0
    simp [List.filter_filter]
  have hphase : (holdStart seat (s.withFloor { s.floor with holders := l, remote := r })).floor.phase = .hold := rfl
  refine floorLaw_iff.mpr ⟨⟨⟨fun _ => hsome, fun _ => rfl⟩, fun h => absurd hphase h, ?_, ?_, ?_,
    fun _ => hr.meets (Or.inl hp), fun _ => hd, hr.queue, setupsLaw_of hr.setups hr.setups.1 rfl⟩, ?_⟩
  · rw [hphase]; rintro (h | h) <;> cases h
  · rw [hphase]
    show _ ↔ s.alert.level = true
    rw [← hr.alert, hp]; exact ⟨nofun, nofun⟩
  · rw [hphase]; exact nofun
  · unfold withinMax; rw [hd]; exact Nat.zero_le _

/-- Other holders, but still at least one, in HOLD; or still none. -/
theorem floorLaw_withHolders {s : State} {l : List Seat} {r : Bool} (hs : floorLaw s)
    (hsame : holdersSome { s.floor with holders := l, remote := r } = holdersSome s.floor) :
    floorLaw (s.withFloor { s.floor with holders := l, remote := r }) := by
  obtain ⟨hr, hmax⟩ := floorLaw_iff.mp hs
  exact floorLaw_iff.mpr ⟨{ hr with hold := ⟨fun h => hsame ▸ hr.hold.mp h, fun h => hr.hold.mpr (hsame ▸ h)⟩,
                                    setups := setupsLaw_of hr.setups hr.setups.1 rfl }, hmax⟩

/-- The restored entries behind the Open List; they have left the Hold Shadow (R63, step 1). -/
theorem restoreEntries_floor (l : List Entry) (s : State) :
    (l.foldl restoreEntry s).floor =
      { s.floor with openList := s.floor.openList ++ l.map resumeEntry
                     shadow := s.floor.shadow.filter (fun e => !(seatsOf l).contains e.seat) } := by
  induction l generalizing s with
  | nil => simp [seatsOf]
  | cons e l ih =>
    rw [List.foldl_cons, ih]
    have hstep : (restoreEntry s e).floor =
        { s.floor with
          shadow := dropSeat e.seat s.floor.shadow, openList := s.floor.openList ++ [resumeEntry e] } := rfl
    rw [hstep]
    simp only [dropSeat, List.filter_filter, List.map_cons, List.append_assoc, List.singleton_append, seatsOf,
      List.contains_cons, Floor.mk.injEq, true_and]
    refine ⟨List.filter_congr fun x _ => ?_, trivial⟩
    by_cases hx : x.seat = e.seat <;> simp [hx]

theorem restoreEntries_frame (l : List Entry) (s : State) :
    (l.foldl restoreEntry s).sched = s.sched ∧ (l.foldl restoreEntry s).alert = s.alert := by
  induction l generalizing s with
  | nil => exact ⟨rfl, rfl⟩
  | cons e l ih => rw [List.foldl_cons]; exact ih _

/-- The floor when HOLD_END is appended (R63, steps 1 to 3). -/
def restored (s : State) : State :=
  let room := s.floor.setup.maxOpen - delegates s.floor
  let t := closeShadowSeats .restoreFull (seatsOf (s.floor.shadow.drop room))
    ((s.floor.shadow.take room).foldl restoreEntry s)
  t.withFloor { t.floor with phase := .running }

theorem restored_floor (s : State) :
    (restored s).floor =
      { s.floor with
        openList := s.floor.openList ++
          (s.floor.shadow.take (s.floor.setup.maxOpen - delegates s.floor)).map resumeEntry
        shadow := []
        phase := .running } := by
  show ({ (closeShadowSeats _ _ _).floor with phase := .running } : Floor) = _
  rw [closeShadowSeats_floor, restoreEntries_floor]
  simp only [Floor.mk.injEq, true_and, and_true, List.filter_filter]
  rw [List.filter_eq_nil_iff]
  intro e he
  rw [← List.take_append_drop (s.floor.setup.maxOpen - delegates s.floor) s.floor.shadow, List.mem_append] at he
  rcases he with he | he
  · have : (seatsOf (s.floor.shadow.take (s.floor.setup.maxOpen - delegates s.floor))).contains e.seat = true := by
      rw [List.contains_iff_mem]; exact List.mem_map_of_mem he
    rw [this]; simp
  · have : (seatsOf (s.floor.shadow.drop (s.floor.setup.maxOpen - delegates s.floor))).contains e.seat = true := by
      rw [List.contains_iff_mem]; exact List.mem_map_of_mem he
    rw [this]; simp

theorem sameRoomBut_closeShadowSeats (r : CloseReason) (l : List Seat) (s : State) :
    (closeShadowSeats r l s).sched = s.sched ∧ (closeShadowSeats r l s).alert = s.alert :=
  ⟨(shrinks_closeShadowSeats r l s).sched, (shrinks_closeShadowSeats r l s).alert⟩

theorem restored_frame (s : State) : (restored s).sched = s.sched ∧ (restored s).alert = s.alert := by
  obtain ⟨h1, h2⟩ := sameRoomBut_closeShadowSeats .restoreFull
    (seatsOf (s.floor.shadow.drop (s.floor.setup.maxOpen - delegates s.floor)))
    ((s.floor.shadow.take (s.floor.setup.maxOpen - delegates s.floor)).foldl restoreEntry s)
  obtain ⟨k1, k2⟩ := restoreEntries_frame (s.floor.shadow.take (s.floor.setup.maxOpen - delegates s.floor)) s
  exact ⟨h1.trans k1, h2.trans k2⟩

/-- The hold end in terms of the restored floor. -/
theorem holdEnd_eq (s : State) :
    holdEnd s =
      afterFloor
        (let back := seatsOf (s.floor.shadow.take (s.floor.setup.maxOpen - delegates s.floor))
         let t := checkTimers back
          (record (.holdEnd (s.floor.shadow.take (s.floor.setup.maxOpen - delegates s.floor)).length) none (restored s))
         if t.floor.setup.mode = .voice then back.foldl voiceCheck t else t) := rfl

theorem delegates_restored (s : State) (hmax : withinMax s) :
    delegates (restored s).floor ≤ s.floor.setup.maxOpen := by
  have hle : delegates (restored s).floor ≤ delegates s.floor + (s.floor.setup.maxOpen - delegates s.floor) := by
    rw [restored_floor]
    show ((s.floor.openList ++ _).filter _).length ≤ _
    rw [List.filter_append, List.length_append]
    refine Nat.add_le_add_left (Nat.le_trans (List.length_filter_le _ _) ?_) _
    rw [List.length_map]; exact List.length_take_le _ _
  unfold withinMax at hmax; omega

/-- In HOLD without a holder left, the hold end brings the laws back (R63). -/
theorem floorLaw_holdEnd {s : State} (hq : s.floor.queue.length ≤ 24) (hsetups : setupsLaw s) (hmax : withinMax s)
    (hm : s.floor.meeting ≠ .none) (halert : s.alert.level = false) (hnone : holdersSome s.floor = false) :
    floorLaw (holdEnd s) := by
  obtain ⟨hsched, hlevel⟩ := restored_frame s
  have hrestored : floorLaw (restored s) := by
    refine floorLaw_iff.mpr ⟨⟨?_, ?_, ?_, ?_, ?_, ?_, ?_, ?_, ?_⟩, ?_⟩
    case refine_9 => exact setupsLaw_of hsetups (by rw [restored_floor]; exact hsetups.1) hsched
    case refine_10 => unfold withinMax; refine Nat.le_trans (delegates_restored s hmax) ?_; rw [restored_floor]
    all_goals rw [restored_floor]
    · simpa [holdersSome] using hnone
    · exact fun _ => rfl
    · simp
    · simp [hlevel, halert]
    · simp
    · exact fun _ => hm
    · simp
    · exact hq
  rw [holdEnd_eq]
  refine floorLaw_afterFloor ?_
  dsimp only
  generalize hback : seatsOf (s.floor.shadow.take (s.floor.setup.maxOpen - delegates s.floor)) = back
  have hsh := (shrinks_record (.holdEnd (s.floor.shadow.take (s.floor.setup.maxOpen - delegates s.floor)).length) none
    (restored s)).trans (shrinks_checkTimers back _)
  have hchecked := floorLaw_of_shrinks hsh hrestored
  have hphase : (restored s).floor.phase = .running := by rw [restored_floor]
  split
  · refine (List.foldlRecOn (motive := fun t => floorLaw t ∧ live t) back voiceCheck
      ⟨hchecked, hsh.live (Or.inl hphase)⟩ fun t ht n _ => ?_).1
    unfold voiceCheck; split
    · exact ht
    · exact ⟨floorLaw_closeVoiceHold ht.1 ht.2, by unfold live; rw [closeVoiceHold_phase]; exact ht.2⟩
  · exact hchecked

/-- Holders leave: with none left the hold ends (R56, R60). -/
theorem floorLaw_endHoldIfFree {s : State} {l : List Seat} {r : Bool} (hs : floorLaw s)
    (hfewer : holdersSome { s.floor with holders := l, remote := r } = true → holdersSome s.floor = true) :
    floorLaw (endHoldIfFree (s.withFloor { s.floor with holders := l, remote := r })) := by
  obtain ⟨hr, hmax⟩ := floorLaw_iff.mp hs
  unfold endHoldIfFree; split
  · next h =>
    obtain ⟨hp, hnone⟩ := h
    have hp' : s.floor.phase = .hold := hp
    refine floorLaw_holdEnd hr.queue (setupsLaw_of hr.setups hr.setups.1 rfl) hmax (hr.meets (Or.inr hp')) ?_ hnone
    have := hr.alert
    rw [hp'] at this
    exact Bool.eq_false_iff.mpr fun h => nomatch this.mpr h
  · next h =>
    refine floorLaw_withHolders hs ?_
    by_cases hold : s.floor.phase = .hold
    · have hsome : holdersSome { s.floor with holders := l, remote := r } ≠ false := fun hn => h ⟨hold, hn⟩
      rw [hr.hold.mp hold]; exact Bool.eq_true_of_not_eq_false hsome
    · have hnone : holdersSome s.floor ≠ true := fun h => hold (hr.hold.mpr h)
      rw [Bool.eq_false_iff.mpr hnone]
      exact Bool.eq_false_iff.mpr fun h => hnone (hfewer h)

theorem floorLaw_leaveHolders {n : Seat} {s : State} (hs : floorLaw s) : floorLaw (leaveHolders n s) := by
  unfold leaveHolders; split
  · next hmem =>
    refine floorLaw_endHoldIfFree hs fun _ => ?_
    have : s.floor.holders ≠ [] := fun h => by rw [h] at hmem; cases hmem
    simp [holdersSome, this]
  · exact hs

/-! ### Button events -/

theorem floorLaw_grant {s t : State} (hs : floorLaw s) (h : grant s = some t) : floorLaw t := by
  unfold grant at h
  split at h
  · next hf =>
    obtain ⟨r, -, rfl⟩ := Option.map_eq_some_iff.mp h
    exact floorLaw_joinOpen_free hs hf
  · cases h

theorem floorLaw_delegatePress {n : Seat} {stamp : Stamp} {s : State} (hs : floorLaw s)
    (hp : s.floor.phase = .running) : floorLaw (delegatePress n stamp s) := by
  unfold delegatePress; split
  · split
    · next hf => exact floorLaw_joinOpen_free hs hf
    · exact floorLaw_pressQueue hs (Or.inl hp)
  · exact floorLaw_of_shrinks (shrinks_leaveQueue _ n s) hs
  · exact floorLaw_of_shrinks (shrinks_closeOpen _ n s) hs
  · exact floorLaw_pressQueue hs (Or.inl hp)
  · exact floorLaw_of_shrinks (shrinks_leaveQueue _ n s) hs
  · exact floorLaw_of_shrinks (shrinks_closeOpen _ n s) hs
  · exact floorLaw_overrideOpen hs hp
  · exact floorLaw_of_shrinks (shrinks_closeOpen _ n s) hs
  · exact floorLaw_arm hs (Or.inl hp)
  · exact floorLaw_of_shrinks (shrinks_disarm n s) hs
  · exact floorLaw_of_shrinks (shrinks_closeOpen _ n s) hs
  · exact hs

theorem floorLaw_delegatePressHold {n : Seat} {stamp : Stamp} {s : State} (hs : floorLaw s)
    (hp : s.floor.phase = .hold) : floorLaw (delegatePressHold n stamp s) := by
  unfold delegatePressHold; split
  · exact floorLaw_pressQueue hs (Or.inr hp)
  · exact floorLaw_pressQueue hs (Or.inr hp)
  · exact floorLaw_of_shrinks (shrinks_refuse n s) hs
  · exact floorLaw_of_shrinks (shrinks_refuse n s) hs
  · exact floorLaw_of_shrinks (shrinks_leaveQueue _ n s) hs
  · exact floorLaw_of_shrinks (shrinks_leaveQueue _ n s) hs
  · exact floorLaw_of_shrinks (shrinks_disarm n s) hs
  · exact floorLaw_of_shrinks (shrinks_closeShadow _ n s) hs
  · exact hs

theorem floorLaw_chairPress {n : Seat} {s : State} (hs : floorLaw s) (hl : live s)
    (hchair : effectiveRole s n = .chair) : floorLaw (chairPress n s) := by
  unfold chairPress; split
  · exact floorLaw_of_shrinks (shrinks_closeOpen _ n s) hs
  · exact floorLaw_joinOpen hs hl (Or.inl hchair)

theorem floorLaw_priorityPress {n : Seat} {s : State} (hs : floorLaw s) (hl : live s) :
    floorLaw (priorityPress n s) := by
  have hsome := holdersSome_insertSeat n s.floor
  unfold priorityPress; dsimp only; split
  · next hp => exact floorLaw_holdStart (r := s.floor.remote) hs hp hsome
  · next hp =>
    have hhold : s.floor.phase = .hold := hl.resolve_left hp
    refine floorLaw_withHolders (r := s.floor.remote) hs ?_
    exact hsome.trans ((floorLaw_iff.mp hs).1.hold.mp hhold).symm

theorem floorLaw_pressEffect {b : ButtonName} {n : Seat} {stamp : Stamp} {s : State} (hs : floorLaw s) :
    floorLaw (pressEffect b n stamp s) := by
  have refused : floorLaw (refuse n s) := floorLaw_of_shrinks (shrinks_refuse n s) hs
  unfold pressEffect; split
  · exact refused
  · exact refused
  · next hp =>
    unfold pressRunning; split
    · exact floorLaw_delegatePress hs hp
    · next hchair => exact floorLaw_chairPress hs (Or.inl hp) hchair
    · cases hg : grant s with
      | none => exact refused
      | some t => exact floorLaw_grant hs hg
    · exact floorLaw_priorityPress hs (Or.inl hp)
    · exact refused
  · next hp =>
    unfold pressHold; split
    · exact floorLaw_delegatePressHold hs hp
    · next hchair => exact floorLaw_chairPress hs (Or.inr hp) hchair
    · exact floorLaw_priorityPress hs (Or.inr hp)
    · exact refused

theorem floorLaw_buttonEvent {b : ButtonName} {edge : Bool} {n : Seat} {stamp : Stamp} {s : State} (hs : floorLaw s) :
    floorLaw (buttonEvent b edge n stamp s) := by
  refine floorLaw_afterFloor ?_
  split
  · exact floorLaw_pressEffect hs
  · unfold releaseEffect; split
    · exact floorLaw_leaveHolders hs
    · exact hs

end Sys2Proof.Machine
end

section
/-!
PROOFS. EVERY STEP KEEPS THE LAWS OF THE FLOOR, continued: setup changes (R47 to R49), meeting signals (R50), the alert
(R67, R68, R70), the commands, and the Floor Setups that the machine holds (R28).
-/

namespace Sys2Proof.Machine

/-! ### Setups in range -/

theorem setupFits_of_setup? {f : SetupFields} {x : FloorSetup} (h : setup? f = some x) : setupFits x = true := by
  unfold setup? at h
  split at h
  · split at h
    · next hrange =>
      obtain ⟨h1, h6, -⟩ := hrange
      cases h; simp [setupFits, h1, h6]
    · cases h
  · cases h

theorem setupFits_of_fixed? {f : BookingFields} {x : Fixed} (h : fixed? f = some x) : setupFits x.setup = true := by
  unfold fixed? at h
  split at h
  · next hsetup =>
    split at h
    · cases h; exact setupFits_of_setup? hsetup
    · cases h
  · cases h

theorem setupFits_of_idle? {f : IdleFields} {x : IdleSetup} (h : idle? f = some x) : setupFits x.setup = true := by
  unfold idle? at h
  split at h
  · next hsetup _ => cases h; exact setupFits_of_setup? hsetup
  · cases h

theorem setupFits_of_holdsFixed {s : State} {f : Fixed} (hs : setupsLaw s) (h : HoldsFixed s f) :
    setupFits f.setup = true := by
  obtain ⟨k, hk⟩ := h
  have := hs.2.2 k
  rwa [hk] at this

theorem setupsLaw_setSlot {k : SlotNo} {x : Slot} {s : State} (hs : setupsLaw s)
    (hx : (slotFixed x).all (fun f => setupFits f.setup) = true) : setupsLaw (setSlot k x s) := by
  refine ⟨hs.1, hs.2.1, fun j => ?_⟩
  show (slotFixed (look (upd s.sched.slots k x) j)).all _ = true
  by_cases hj : j = k
  · rw [hj, look_upd_self]; exact hx
  · rw [look_upd, if_neg (Ne.symm hj)]; exact hs.2.2 j

/-- The same floor and ALERT filter with other bookings whose setups are in range. -/
theorem floorLaw_of_setups {s t : State} (hs : floorLaw s) (hf : t.floor = s.floor) (ha : t.alert = s.alert)
    (ht : setupsLaw t) : floorLaw t := by
  unfold floorLaw at *; rw [hf, ha]
  obtain ⟨h1, h2, h3, h4, h5, h6, h7, h8, h9, -⟩ := hs
  exact ⟨h1, h2, h3, h4, h5, h6, h7, h8, h9, ht⟩

/-! ### Setup changes -/

theorem FloorRules.withSetup {s : State} {f : FloorSetup} (hs : FloorRules s) (hf : setupFits f = true) :
    FloorRules (s.withFloor { s.floor with setup := f }) :=
  ⟨hs.hold, hs.shadow, hs.empty, hs.alert, hs.closed, hs.meets, hs.quiet, hs.queue, setupsLaw_of hs.setups hf rfl⟩

theorem delegates_nil {f : Floor} (h : f.openList = []) : delegates f = 0 := by simp [delegates, h]

/-- Outside RUNNING no delegate is open. -/
theorem FloorRules.delegates_zero {s : State} (hs : FloorRules s) (hp : s.floor.phase ≠ .running) :
    delegates s.floor = 0 := by
  cases hphase : s.floor.phase with
  | running => exact absurd hphase hp
  | hold => exact hs.quiet hphase
  | closed => exact delegates_nil (hs.empty (Or.inl hphase)).1
  | alert => exact delegates_nil (hs.empty (Or.inr hphase)).1

theorem shrinks_trimOpen (s : State) : Shrinks s (trimOpen s) := by
  unfold trimOpen; split
  · exact shrinks_closeOpenSeats _ _ s
  · exact .refl s

theorem withinMax_trimOpen {s : State} (hs : FloorRules s) : withinMax (trimOpen s) := by
  unfold withinMax; rw [(shrinks_trimOpen s).setup]
  unfold trimOpen; split
  · have := delegates_closeFirst .setup (delegates s.floor - s.floor.setup.maxOpen) s
    omega
  · next hp => rw [hs.delegates_zero hp]; exact Nat.zero_le _

theorem shrinks_emptyForMode (s : State) : Shrinks s (emptyForMode s) := by
  have h := ((shrinks_closeOpenSeats .setup (delegateSeats s.floor) s).trans (shrinks_clearQueue _)).trans
    (shrinks_clearArming _)
  unfold emptyForMode; dsimp only; split
  · exact h.trans (shrinks_closeShadowSeats _ _ _)
  · exact h

theorem delegates_emptyForMode (s : State) : delegates (emptyForMode s).floor = 0 := by
  have h1 := delegates_closeDelegates .setup s
  have h2 := ((shrinks_clearQueue _).trans (shrinks_clearArming _)).delegates_zero h1
  unfold emptyForMode; dsimp only; split
  · exact (shrinks_closeShadowSeats _ _ _).delegates_zero h2
  · exact h2

theorem floorLaw_setupChange {f : FloorSetup} {s : State} (hs : floorLaw s) (hf : setupFits f = true) :
    floorLaw (setupChange f s) := by
  obtain ⟨hr, -⟩ := floorLaw_iff.mp hs
  refine floorLaw_afterFloor (floorLaw_of_shrinks (shrinks_recomputeAll _) ?_)
  split
  · have hset := hr.withSetup hf
    exact floorLaw_iff.mpr ⟨hset.of_shrinks (shrinks_trimOpen _), withinMax_trimOpen hset⟩
  · refine floorLaw_iff.mpr ⟨(hr.of_shrinks (shrinks_emptyForMode s)).withSetup hf, ?_⟩
    show delegates (emptyForMode s).floor ≤ _
    rw [delegates_emptyForMode]; exact Nat.zero_le _

/-! ### Meeting signals and the alert -/

theorem meetingSignal_alert (next : Meeting) (f : FloorSetup) (s : State) :
    (meetingSignal next f s).alert = s.alert := by
  unfold meetingSignal
  simp only [fun t => (floorFrame_afterFloor t).alert, emptyMessages]
  simp [(floorFrame_closeEverything _ _).alert, (floorFrame_clearHolders _).alert, clearArming,
    (floorFrame_clearQueue _).alert]

theorem setupFits_setupAfter {next : Meeting} {f old : FloorSetup} (hold : setupFits old = true)
    (hf : setupFits f = true) : setupFits (setupAfter next f old) = true := by
  unfold setupAfter; split
  · exact hold
  · exact hf

/-- A floor without seats and holders in a state other than HOLD, with the meeting that the state asks for. -/
theorem floorLaw_emptyFloor {s : State} {p : FloorState} {x : FloorSetup} {m : Meeting}
    (hfloor : s.floor = emptyFloor p x m) (hp : p ≠ .hold) (halert : p = .alert ↔ s.alert.level = true)
    (hclosed : p = .closed → m = .none) (hmeets : p = .running → m ≠ .none)
    (hsetups : setupsLaw s) : floorLaw s := by
  refine floorLaw_iff.mpr ⟨⟨?_, ?_, ?_, ?_, ?_, ?_, ?_, ?_, hsetups⟩, ?_⟩
  case refine_9 => unfold withinMax; rw [hfloor]; exact Nat.zero_le _
  all_goals rw [hfloor]
  · exact ⟨fun h => absurd h hp, fun h => nomatch h⟩
  · exact fun _ => rfl
  · exact fun _ => ⟨rfl, rfl, rfl⟩
  · exact halert
  · exact hclosed
  · rintro (h | h)
    · exact hmeets h
    · exact absurd h hp
  · exact fun _ => rfl
  · exact Nat.zero_le _

theorem floorLaw_meetingSignal {next : Meeting} {f : FloorSetup} {s : State} (hs : floorLaw s)
    (hf : setupFits f = true) : floorLaw (meetingSignal next f s) := by
  obtain ⟨hr, -⟩ := floorLaw_iff.mp hs
  have hfloor := meetingSignal_floor next f s
  have hfits := setupFits_setupAfter (next := next) hr.setups.1 hf
  refine floorLaw_emptyFloor hfloor ?_ ?_ ?_ ?_
    (setupsLaw_of hr.setups (by rw [hfloor]; exact hfits) (meetingSignal_frame next f s).1)
  · split
    · nofun
    · cases next <;> nofun
  · rw [meetingSignal_alert, ← hr.alert]
    split
    · next h => exact ⟨fun _ => h, fun _ => rfl⟩
    · next h => exact ⟨fun hn => (by cases next <;> cases hn), fun ha => absurd ha h⟩
  · split
    · nofun
    · cases next <;> simp
  · split
    · nofun
    · cases next <;> simp

/-- The alert entry brings the laws back with the filtered level active (R67, R68). -/
theorem floorLaw_alertEntry {s : State} (hsetups : setupsLaw s) (hlevel : s.alert.level = true) :
    floorLaw (alertEntry s) := by
  have hfloor : (alertEntry s).floor = emptyFloor .alert s.floor.setup s.floor.meeting := by
    unfold alertEntry; rw [restFilters_floor]
    show ({ (clearHolders _).floor with phase := .alert } : Floor) = _
    rw [clearWaiting_floor, closeEverything_floor]; rfl
  refine floorLaw_emptyFloor hfloor nofun ⟨fun _ => ?_, fun _ => rfl⟩ nofun nofun ?_
  · show (alertEntry s).alert.level = true
    unfold alertEntry
    rw [(shrinks_restFilters _).alert]
    show (clearHolders _).alert.level = true
    rw [(floorFrame_clearHolders _).alert]
    show (clearQueue _).alert.level = true
    rw [(floorFrame_clearQueue _).alert, (floorFrame_closeEverything _ _).alert]
    exact hlevel
  · refine setupsLaw_of hsetups (by rw [hfloor]; exact hsetups.1) ?_
    unfold alertEntry
    rw [(shrinks_restFilters _).sched]
    show (clearHolders _).sched = _
    rw [(floorFrame_clearHolders _).sched]
    show (clearQueue _).sched = _
    rw [(floorFrame_clearQueue _).sched, (floorFrame_closeEverything _ _).sched]

/-- The alert exit with the filtered level released (R67, R70). -/
theorem floorLaw_alertExit {s t : State} (hs : floorLaw s) (hp : s.floor.phase = .alert) (hf : t.floor = s.floor)
    (hsched : t.sched = s.sched) (hlevel : t.alert.level = false) : floorLaw (alertExit t) := by
  obtain ⟨hr, hmax⟩ := floorLaw_iff.mp hs
  obtain ⟨hopen, hqueue, harmed⟩ := hr.empty (Or.inr hp)
  have hnone : holdersSome s.floor = false :=
    Bool.eq_false_iff.mpr fun h => by have := hr.hold.mpr h; rw [hp] at this; cases this
  obtain ⟨hremote, hholders⟩ : s.floor.remote = false ∧ s.floor.holders = [] := by
    simpa [holdersSome] using hnone
  have hshadow := hr.shadow (by rw [hp]; nofun)
  have left : ∀ p, (p = .closed ∧ s.floor.meeting = .none ∨ p = .running ∧ s.floor.meeting ≠ .none) →
      floorLaw ((record .alertOff none t).withFloor { (record .alertOff none t).floor with phase := p }) := by
    intro p hcase
    refine floorLaw_emptyFloor (p := p) (x := s.floor.setup) (m := s.floor.meeting) ?_ ?_ ?_ ?_ ?_ ?_
    · show ({ t.floor with phase := p } : Floor) = _
      simp [hf, emptyFloor, hopen, hqueue, harmed, hshadow, hremote, hholders]
    · rcases hcase with ⟨rfl, -⟩ | ⟨rfl, -⟩ <;> nofun
    · show _ ↔ t.alert.level = true
      rw [hlevel]
      rcases hcase with ⟨rfl, -⟩ | ⟨rfl, -⟩ <;> exact ⟨nofun, nofun⟩
    · rcases hcase with ⟨rfl, hm⟩ | ⟨rfl, -⟩
      · exact fun _ => hm
      · nofun
    · rcases hcase with ⟨rfl, -⟩ | ⟨rfl, hm⟩
      · nofun
      · exact fun _ => hm
    · exact setupsLaw_of hr.setups (by show setupFits t.floor.setup = true; rw [hf]; exact hr.setups.1) hsched
  refine floorLaw_afterFloor (left _ ?_)
  rw [record_floor, hf]
  cases s.floor.meeting <;> simp

theorem filterAlert_eq (sample : Bool) (x : AlertFilter) :
    (filterAlert sample x).1.level = (if (filterAlert sample x).2 then sample else x.level) ∧
      ((filterAlert sample x).2 = true → x.level = !sample) := by
  unfold filterAlert; split
  · exact ⟨rfl, nofun⟩
  · next h =>
    split
    · exact ⟨rfl, nofun⟩
    · exact ⟨rfl, fun _ => by cases sample <;> cases hl : x.level <;> simp_all⟩

theorem floorLaw_alertSample {level : AlertLevel} {s t : State} (h : execAlertSample level s = .next t)
    (hs : floorLaw s) : floorLaw t := by
  obtain ⟨hr, hmax⟩ := floorLaw_iff.mp hs
  obtain ⟨hlevel, hchange⟩ := filterAlert_eq (readAlert level s.alert.pin) s.alert
  cases h
  split
  · next hout =>
    rw [if_pos hout] at hlevel
    have hold := hchange hout
    split
    · next hsample =>
      exact floorLaw_alertEntry (setupsLaw_of hr.setups hr.setups.1 rfl) (hlevel.trans hsample)
    · next hsample =>
      have hoff := Bool.eq_false_iff.mpr hsample
      refine floorLaw_alertExit hs (hr.alert.mpr ?_) rfl rfl (hlevel.trans hoff)
      rw [hold, hoff]; rfl
  · next hout =>
    rw [if_neg hout] at hlevel
    refine floorLaw_iff.mpr ⟨⟨hr.hold, hr.shadow, hr.empty, ?_, hr.closed, hr.meets, hr.quiet, hr.queue,
      setupsLaw_of hr.setups hr.setups.1 rfl⟩, hmax⟩
    show _ ↔ (filterAlert _ _).1.level = true
    rw [hlevel]; exact hr.alert

/-! ### Commands -/

theorem floorLaw_stateRefused {n : Seat} {s : State} (hs : floorLaw s) : floorLaw (stateRefused n s).state := by
  unfold stateRefused; dsimp only; split
  · exact floorLaw_of_shrinks (shrinks_refuse n s) hs
  · exact hs

theorem floorLaw_openDelegate {n : Seat} {s : State} (hs : floorLaw s) (hp : s.floor.phase = .running) :
    floorLaw (openDelegate n s).state := by
  have slot : floorLaw
      (if slotFree s.floor then done (afterFloor (joinOpen .command n s)) else stateRefused n s).state := by
    split
    · next hf => exact floorLaw_afterFloor (floorLaw_joinOpen_free hs hf)
    · exact floorLaw_stateRefused hs
  unfold openDelegate; split
  · exact slot
  · exact slot
  · exact floorLaw_afterFloor (floorLaw_overrideOpen hs hp)
  · split
    · exact hs
    · exact floorLaw_afterFloor (floorLaw_arm hs (Or.inl hp))

theorem floorLaw_openSeat {n : Seat} {s : State} (hs : floorLaw s) : floorLaw (openSeat n s).state := by
  unfold openSeat; split
  · exact floorLaw_stateRefused hs
  · next hdead =>
    have hl := live_of_not hdead
    split
    · exact hs
    · split
      · exact floorLaw_stateRefused hs
      · next hchair =>
        split
        · exact hs
        · exact floorLaw_afterFloor (floorLaw_joinOpen hs hl (Or.inl hchair))
      · split
        · exact hs
        · split
          · exact floorLaw_stateRefused hs
          · next hhold => exact floorLaw_openDelegate hs (hl.resolve_right hhold)

theorem floorLaw_priorityOnReply {s : State} (hs : floorLaw s) : floorLaw (priorityOnReply s).state := by
  unfold priorityOnReply; split
  · next hp => exact floorLaw_holdStart (l := s.floor.holders) (r := true) hs hp rfl
  · next hp =>
    exact floorLaw_withHolders (l := s.floor.holders) (r := true) hs ((floorLaw_iff.mp hs).1.hold.mp hp).symm
  · exact hs
  · exact hs

theorem floorLaw_priorityOffReply {s : State} (hs : floorLaw s) : floorLaw (priorityOffReply s).state := by
  unfold priorityOffReply; split
  · next hremote =>
    exact floorLaw_endHoldIfFree (l := s.floor.holders) (r := false) hs fun _ => by simp [holdersSome, hremote]
  · exact hs

theorem shrinks_storeSeat (n : Seat) (e : SeatEntry) (s : State) : Shrinks s (storeSeat n e s) := .of_same rfl rfl rfl

theorem floorLaw_putSeatStore {n : Seat} {f : SeatFields} {s : State} (hs : floorLaw s) :
    floorLaw (putSeatStore n f s).state := by
  have keep : ∀ e, floorLaw (keepRole n e s) := by
    intro e
    have hstored := floorLaw_of_shrinks (shrinks_storeSeat n e s) hs
    unfold keepRole; dsimp only; split
    · exact hstored
    · split
      · exact floorLaw_afterFloor (floorLaw_of_shrinks (shrinks_recomputeSeat n _) hstored)
      · exact hstored
  unfold putSeatStore; split
  · exact hs
  · split
    · exact hs
    · split
      · exact keep _
      · exact floorLaw_afterFloor (floorLaw_of_shrinks (shrinks_storeSeat n _ _)
          (floorLaw_leaveHolders (floorLaw_of_shrinks (shrinks_takeOut _ _ n s) hs)))

/-! ### Bookings, the Idle Setup, RESTART -/

theorem floorLaw_idleSetupChange {f : FloorSetup} {s : State} (hs : floorLaw s) (hf : setupFits f = true) :
    floorLaw (idleSetupChange f s) := by
  obtain ⟨hr, -⟩ := floorLaw_iff.mp hs
  unfold idleSetupChange; split
  · next hp =>
    refine floorLaw_iff.mpr ⟨hr.withSetup hf, ?_⟩
    show delegates s.floor ≤ _
    rw [hr.delegates_zero (by rw [hp]; nofun)]; exact Nat.zero_le _
  · exact floorLaw_setupChange hs hf

theorem shrinks_appendWith (e : LogEvent) (n : Option Seat) (b : Option Nat) (s : State) :
    Shrinks s (appendWith e n b s) := .of_same rfl rfl rfl

theorem shrinks_bankRequest (b : Fin 2) (s : State) : Shrinks s (bankRequest b s) := .of_same rfl rfl rfl

theorem floorLaw_appended {e : LogEvent} {n : Option Seat} {b : Option Nat} {k : Fin 2} {s : State} (hs : floorLaw s) :
    floorLaw (appendWith e n b (bankRequest k s)) :=
  floorLaw_of_shrinks ((shrinks_bankRequest k s).trans (shrinks_appendWith e n b _)) hs

theorem floorLaw_idleEffect {old new : IdleSetup} {s : State} (hs : floorLaw s) (hf : setupFits new.setup = true) :
    floorLaw (idleEffect old new s) := by
  unfold idleEffect; split
  · exact hs
  · split
    · exact hs
    · exact floorLaw_appended (floorLaw_meetingSignal hs hf)
    · exact floorLaw_appended (floorLaw_meetingSignal hs hf)
    · dsimp only; split
      · exact floorLaw_idleSetupChange hs hf
      · exact floorLaw_of_shrinks (shrinks_bankRequest _ _) (floorLaw_idleSetupChange hs hf)

theorem slotFixed_backToPending (x : Slot) : slotFixed (backToPending x) = slotFixed x := by cases x <;> rfl

theorem roomKept_floorLaw : RoomKept floorLaw where
  room h := floorLaw_of_shrinks (shrinks_of_sameRoom h)
  starts _ _ _ _ hf hs :=
    floorLaw_appended (floorLaw_meetingSignal hs (setupFits_of_holdsFixed (floorLaw_iff.mp hs).1.setups hf))
  ends _ _ _ hs := floorLaw_appended (floorLaw_meetingSignal hs (floorLaw_iff.mp hs).1.setups.2.1)
  slot k x s hx hs := by
    have hsetups := (floorLaw_iff.mp hs).1.setups
    refine floorLaw_of_setups hs rfl rfl (setupsLaw_setSlot hsetups ?_)
    cases hf : slotFixed x with
    | none => rfl
    | some f => exact setupFits_of_holdsFixed hsetups (hx f hf)
  oweCounts := floorLaw_of_shrinks (shrinks_oweCounts _)
  takeCount n s hs := by
    unfold takeCount; split
    · split
      · exact floorLaw_afterFloor
          (floorLaw_of_shrinks ((shrinks_modifyOpenTimer n _ s).trans (shrinks_checkTimer n _)) hs)
      · exact hs
    · exact hs
  presenceStarts n s hs := by
    unfold presenceStarts; split
    · exact floorLaw_afterFloor hs
    · exact hs
  presenceEnds n s hs := by
    unfold presenceEnds; split
    · next h => exact floorLaw_afterFloor (floorLaw_closeVoiceHold hs (Or.inl h.1))
    · exact hs
  button _ _ _ _ _ := floorLaw_buttonEvent
  seatLost n s hs :=
    floorLaw_afterFloor (floorLaw_leaveHolders (floorLaw_of_shrinks (shrinks_takeOut _ _ n s) hs))
  alertSample := floorLaw_alertSample
  seatOpen seat s hs := by
    unfold seatOpenReply; split
    · exact floorLaw_openSeat hs
    · exact hs
  seatClose seat s hs := by
    unfold seatCloseReply; split
    · exact floorLaw_afterFloor (floorLaw_of_shrinks (shrinks_takeOut _ _ _ s) hs)
    · exact hs
  grant {s} hs := by
    unfold grantReply; split
    · next h => exact floorLaw_afterFloor (floorLaw_grant hs h)
    · exact hs
  queueClear hs := floorLaw_afterFloor (floorLaw_of_shrinks (shrinks_clearQueue _) hs)
  floorSet f s hs := by
    unfold floorSetReply; split
    · exact hs
    · split
      · next h => exact floorLaw_setupChange hs (setupFits_of_setup? h)
      · exact hs
  priorityOn := floorLaw_priorityOnReply
  priorityOff := floorLaw_priorityOffReply
  putSeat _ _ _ := floorLaw_putSeatStore
  putIdle f s hs := by
    unfold putIdleStore; split
    · next h =>
      have hf := setupFits_of_idle? h
      have hsetups := (floorLaw_iff.mp hs).1.setups
      exact floorLaw_idleEffect (floorLaw_of_setups hs rfl rfl ⟨hsetups.1, hf, hsetups.2.2⟩) hf
    · exact hs
  restartFloor {s} hs := by
    obtain ⟨-, hidle, hslots⟩ := (floorLaw_iff.mp hs).1.setups
    have hsetups : setupsLaw (restartFloor s) := ⟨hidle, hidle, hslots⟩
    refine floorLaw_emptyFloor (p := if s.sched.idle.enabled then .running else .closed) (x := s.sched.idle.setup)
      (m := if s.sched.idle.enabled then .idle else .none) rfl ?_ ?_ ?_ ?_ hsetups
    · split <;> nofun
    · refine ⟨fun h => ?_, nofun⟩
      split at h <;> cases h
    · split <;> simp
    · split <;> simp
  restartSlots {s} hs := by
    obtain ⟨hrun, hidle, hslots⟩ := (floorLaw_iff.mp hs).1.setups
    refine floorLaw_of_setups hs rfl rfl ⟨hrun, hidle, fun k => ?_⟩
    have := hslots k
    show (slotFixed ((s.sched.slots.map backToPending)[k])).all _ = true
    rw [Fin.getElem_fin, Vector.getElem_map, slotFixed_backToPending]; exact this
  draft k items f x s hx hs :=
    floorLaw_of_setups hs rfl rfl (setupsLaw_setSlot (floorLaw_iff.mp hs).1.setups (setupFits_of_fixed? hx))
  resetPin lowNs s hs := by
    unfold resetPin; split
    · exact resetMeetsTheLaws.2.2.2.1
    · exact hs

/-- Settles O6: the invariant is the laws with every Floor Setup that the machine holds in range. -/
theorem floorLawKept : Obligations.FloorLawKept :=
  step_keeps (fun _ _ => id) fun _ _ _ hs h => roomKept_floorLaw.rowClosed.exec_rel h hs

end Sys2Proof.Machine
end

section
/-!
PROOFS. THE COMMANDS THAT ONE LOOK AT THEIR OWNER SETTLES. A ready command is answered as its owner replies in the state
that has taken it (R201); what is left of each statement is the owner's reply by its checks.
-/

namespace Sys2Proof.Machine

/-! ### A ready command, answered -/

section Ready

variable {i : Instr} {s : State} {rest : List CommandCell} {tag code : Byte} {act : State → Reply}

theorem exec_of_ready {r : Reply} (hi : exec i s = .next (runCommand i tag code act s)) (h : Ready i s rest)
    (hr : act (taken s rest) = r) : exec i s = .next (answered tag code r.code r.result r.state) := by
  rw [hi, runCommand_taken h, hr]

theorem exec_refused {c : AnswerCode} (hi : exec i s = .next (runCommand i tag code act s)) (h : Ready i s rest)
    (hr : act (taken s rest) = refusal c (taken s rest)) :
    exec i s = .next (s.withPort (portAfter s.port rest tag code c [])) :=
  exec_of_ready hi h hr

theorem exec_done {t : State} (hi : exec i s = .next (runCommand i tag code act s)) (h : Ready i s rest)
    (hr : act (taken s rest) = done t) : exec i s = .next (answered tag code .done [] t) :=
  exec_of_ready hi h hr

end Ready

/-! ### The Command Port -/

/-- Settles O13: the cell is offered to the Command FIFO, by how full the two FIFOs are. -/
theorem arrivedCellIsPlaced : Obligations.ArrivedCellIsPlaced := by
  intro s cell harrived
  have take : ∀ t, takeCell s = t → exec .commandCellArrival s = .next t := fun t h => congrArg Host.Outcome.next h
  refine ⟨fun c hc => ⟨fun hroom => ?_, fun hfull hanswers => ?_, fun hfull hanswers => ?_⟩, fun hnone => ?_⟩
  · refine take _ ?_
    simp only [takeCell, harrived, hc]
    exact if_pos hroom
  · refine ⟨busyResult c.code s.port.cursor, take _ ?_, ?_, ?_, ?_⟩
    · simp only [takeCell, harrived, hc]
      exact (if_neg (Nat.not_lt.mpr hfull)).trans (if_pos hanswers)
    · intro hsel; simp [busyResult, hsel]
    · intro hact
      have : c.code ≠ 0x01 := by rcases hact with h | h <;> simp [h]
      simp only [busyResult, if_neg this, if_pos hact]
    · intro h1 h2 h3; simp only [busyResult, if_neg h1, if_neg (not_or.mpr ⟨h2, h3⟩)]
  · refine take _ ?_
    simp only [takeCell, harrived, hc]
    exact (if_neg (Nat.not_lt.mpr hfull)).trans (if_neg (Nat.not_lt.mpr hanswers))
  · refine take _ ?_
    simp only [takeCell, harrived, hnone]

/-- Settles O14: the slot is free and the trunk LOCKED, so the oldest answer leaves, or the pending notice. -/
theorem upstreamSlotFilled : Obligations.UpstreamSlotFilled := by
  intro s hslot hlocked
  refine ⟨fun a rest ha => congrArg Host.Outcome.next ?_, fun hnone hpending => congrArg Host.Outcome.next ?_⟩
  · show sendAnswer s = _
    simp only [sendAnswer, hslot, ha, if_pos hlocked]; rfl
  · have hsend : sendNotice s =
        fillSlot (.notice (noticeNow s)) (s.withNotices { s.notices with pending := false }) := by
      simp [sendNotice, hslot, hnone, hlocked, hpending]
    exact hsend.trans rfl

/-- Settles O17: the four branches of one button's filter. -/
theorem thirdSampleGivesTheEvent : Obligations.ThirdSampleGivesTheEvent := by
  intro now level x
  refine ⟨fun h => ?_, fun h hrun => ?_, fun h hrun => ?_, fun h hrun => ?_⟩
  · simp only [filterButton, if_pos h]
  · simp [filterButton, h, hrun]
  · simp [filterButton, h, hrun]
  · simp [filterButton, h, hrun]

/-! ### Audio -/

theorem length_flatMap_b3 (l : List Nat) : (l.flatMap b3).length = 3 * l.length := by
  induction l with
  | nil => rfl
  | cons n l ih => rw [List.flatMap_cons, List.length_append, ih, List.length_cons]; simp [b3, b2, b1]; omega

/-- The three bytes of the level at a place of a list. -/
theorem take_drop_flatMap_b3 (l : List Nat) (k : Nat) (hk : k < l.length) :
    ((l.flatMap b3).drop (3 * k)).take 3 = b3 l[k] := by
  induction l generalizing k with
  | nil => exact absurd hk (Nat.not_lt_zero _)
  | cons n l ih =>
    cases k with
    | zero => simp [b3, b2, b1]
    | succ k =>
      have : 3 * (k + 1) = (b3 n).length + 3 * k := by simp [b3, b2, b1]; omega
      rw [List.flatMap_cons, this, ← List.drop_drop, List.drop_left, List.getElem_cons_succ]
      exact ih k (by simpa using hk)

theorem inRun_iff {first count : Nat} {i : MeterNo} :
    inRun first count i = true ↔ first ≤ i.val ∧ i.val < first + count := by simp [inRun]

/-- Settles O52: the three replies by their checks; the levels of METER READ are three bytes each. -/
theorem audioCommands : Obligations.AudioCommands := by
  intro s rest tag
  refine ⟨fun b h => ⟨fun k hk => ?_, fun hb => ?_⟩,
    fun h => (exec_of_ready rfl h (r := clipReadReply (taken s rest)) rfl).trans rfl,
    fun first count h => ⟨fun hbad => ?_, fun h1 h8 h66 => ?_⟩⟩
  · subst hk
    refine exec_done rfl h (t := bankRequest k (taken s rest)) ?_
    simp only [withForm, bankSelectReply, index?_val]
  · refine exec_refused rfl h ?_
    simp only [withForm, bankSelectReply, index?_of_le hb]
  · exact exec_refused rfl h (if_pos hbad)
  · have hgood : ¬ (65 < first ∨ count = 0 ∨ 8 < count ∨ 66 < first + count) := by omega
    have hlist : ((s.gate.meters.toList.drop first).take count).length = count := by
      simp; omega
    refine ⟨
      { s.gate with
        meters := Vector.ofFn (fun i => if inRun first count i then 0 else look s.gate.meters i) },
      ((s.gate.meters.toList.drop first).take count).flatMap b3, (exec_of_ready rfl h (if_neg hgood)).trans rfl, rfl,
      (length_flatMap_b3 _).trans (by rw [hlist]), fun i => ⟨fun hout => ?_, fun hlo hhi => ⟨?_, ?_⟩⟩⟩
    · have : ¬ inRun first count i = true := by rw [inRun_iff]; omega
      simp [look, this]
    · have : inRun first count i = true := inRun_iff.mpr ⟨hlo, hhi⟩
      simp [look, this]
    · rw [take_drop_flatMap_b3 _ _ (by rw [hlist]; omega)]
      simp [look, Nat.add_sub_cancel' hlo]

/-! ### Messages -/

theorem target?_eq_none {k : Nat} (h1 : 63 < k) (h2 : k ≠ 255) : target? k = none := by
  simp only [target?, optIndex?, if_neg h2, index?_of_le h1, Option.map_none]

theorem target?_cases {k : Nat} (h : k ≤ 63 ∨ k = 255) :
    (k = 255 ∧ target? k = some none) ∨ ∃ n : Seat, k = n.val ∧ target? k = some (some n) := by
  by_cases hall : k = 255
  · exact Or.inl ⟨hall, by simp only [target?, optIndex?, if_pos hall]⟩
  · have hk : k < 64 := by omega
    refine Or.inr ⟨⟨k, hk⟩, rfl, ?_⟩
    simp only [target?, optIndex?, if_neg hall, index?, dif_pos hk, Option.map_some]

/-- The message slots after one contents for a target. -/
theorem setMessages_cases {k : Nat} {who : Option Seat} (s : State) (x : Option Message)
    (h : k = 255 ∧ who = none ∨ ∃ n : Seat, k = n.val ∧ who = some n) :
    ∃ m : Vector (Option Message) 64, setMessages who x s = s.withScreens { s.screens with messages := m } ∧
      ∀ n : Seat, (k = n.val ∨ k = 255 → look m n = x) ∧
        (k ≠ n.val → k ≠ 255 → look m n = look s.screens.messages n) := by
  obtain ⟨rfl, rfl⟩ | ⟨j, rfl, rfl⟩ := h
  · exact ⟨Vector.replicate 64 x, rfl, fun n => ⟨fun _ => by simp [look], fun _ h => absurd rfl h⟩⟩
  · refine ⟨upd s.screens.messages j x, rfl, fun n => ⟨fun h => ?_, fun h _ => ?_⟩⟩
    · have : j = n := Fin.ext (h.resolve_right (by omega))
      rw [this, look_upd_self]
    · rw [look_upd, if_neg fun hj => h (congrArg Fin.val hj)]

/-- Settles O55: the replies by their checks, and which slots a target names. -/
theorem seatMessageCommands : Obligations.SeatMessageCommands := by
  intro s rest tag
  refine ⟨fun target duration text h => ⟨fun hbad => ?_, fun htarget h1 h24 hd => ?_⟩, fun target h =>
    ⟨fun h63 h255 => ?_, fun htarget => ?_⟩⟩
  · refine exec_refused rfl h ?_
    show seatMessageReply target duration text _ = _
    unfold seatMessageReply; split
    · rfl
    · next hwho =>
      refine if_pos ?_
      rcases hbad with ⟨hk, hall⟩ | hlen | hlen | hdur
      · rw [target?_eq_none hk hall] at hwho; cases hwho
      · exact Or.inl (by rw [hlen]; rfl)
      · exact Or.inr (Or.inl hlen)
      · exact Or.inr (Or.inr hdur)
  · have hgood : ¬ (text.length = 0 ∨ 24 < text.length ∨ 255 < duration) := by omega
    have reply : ∀ who, target? target = some who →
        seatMessageReply target duration text (taken s rest) = done (setMessages who
          (some { text := text.map printable, left := if duration = 0 then none else some (duration * 1000) })
          (taken s rest)) := by
      intro who hwho
      simp only [seatMessageReply, hwho, if_neg hgood]
    obtain ⟨who, hwho, hcase⟩ : ∃ who, target? target = some who ∧
        (target = 255 ∧ who = none ∨ ∃ n : Seat, target = n.val ∧ who = some n) := by
      obtain ⟨h255, ht⟩ | ⟨n, hn, ht⟩ := target?_cases htarget
      · exact ⟨none, ht, Or.inl ⟨h255, rfl⟩⟩
      · exact ⟨some n, ht, Or.inr ⟨n, hn, rfl⟩⟩
    obtain ⟨m, hm, hslots⟩ := setMessages_cases (taken s rest)
      (some { text := text.map printable, left := if duration = 0 then none else some (duration * 1000) }) hcase
    refine ⟨m, (exec_done rfl h (reply who hwho)).trans ?_, hslots⟩
    rw [hm]; rfl
  · refine exec_refused rfl h ?_
    show messageClearReply target _ = _
    simp only [messageClearReply, target?_eq_none h63 h255]
  · obtain ⟨who, hwho, hcase⟩ : ∃ who, target? target = some who ∧
        (target = 255 ∧ who = none ∨ ∃ n : Seat, target = n.val ∧ who = some n) := by
      obtain ⟨h255, ht⟩ | ⟨n, hn, ht⟩ := target?_cases htarget
      · exact ⟨none, ht, Or.inl ⟨h255, rfl⟩⟩
      · exact ⟨some n, ht, Or.inr ⟨n, hn, rfl⟩⟩
    obtain ⟨m, hm, hslots⟩ := setMessages_cases (taken s rest) none hcase
    refine ⟨m, (exec_done rfl h (t := setMessages who none (taken s rest)) ?_).trans ?_, hslots⟩
    · show messageClearReply target _ = _
      simp only [messageClearReply, hwho]
    · rw [hm]; rfl

/-! ### Log and notices -/

theorem oldestUnread_of_split {g : SpeechLog} {older newer : List LogRecord} {r : LogRecord}
    (hring : g.ring = older ++ r :: newer) (hunread : g.unread = newer.length + 1) : oldestUnread g = some r := by
  have : g.ring.length - g.unread = older.length := by rw [hring, hunread]; simp
  rw [oldestUnread, this, hring, List.drop_left]; rfl

theorem triggerOk_iff {k : Nat} : triggerOk k = true ↔ k ∈ [1, 4, 16, 64] := by
  rw [triggerOk, List.contains_iff_mem]

/-- Settles O60: LOG READ of the record at the read position, or of none; NOTICE SET by its trigger level. -/
theorem logReadAndNoticeSet : Obligations.LogReadAndNoticeSet := by
  intro s rest tag
  refine ⟨fun h => ⟨fun older newer r hring hunread => ?_, fun hunread hlog => ?_⟩, fun mask trigger h =>
    ⟨fun hbad => ?_, fun hok => ?_⟩⟩
  · have hreply : logReadReply (taken s rest) =
        { state := ((taken s rest).withLog { s.log with unread := newer.length }).withNotices
            (noticeRead newer.length s.notices)
          code := .done, result := recordBytes r newer.length } := by
      have hold : oldestUnread (taken s rest).log = some r := oldestUnread_of_split hring hunread
      have hun : (taken s rest).log.unread = newer.length + 1 := hunread
      unfold logReadReply; rw [hun, hold]; rfl
    refine (exec_of_ready rfl h hreply).trans ?_
    have : decide (newer.length ≠ 0) = decide (newer ≠ []) := by simp
    simp only [noticeRead, this]; rfl
  · have hreply : logReadReply (taken s rest) =
        { state := (taken s rest).withNotices (noticeRead 0 s.notices), code := .empty, result := [] } := by
      have hun : (taken s rest).log.unread = 0 := hunread
      unfold logReadReply; rw [hun]; rfl
    refine (exec_of_ready rfl h hreply).trans ?_
    have : noticeRead 0 s.notices = { s.notices with quiet := 0 } := by
      unfold noticeRead; rw [hlog, Bool.false_and, ← hlog]
    rw [this]; rfl
  · refine exec_refused rfl h (if_neg fun hok => hbad (triggerOk_iff.mp hok))
  · exact (exec_of_ready rfl h (if_pos (triggerOk_iff.mpr hok))).trans rfl

end Sys2Proof.Machine
end

section
/-!
PROOFS. THE CURSOR, THE PLAIN TABLES AND THE LISTS (R138 to R140, R162 to R164, R206 to R208): the reply of each owner
by its checks.
-/

namespace Sys2Proof.Machine

/-! ### The cursor -/

/-- What a GET or PUT inside its table puts first in its answer (R207, R208). -/
theorem actedAt_next {c : Cursor} (hin : c.index < tableSize c.table) :
    actedAt c { c with index := c.index + 1 } =
      b1 (tableByte c.table) ++ b1 c.index ++ b1 (tableByte c.table) ++ b1 (c.index + 1) := by
  simp only [actedAt, cursorBytes, if_pos hin, List.append_assoc]

section Put

variable {α : Type} {ofTable : TableName → Bool} {x : α} {store : TableName → Nat → α → State → Reply} {s : State}

/-- A PUT of another table's form, or past the end, stores nothing (R208). -/
theorem putAtCursor_of_off (h : ofTable s.port.cursor.table = false ∨
    tableSize s.port.cursor.table ≤ s.port.cursor.index) :
    putAtCursor ofTable (some x) store s =
      { state := s, code := .range, result := actedAt s.port.cursor s.port.cursor } := by
  unfold putAtCursor; dsimp only; split
  · next hof =>
    exact if_neg (Nat.not_lt.mpr (h.resolve_left (by rw [hof]; nofun)))
  · rfl

/-- A PUT at an entry is its owner's store, and the cursor moves on (R208). -/
theorem putAtCursor_of_on (hof : ofTable s.port.cursor.table = true)
    (hin : s.port.cursor.index < tableSize s.port.cursor.table) :
    putAtCursor ofTable (some x) store s =
      let r := store s.port.cursor.table s.port.cursor.index x s
      { state := advanceCursor r.state, code := r.code
        result := actedAt s.port.cursor (advanceCursor r.state).port.cursor } := by
  unfold putAtCursor; dsimp only; rw [if_pos hof, if_pos hin]

variable {i : Instr} {rest : List CommandCell} {tag : Byte}

theorem exec_put_off (hi : exec i s = .next (runCommand i tag 0x03 (putAtCursor ofTable (some x) store) s))
    (h : Ready i s rest) (hoff : ofTable s.port.cursor.table = false ∨
      tableSize s.port.cursor.table ≤ s.port.cursor.index) :
    exec i s = .next (s.withPort (portAfter s.port rest tag 0x03 .range (actedAt s.port.cursor s.port.cursor))) :=
  exec_of_ready hi h (putAtCursor_of_off (s := taken s rest) hoff)

/-- A PUT at an entry: its owner's state and code, with the cursor moved on, for an owner that leaves the port. -/
theorem exec_put_on {t : State} {c : AnswerCode}
    (hi : exec i s = .next (runCommand i tag 0x03 (putAtCursor ofTable (some x) store) s))
    (h : Ready i s rest) (hof : ofTable s.port.cursor.table = true)
    (hin : s.port.cursor.index < tableSize s.port.cursor.table)
    (hstore : store s.port.cursor.table s.port.cursor.index x (taken s rest) = { state := t, code := c, result := [] })
    (hport : t.port = (taken s rest).port) : exec i s = .next (t.withPort (putPort s.port rest tag c)) := by
  have hreply := putAtCursor_of_on (x := x) (store := store) (s := taken s rest) hof hin
  have hstore' : store (taken s rest).port.cursor.table (taken s rest).port.cursor.index x (taken s rest) =
      { state := t, code := c, result := [] } := hstore
  have hadvance : advanceCursor t = t.withPort
      { s.port with
        fifo := rest
        cursor := { s.port.cursor with index := s.port.cursor.index + 1 } } := by
    unfold advanceCursor setCursor; rw [hport]; rfl
  rw [exec_of_ready hi h hreply, hstore']
  unfold putPort; rw [← actedAt_next hin]
  simp only [hadvance]; rfl

theorem atIndex_val {k : Nat} (j : Fin k) (store : Fin k → α → State → Reply) :
    atIndex k j.val store x s = store j x s := by
  unfold atIndex; rw [index?_val]

end Put

/-- Settles O43: SELECT and GET by the cursor's check; a PUT off the cursor's table or past its end. -/
theorem selectAndGet : Obligations.SelectAndGet := by
  intro s rest tag
  refine ⟨fun table index h => ⟨fun hin => ?_, fun hout => ?_⟩, fun h c hc => ⟨fun hin => ?_, fun hout => ?_⟩, ?_⟩
  · exact (exec_of_ready rfl h (if_pos hin)).trans rfl
  · exact (exec_of_ready rfl h (if_neg (Nat.not_lt.mpr hout))).trans rfl
  · subst hc
    refine (exec_of_ready rfl h (if_pos hin)).trans ?_
    rw [← actedAt_next hin]; rfl
  · subst hc
    refine (exec_of_ready rfl h (if_neg (Nat.not_lt.mpr hout))).trans ?_
    have hacted : actedAt s.port.cursor s.port.cursor =
        b1 (tableByte s.port.cursor.table) ++ b1 255 ++ cursorBytes s.port.cursor := by
      simp only [actedAt, if_neg (Nat.not_lt.mpr hout)]
    rw [← hacted]; rfl
  · rintro c out rfl rfl
    have off : ∀ {t : TableName} {k : Nat}, tableSize t = k →
        s.port.cursor.table ≠ t ∨ k ≤ s.port.cursor.index →
        decide (s.port.cursor.table = t) = false ∨ tableSize s.port.cursor.table ≤ s.port.cursor.index := by
      rintro t k rfl h
      by_cases ht : s.port.cursor.table = t
      · exact Or.inr (ht ▸ h.resolve_left fun hne => hne ht)
      · exact Or.inl (decide_eq_false ht)
    refine ⟨fun f h hoff => ?_, fun f h hoff => ?_, fun f h hoff => ?_, fun f h hoff => ?_, fun f h hoff => ?_,
      fun f h hoff => ?_, fun f h hoff => ?_⟩
    · exact exec_put_off rfl h (off rfl hoff)
    · exact exec_put_off rfl h (off rfl hoff)
    · refine exec_put_off rfl h ?_
      by_cases h0 : s.port.cursor.table = .gain0 ∨ s.port.cursor.table = .gain1
      · refine Or.inr ((hoff.resolve_left fun hne => h0.elim hne.1 hne.2).trans' ?_)
        rcases h0 with h0 | h0 <;> rw [h0] <;> exact Nat.le_refl 65
      · exact Or.inl (by simpa using h0)
    · exact exec_put_off rfl h (off rfl hoff)
    · exact exec_put_off rfl h (off rfl hoff)
    · exact exec_put_off rfl h (off rfl hoff)
    · exact exec_put_off rfl h (off rfl hoff)

/-- Settles O44: each store at its own table's entry, by the owner's checks. -/
theorem plainPutsStore : Obligations.PlainPutsStore := by
  intro s rest tag
  refine ⟨fun x i h hc => ⟨fun hlen => ?_, fun hlen => ?_⟩, fun g i h => ⟨fun hc => ?_, fun hc => ?_⟩,
    fun a i h hc => ?_, fun f d h hc => ⟨fun hok => ?_, fun hbad => ?_⟩⟩
  · refine (exec_put_on rfl h (by rw [hc]; rfl) (by rw [hc]; exact i.isLt) (t := (taken s rest).withScreens
      { s.screens with names := upd s.screens.names i (x.map printable) }) (c := .done) ?_ rfl).trans rfl
    rw [hc]; dsimp only; rw [atIndex_val]; exact if_neg (Nat.not_lt.mpr hlen)
  · refine (exec_put_on rfl h (by rw [hc]; rfl) (by rw [hc]; exact i.isLt) (t := taken s rest) (c := .range) ?_
      rfl).trans rfl
    rw [hc]; dsimp only; rw [atIndex_val]; exact if_pos hlen
  · refine (exec_put_on rfl h (by rw [hc]; rfl) (by rw [hc]; exact i.isLt) (t := (taken s rest).withMixer
      { s.mixer with bank0 := upd s.mixer.bank0 i g }) (c := .done) ?_ rfl).trans rfl
    rw [hc]; dsimp only; rw [atIndex_val]; rfl
  · refine (exec_put_on rfl h (by rw [hc]; rfl) (by rw [hc]; exact i.isLt) (t := (taken s rest).withMixer
      { s.mixer with bank1 := upd s.mixer.bank1 i g }) (c := .done) ?_ rfl).trans rfl
    rw [hc]; dsimp only; rw [atIndex_val]; rfl
  · refine (exec_put_on rfl h (by rw [hc]; rfl) (by rw [hc]; exact i.isLt) (t := (taken s rest).withMixer
      { s.mixer with nom := upd s.mixer.nom i (min a 32768) }) (c := .done) ?_ rfl).trans rfl
    rw [hc]; dsimp only; rw [atIndex_val]; rfl
  · have hpreset : preset? f = some
        { period := f.period, high := f.high, warmUp := f.warmUp, coolDown := f.coolDown } := if_pos hok
    refine (exec_put_on rfl h (by rw [hc]; rfl) (by rw [hc]; exact d.isLt) (t := (taken s rest).withDisplays
      { s.displays with
        presets := upd s.displays.presets d
          { period := f.period, high := f.high, warmUp := f.warmUp, coolDown := f.coolDown } }) (c := .done) ?_
      rfl).trans rfl
    rw [hc]; dsimp only; rw [atIndex_val]; simp only [putDisplayStore, hpreset]; rfl
  · have hpreset : preset? f = none := if_neg (by omega)
    refine (exec_put_on rfl h (by rw [hc]; rfl) (by rw [hc]; exact d.isLt) (t := taken s rest) (c := .range) ?_
      rfl).trans rfl
    rw [hc]; dsimp only; rw [atIndex_val]; simp only [putDisplayStore, hpreset]; rfl

/-! ### Code lists -/

/-- Settles O48: the checks of LIST CLEAR and LIST ADD in their order. -/
theorem codeListWrites : Obligations.CodeListWrites := by
  intro s rest tag slot
  refine ⟨fun times gap h => ⟨fun hbad => ?_, fun c hc h1 h4 h255 => ?_⟩, fun pairs h => ⟨fun hbad => ?_,
    fun c x hc hx h1 h6 hpairs => ?_⟩⟩
  · refine exec_refused rfl h ?_
    show clearCodeReply slot times gap _ = _
    unfold clearCodeReply; split
    · rfl
    · next hslot =>
      refine if_pos (hbad.resolve_left fun hbig => ?_)
      rw [index?_of_le hbig] at hslot; cases hslot
  · subst hc
    have hreply : clearCodeReply c.val times gap (taken s rest) =
        if inFlightSlot s.displays = some c then refusal .busy (taken s rest)
        else done (setCode c { pairs := [], times := times, gap := gap } (taken s rest)) := by
      simp only [clearCodeReply, index?_val]
      exact if_neg (by omega)
    exact ⟨fun hb => exec_refused rfl h (hreply.trans (if_pos hb)),
      fun hb => (exec_done rfl h (hreply.trans (if_neg hb))).trans rfl⟩
  · refine exec_refused rfl h ?_
    show addCodeReply slot pairs _ = _
    unfold addCodeReply; split
    · rfl
    · next hslot =>
      refine if_pos ((hbad.resolve_left fun hbig => ?_).imp_left fun hnil => by rw [hnil]; rfl)
      rw [index?_of_le hbig] at hslot; cases hslot
  · subst hc
    have hgood : ¬ (pairs.length = 0 ∨ 6 < pairs.length ∨ pairs.any (fun p => decide (p.1 = 0 ∨ p.2 = 0)) = true) := by
      rintro (h0 | h0 | h0)
      · omega
      · omega
      · obtain ⟨p, hp, hzero⟩ := List.any_eq_true.mp h0
        have := hpairs p hp
        have := of_decide_eq_true hzero
        omega
    have hreply : addCodeReply c.val pairs (taken s rest) =
        if inFlightSlot s.displays = some c then refusal .busy (taken s rest)
        else if 40 < x.pairs.length + pairs.length then refusal .space (taken s rest)
        else done (setCode c { x with pairs := x.pairs ++ pairs } (taken s rest)) := by
      simp only [addCodeReply, index?_val]
      rw [hx]; exact if_neg hgood
    exact ⟨fun hb => exec_refused rfl h (hreply.trans (if_pos hb)),
      fun hb hfull => exec_refused rfl h (hreply.trans ((if_neg hb).trans (if_pos hfull))),
      fun hb hroom => (exec_done rfl h
        (hreply.trans ((if_neg hb).trans (if_neg (Nat.not_lt.mpr hroom))))).trans rfl⟩

/-- Settles O49: LIST GET by the two checks, and the counted run of pairs. -/
theorem codeListRead : Obligations.CodeListRead := by
  intro s rest tag slot offset h
  refine ⟨fun hbig => ?_, fun c x hc hx => ⟨fun hout => ?_, fun hin => ?_⟩⟩
  · refine exec_refused rfl h ?_
    simp only [withForm, getCodeReply, index?_of_le hbig]
  · subst hc
    refine exec_refused rfl h ?_
    simp only [withForm, getCodeReply, index?_val]
    exact if_pos (hx ▸ hout)
  · subst hc
    have hreply : getCodeReply c.val offset (taken s rest) =
        { state := taken s rest, code := .done
          result := b1 x.pairs.length ++ b1 x.times ++ b2 x.gap ++
            counted1 ((x.pairs.drop offset).take 6) (fun p => b2 p.1 ++ b2 p.2) } := by
      simp only [getCodeReply, index?_val]
      rw [hx]; exact if_neg (Nat.not_lt.mpr (hx ▸ hin))
    refine (exec_of_ready rfl h hreply).trans ?_
    simp only [counted1, List.length_take, List.length_drop, List.append_assoc]; rfl

/-! ### Assignment lists -/

theorem items?_eq_none {raw : List (Nat × Nat)}
    (h : raw.any (fun p => decide (63 < p.1 ∨ 127 < p.2)) = true) : items? raw = none := by
  induction raw with
  | nil => cases h
  | cons p l ih =>
    rw [List.any_cons, Bool.or_eq_true] at h
    unfold items?
    obtain hp | hl := h
    · have hitem : item? p = none := by
        unfold item?
        obtain h1 | h2 := of_decide_eq_true hp
        · rw [index?_of_le h1]
        · rw [index?_of_le h2]; cases index? 64 p.1 <;> rfl
      rw [hitem]
    · rw [ih hl]; cases item? p <;> rfl

theorem items?_length {raw : List (Nat × Nat)} {xs : List Item} (h : items? raw = some xs) :
    xs.length = raw.length := by
  induction raw generalizing xs with
  | nil => cases h; rfl
  | cons p l ih =>
    unfold items? at h
    split at h
    · next hxs => cases h; rw [List.length_cons, List.length_cons, ih hxs]
    · cases h

theorem addItem_seats (l : List Item) (x : Item) :
    (addItem l x).map Item.seat =
      if x.seat ∈ l.map Item.seat then l.map Item.seat else l.map Item.seat ++ [x.seat] := by
  unfold addItem
  by_cases h : l.any (fun y => decide (y.seat = x.seat)) = true
  · have hmem : x.seat ∈ l.map Item.seat := by
      obtain ⟨y, hy, he⟩ := List.any_eq_true.mp h
      exact List.mem_map.mpr ⟨y, hy, of_decide_eq_true he⟩
    rw [if_pos h, if_pos hmem, List.map_map]
    exact List.map_congr_left fun y _ => by simp only [Function.comp_apply]; split <;> rfl
  · have hmem : x.seat ∉ l.map Item.seat := fun hm => by
      obtain ⟨y, hy, he⟩ := List.mem_map.mp hm
      exact h (List.any_eq_true.mpr ⟨y, hy, decide_eq_true he⟩)
    rw [if_neg h, if_neg hmem, List.map_append]; rfl

theorem addItem_nodup {l : List Item} (x : Item) (h : (l.map Item.seat).Nodup) :
    ((addItem l x).map Item.seat).Nodup := by
  rw [addItem_seats]; split
  · exact h
  · next hx => exact List.nodup_append.mpr ⟨h, List.nodup_singleton _, fun a ha b hb => by
      rw [List.mem_singleton.mp hb]; rintro rfl; exact hx ha⟩

theorem mem_addItem (l : List Item) (x : Item) : x ∈ addItem l x := by
  unfold addItem; split
  · next h =>
    obtain ⟨y, hy, he⟩ := List.any_eq_true.mp h
    have hseat := of_decide_eq_true he
    refine List.mem_map.mpr ⟨y, hy, ?_⟩
    rw [if_pos hseat, hseat]
  · exact List.mem_append_right _ (List.mem_singleton.mpr rfl)

theorem mem_addItem_of_mem {l : List Item} {x y : Item} (hy : y ∈ l) (hne : y.seat ≠ x.seat) : y ∈ addItem l x := by
  unfold addItem; split
  · exact List.mem_map.mpr ⟨y, hy, if_neg hne⟩
  · exact List.mem_append_left _ hy

/-- Settles O47: the checks of the three commands in their order, and what one item does to a list. -/
theorem assignListCommands : Obligations.AssignListCommands := by
  intro s rest tag slot
  refine ⟨fun h => ⟨fun hbig => ?_, ?_⟩, fun raw h => ⟨fun hbad => ?_, ?_⟩, fun offset h => ⟨fun hbig => ?_, ?_⟩,
    fun items x hnodup => ⟨addItem_nodup x hnodup, mem_addItem items x, fun y hy hne => mem_addItem_of_mem hy hne⟩⟩
  · refine exec_refused rfl h ?_
    simp only [withForm, clearAssignReply, index?_of_le hbig]
  · rintro k rfl
    refine ⟨fun f items hk => (exec_done rfl h (t := setSlot k (.draft f []) (taken s rest)) ?_).trans rfl,
      fun hk => exec_refused rfl h ?_⟩
    · have hdraft : look (taken s rest).sched.slots k = .draft f items := hk
      simp only [withForm, clearAssignReply, index?_val, hdraft]
    · simp only [withForm, clearAssignReply, index?_val]; split
      · next f items hdraft => exact absurd hdraft (hk f items)
      · rfl
  · refine exec_refused rfl h ?_
    show addAssignReply slot raw _ = _
    unfold addAssignReply; split
    · next k xs hk hxs =>
      refine if_pos ?_
      rw [items?_length hxs]
      rcases hbad with hbig | hnil | hlong | hout
      · rw [index?_of_le hbig] at hk; cases hk
      · exact Or.inl (by rw [hnil]; rfl)
      · exact Or.inr hlong
      · rw [items?_eq_none hout] at hxs; cases hxs
    · rfl
  · rintro k xs rfl hxs h1 h12
    have hgood : ¬ (xs.length = 0 ∨ 12 < xs.length) := by omega
    refine ⟨fun hk => exec_refused rfl h ?_, fun f items all hk hall => ⟨fun hfull => exec_refused rfl h ?_,
      fun h64 h256 => (exec_done rfl h (t := setSlot k (.draft f all) (taken s rest)) ?_).trans rfl⟩⟩
    · simp only [withForm, addAssignReply, index?_val, hxs, if_neg hgood]; split
      · next f items hdraft => exact absurd hdraft (hk f items)
      · rfl
    · have hdraft : look (taken s rest).sched.slots k = .draft f items := hk
      simp only [withForm, addAssignReply, index?_val, hxs, if_neg hgood, hdraft, ← hall]
      exact if_pos hfull
    · have hdraft : look (taken s rest).sched.slots k = .draft f items := hk
      simp only [withForm, addAssignReply, index?_val, hxs, if_neg hgood, hdraft, ← hall]
      exact if_neg (not_or.mpr ⟨Nat.not_lt.mpr h64, Nat.not_lt.mpr h256⟩)
  · refine exec_refused rfl h ?_
    simp only [withForm, getAssignReply, index?_of_le hbig]
  · rintro k items rfl hitems
    refine ⟨fun hout => exec_refused rfl h ?_, fun hin => ?_⟩
    · simp only [withForm, getAssignReply, index?_val]
      exact if_pos (hitems ▸ hout)
    · have hreply : getAssignReply k.val offset (taken s rest) =
          { state := taken s rest, code := .done
            result := b1 items.length ++
              counted1 ((items.drop offset).take 12) (fun x => b1 x.seat.val ++ b1 x.name.val) } := by
        simp only [getAssignReply, index?_val]
        rw [hitems]; exact if_neg (Nat.not_lt.mpr (hitems ▸ hin))
      refine (exec_of_ready rfl h hreply).trans ?_
      simp only [counted1, List.length_take, List.length_drop, List.append_assoc]; rfl

end Sys2Proof.Machine
end

section
/-!
PROOFS. THE APPEND AND THE END OF A FLOOR EVENT (R40, R42, R110, R115, R186 to R193): one record, and slots that fill
until a condition fails.
-/

namespace Sys2Proof.Machine

/-! ### One append -/

theorem dropLast_pushRecord (ring : List LogRecord) (r : LogRecord) :
    (pushRecord ring r).dropLast = if ring.length < 256 then ring else ring.drop 1 := by
  unfold pushRecord; split <;> exact List.dropLast_concat

/-- Settles O28: the fields of the state after one append, read off its definition. -/
theorem appendIsOneRecord : Obligations.AppendIsOneRecord := by
  intro event seat booking s
  refine ⟨_, rfl, rfl, newestIs_appendWith event seat booking s, rfl, fun hroom => ?_, fun hfull => ?_, fun hroom => ?_,
    fun hfull => ?_, rfl, rfl, rfl, rfl, ?_⟩
  · exact (dropLast_pushRecord _ _).trans (if_pos hroom)
  · exact (dropLast_pushRecord _ _).trans (if_neg (Nat.not_lt.mpr hfull))
  · exact if_pos hroom
  · exact if_neg (Nat.not_lt.mpr hfull)
  · have hunread : (appendWith event seat booking s).log.unread =
        if s.log.unread < 256 then s.log.unread + 1 else s.log.unread := rfl
    have hpending : (appendWith event seat booking s).notices.pending =
        (s.notices.pending ||
          (s.notices.mask.log && decide (s.log.unread < 256) && decide (s.log.unread + 1 = s.notices.trigger))) := rfl
    rw [hpending, hunread]
    split
    · next h => simp [h]
    · next h => simp [h]

/-! ### The candidate -/

theorem betterCandidate_some (s : State) (b n : Seat) :
    betterCandidate s (some b) n =
      if age s.time.stamp (look s.gate.filters b).start < age s.time.stamp (look s.gate.filters n).start
      then some n else some b := rfl

/-- Of the seats of an ascending list the one that spoke first, of two that spoke together the lower. -/
theorem foldl_betterCandidate (s : State) (l : List Seat) (b : Seat) (hb : ∀ x ∈ l, b < x)
    (hl : l.Pairwise (· < ·)) :
    ∃ m ∈ b :: l, l.foldl (betterCandidate s) (some b) = some m ∧
      ∀ x ∈ b :: l,
        age s.time.stamp (look s.gate.filters x).start ≤ age s.time.stamp (look s.gate.filters m).start ∧
          (age s.time.stamp (look s.gate.filters x).start = age s.time.stamp (look s.gate.filters m).start →
            m ≤ x) := by
  induction l generalizing b with
  | nil => exact ⟨b, List.mem_cons_self, rfl, fun x hx => by rw [List.mem_singleton.mp hx]; simp⟩
  | cons a l ih =>
    obtain ⟨hal, hl'⟩ := List.pairwise_cons.mp hl
    rw [List.foldl_cons, betterCandidate_some]
    split
    · next hlt =>
      obtain ⟨m, hm, hfold, hbest⟩ := ih a hal hl'
      refine ⟨m, List.mem_cons_of_mem _ hm, hfold, fun x hx => ?_⟩
      rcases List.mem_cons.mp hx with rfl | hx
      · have := (hbest a List.mem_cons_self).1
        exact ⟨by omega, fun heq => by omega⟩
      · exact hbest x hx
    · next hge =>
      obtain ⟨m, hm, hfold, hbest⟩ := ih b (fun x hx => hb x (List.mem_cons_of_mem _ hx)) hl'
      have hbm := hbest b List.mem_cons_self
      refine ⟨m, ?_, hfold, fun x hx => ?_⟩
      · rcases List.mem_cons.mp hm with rfl | hm
        · exact List.mem_cons_self
        · exact List.mem_cons_of_mem _ (List.mem_cons_of_mem _ hm)
      · rcases List.mem_cons.mp hx with rfl | hx
        · exact hbm
        · rcases List.mem_cons.mp hx with rfl | hx
          · refine ⟨by omega, fun heq => ?_⟩
            exact Nat.le_of_lt (Nat.lt_of_le_of_lt (hbm.2 (by omega)) (hb x List.mem_cons_self))
          · exact hbest x (List.mem_cons_of_mem _ hx)

theorem mem_armedWithVoice {s : State} {n : Seat} :
    n ∈ allSeats.filter (fun n => decide (micState s.floor n = .armed) && (look s.gate.filters n).present) ↔
      micState s.floor n = .armed ∧ (look s.gate.filters n).present = true := by
  rw [List.mem_filter, Bool.and_eq_true, decide_eq_true_eq]
  exact ⟨fun h => h.2, fun h => ⟨List.mem_finRange n, h⟩⟩

/-- The candidate is ARMED with voice present and spoke first, of two the lower (R115). -/
theorem candidate_spec {s : State} {n : Seat} (h : candidate s = some n) :
    micState s.floor n = .armed ∧ (look s.gate.filters n).present = true ∧
      ∀ m : Seat, micState s.floor m = .armed → (look s.gate.filters m).present = true →
        age s.time.stamp (look s.gate.filters m).start ≤ age s.time.stamp (look s.gate.filters n).start ∧
          (age s.time.stamp (look s.gate.filters m).start = age s.time.stamp (look s.gate.filters n).start →
            n ≤ m) := by
  unfold candidate at h
  have hsorted := (List.pairwise_lt_finRange 64).filter
    (fun n => decide (micState s.floor n = .armed) && (look s.gate.filters n).present)
  have hmem := fun m => mem_armedWithVoice (s := s) (n := m)
  unfold allSeats at h hmem
  generalize (List.finRange 64).filter
    (fun n => decide (micState s.floor n = .armed) && (look s.gate.filters n).present) = l at h hmem hsorted
  cases l with
  | nil => cases h
  | cons b l =>
    obtain ⟨hb, hl⟩ := List.pairwise_cons.mp hsorted
    obtain ⟨m, hm, hfold, hbest⟩ := foldl_betterCandidate s l b hb hl
    have hmn : m = n := Option.some.inj (hfold.symm.trans h)
    subst hmn
    obtain ⟨harmed, hpresent⟩ := (hmem m).mp hm
    exact ⟨harmed, hpresent, fun x hx hp => hbest x ((hmem x).mpr ⟨hx, hp⟩)⟩

/-- Without a candidate no ARMED seat has voice present. -/
theorem candidate_none {s : State} (h : candidate s = none) (n : Seat) (harmed : micState s.floor n = .armed) :
    (look s.gate.filters n).present = false := by
  refine Bool.eq_false_iff.mpr fun hp => ?_
  have hmem := mem_armedWithVoice.mpr ⟨harmed, hp⟩
  unfold candidate at h
  cases hl : allSeats.filter (fun n => decide (micState s.floor n = .armed) && (look s.gate.filters n).present) with
  | nil => rw [hl] at hmem; cases hmem
  | cons b l =>
    have hsorted := (List.pairwise_lt_finRange 64).filter
      (fun n => decide (micState s.floor n = .armed) && (look s.gate.filters n).present)
    rw [show (List.finRange 64).filter _ = b :: l from hl] at hsorted
    obtain ⟨hb, hl'⟩ := List.pairwise_cons.mp hsorted
    obtain ⟨m, -, hfold, -⟩ := foldl_betterCandidate s l b hb hl'
    rw [hl] at h
    exact nomatch hfold.symm.trans h

/-- No ARMED seat with voice present, no candidate. -/
theorem candidate_eq_none {s : State}
    (h : ∀ n, micState s.floor n = .armed → (look s.gate.filters n).present = false) : candidate s = none := by
  have hnil : allSeats.filter
      (fun n => decide (micState s.floor n = .armed) && (look s.gate.filters n).present) = [] := by
    rw [List.filter_eq_nil_iff]
    intro n _ hn
    rw [Bool.and_eq_true, decide_eq_true_eq] at hn
    rw [h n hn.1] at hn; cases hn.2
  unfold candidate; rw [hnil]; rfl

/-! ### Steps of auto-advance and voice admission -/

/-- How many seats may still open at the end of an event. -/
def seatsWaiting (s : State) : Nat := s.floor.queue.length + s.floor.armed.length

theorem mem_armed_of_armed {f : Floor} {n : Seat} (h : micState f n = .armed) : n ∈ f.armed := by
  unfold micState at h
  split at h
  · cases h
  · split at h
    · cases h
    · split at h
      · cases h
      · split at h
        · next hmem => exact List.contains_iff_mem.mp hmem
        · cases h

theorem length_eraseSeat_lt {n : Seat} {l : List Seat} (h : n ∈ l) : (eraseSeat n l).length < l.length :=
  List.length_filter_lt_length_iff_exists.mpr ⟨n, h, by simp⟩

theorem seatsWaiting_joinOpen (how : How) (n : Seat) (s : State) :
    (joinOpen how n s).floor.queue.length ≤ (dropRequest n s.floor.queue).length ∧
      (joinOpen how n s).floor.armed.length ≤ (eraseSeat n s.floor.armed).length :=
  ⟨(joinOpen_shrinks how n s).queue.length_le, (joinOpen_shrinks how n s).armed.length_le⟩

/-- Each step takes a seat out of the queue or the arming. -/
theorem seatsWaiting_lt {s t : State} (h : advanceOnce s = some t) : seatsWaiting t < seatsWaiting s := by
  have hvoice : ∀ n, candidate s = some n → (eraseSeat n s.floor.armed).length < s.floor.armed.length :=
    fun n hn => length_eraseSeat_lt (mem_armed_of_armed (candidate_spec hn).1)
  have hqueue : ∀ how n, seatsWaiting (joinOpen how n s) ≤
      (dropRequest n s.floor.queue).length + (eraseSeat n s.floor.armed).length :=
    fun how n => Nat.add_le_add (seatsWaiting_joinOpen how n s).1 (seatsWaiting_joinOpen how n s).2
  have hdrop : ∀ n, (dropRequest n s.floor.queue).length ≤ s.floor.queue.length :=
    fun n => List.length_filter_le _ _
  have herase : ∀ n, (eraseSeat n s.floor.armed).length ≤ s.floor.armed.length :=
    fun n => List.length_filter_le _ _
  have hhead : ∀ t, s.floor.queue.head?.map (fun r => joinOpen .auto r.seat s) = some t →
      seatsWaiting t < seatsWaiting s := by
    intro t ht
    obtain ⟨r, hr, rfl⟩ := Option.map_eq_some_iff.mp ht
    have hlt : (dropRequest r.seat s.floor.queue).length < s.floor.queue.length :=
      List.length_filter_lt_length_iff_exists.mpr ⟨r, List.mem_of_head? hr, by simp⟩
    have := hqueue .auto r.seat
    have := herase r.seat
    unfold seatsWaiting at *; omega
  unfold advanceOnce at h
  split at h
  · split at h
    · exact hhead t h
    · split at h
      · exact hhead t h
      · cases h
    · cases h
    · obtain ⟨n, hn, rfl⟩ := Option.map_eq_some_iff.mp h
      have := hqueue .voice n
      have := hvoice n hn
      have := hdrop n
      unfold seatsWaiting at *; omega
  · cases h

/-- With as many steps as seats wait, nothing is left to do, and more steps do the same. -/
theorem advanceUpTo_enough {k : Nat} {s : State} (hk : seatsWaiting s ≤ k) :
    advanceOnce (advanceUpTo k s) = none ∧ ∀ j, k ≤ j → advanceUpTo j s = advanceUpTo k s := by
  induction k generalizing s with
  | zero =>
    have hnone : advanceOnce s = none := by
      cases h : advanceOnce s with
      | none => rfl
      | some t => have := seatsWaiting_lt h; omega
    refine ⟨hnone, fun j _ => ?_⟩
    cases j with
    | zero => rfl
    | succ j => show (match advanceOnce s with | some t => _ | none => _) = _; rw [hnone]; rfl
  | succ k ih =>
    cases h : advanceOnce s with
    | none =>
      have hstay : ∀ j, advanceUpTo j s = s := by
        intro j
        cases j with
        | zero => rfl
        | succ j => unfold advanceUpTo; rw [h]
      refine ⟨by rw [hstay]; exact h, fun j _ => by rw [hstay, hstay]⟩
    | some t =>
      have hlt := seatsWaiting_lt h
      have hstep : ∀ j, advanceUpTo (j + 1) s = advanceUpTo j t := fun j => by rw [advanceUpTo, h]
      obtain ⟨hdone, hmore⟩ := ih (s := t) (by omega)
      refine ⟨by rw [hstep]; exact hdone, fun j hj => ?_⟩
      obtain ⟨i, rfl⟩ : ∃ i, j = i + 1 := ⟨j - 1, by omega⟩
      rw [hstep, hstep]; exact hmore i (by omega)

/-- A step taken first leaves the end of the event as it is. -/
theorem afterFloor_of_step {s t : State} (h : advanceOnce s = some t) : afterFloor s = afterFloor t := by
  have hlt := seatsWaiting_lt h
  obtain ⟨-, hmore⟩ := advanceUpTo_enough (s := t) (Nat.le_refl _)
  have hstep : advanceUpTo (seatsWaiting s) s = advanceUpTo (seatsWaiting s - 1) t := by
    obtain ⟨i, hi⟩ : ∃ i, seatsWaiting s = i + 1 := ⟨seatsWaiting s - 1, by omega⟩
    rw [hi, advanceUpTo, h]; rfl
  show restFilters (advanceUpTo (seatsWaiting s) s) = restFilters (advanceUpTo (seatsWaiting t) t)
  rw [hstep, hmore _ (by omega)]

theorem afterFloor_of_done {s : State} (h : advanceOnce s = none) : afterFloor s = restFilters s := by
  have hstay : ∀ j, advanceUpTo j s = s := by
    intro j
    cases j with
    | zero => rfl
    | succ j => unfold advanceUpTo; rw [h]
  unfold afterFloor; rw [hstay]

theorem advanceOnce_of_notFree {s : State} (h : slotFree s.floor = false) : advanceOnce s = none := by
  unfold advanceOnce; rw [h]; rfl

theorem look_restFilters (s : State) (n : Seat) :
    look (restFilters s).gate.filters n = if inFilteredSet s n then look s.gate.filters n else .rest := by
  have : (restFilters s).gate.filters =
      Vector.ofFn (fun n => if inFilteredSet s n then look s.gate.filters n else .rest) := by
    unfold restFilters; rw [withGate_gate]
  rw [this]; simp [look]

theorem inFilteredSet_restFilters (s : State) (n : Seat) : inFilteredSet (restFilters s) n = inFilteredSet s n := by
  unfold inFilteredSet effectiveRole
  rw [restFilters_floor, show (restFilters s).seatTable = s.seatTable from withGate_seatTable s _]

theorem gateFrame_restFilters (s : State) : gateFrame s (restFilters s) := by
  refine ⟨?_, ?_, ?_, ?_, ?_, fun n => ?_⟩
  case refine_6 => rw [inFilteredSet_restFilters, look_restFilters]
  all_goals unfold restFilters; rw [withGate_gate]

/-- With nobody waiting, only filters of seats outside the filtered set come to rest (R110). -/
theorem afterFloor_nobody {s : State} (h : nobodyWaits s) :
    (afterFloor s).floor = s.floor ∧ (afterFloor s).seats = s.seats ∧ (afterFloor s).log = s.log ∧
      (afterFloor s).notices = s.notices ∧ floorFrame s (afterFloor s) ∧ gateFrame s (afterFloor s) := by
  rw [afterFloor_of_nobody h]
  exact ⟨restFilters_floor s, withGate_seats s _, withGate_log s _, withGate_notices s _, floorFrame_withGate s _,
    gateFrame_restFilters s⟩

/-- Settles O29: with a fuel that always suffices, the event ends where no step is left. -/
theorem slotsFillAtTheEnd : Obligations.SlotsFillAtTheEnd := by
  refine ⟨advanceLaw_afterFloor, fun s hmode => ?_, fun s h => afterFloor_nobody h, fun s r q hfree hq hmode => ?_,
    fun s n hfree hmode hn => ?_, fun s n hn => candidate_spec hn⟩
  · obtain ⟨hdone, -⟩ := advanceUpTo_enough (s := s) (Nat.le_refl _)
    have hvoice : (advanceUpTo (seatsWaiting s) s).floor.setup.mode = .voice :=
      advanceUpTo_keeps (P := fun u => u.floor.setup.mode = .voice)
        (fun u v hu hv => by rw [advanceOnce_setup hv]; exact hu) _ s hmode
    show slotFree (restFilters (advanceUpTo (seatsWaiting s) s)).floor = false ∨
      candidate (restFilters (advanceUpTo (seatsWaiting s) s)) = none
    generalize advanceUpTo (seatsWaiting s) s = t at hdone hvoice
    rw [restFilters_floor]
    cases hfree : slotFree t.floor with
    | false => exact Or.inl rfl
    | true =>
      have hcand : candidate t = none := by
        unfold advanceOnce at hdone
        rw [if_pos hfree, hvoice] at hdone
        exact Option.map_eq_none_iff.mp hdone
      refine Or.inr (candidate_eq_none fun n hn => ?_)
      rw [restFilters_floor] at hn
      rw [look_restFilters]
      split
      · exact candidate_none hcand n hn
      · rfl
  · rw [← joinOpen_eq]
    refine afterFloor_of_step ?_
    unfold advanceOnce
    rw [if_pos hfree, hq]
    obtain hd | ⟨hqueued, hauto⟩ := hmode
    · rw [hd]; rfl
    · rw [hqueued, hauto]; rfl
  · rw [← joinOpen_eq]
    refine afterFloor_of_step ?_
    unfold advanceOnce
    rw [if_pos hfree, hmode, hn]; rfl

end Sys2Proof.Machine
end

section
/-!
PROOFS. PRESSES, FLOOR COMMANDS AND THE HOLD END (R35 to R39, R43, R44, R46, R57 to R65): each operation in the terms of
the statements, by the mode, the mic state and the floor state.
-/

namespace Sys2Proof.Machine

/-! ### Operations on the lists -/

/-- A seat taken out of whatever part it has on the floor (R44, R51, R52). -/
theorem takeOut_eq (close : CloseReason) (cancel : CancelReason) (n : Seat) (s : State) :
    takeOut close cancel n s = withLeft close cancel n s := by
  unfold takeOut withLeft
  cases h : micState s.floor n with
  | opened => exact closeOpen_eq (micState_opened.mp h)
  | waiting => exact leaveQueue_eq (hasRequest_of_waiting h)
  | held => exact closeShadow_eq (hasEntry_of_held h)
  | armed => rfl
  | off => rfl

theorem withLeft_opened {close : CloseReason} {cancel : CancelReason} {n : Seat} {s : State}
    (h : micState s.floor n = .opened) : withLeft close cancel n s = withClosed close n s := by
  unfold withLeft; rw [h]

theorem withLeft_waiting {close : CloseReason} {cancel : CancelReason} {n : Seat} {s : State}
    (h : micState s.floor n = .waiting) : withLeft close cancel n s = withCancelled cancel n s := by
  unfold withLeft; rw [h]

theorem withLeft_held {close : CloseReason} {cancel : CancelReason} {n : Seat} {s : State}
    (h : micState s.floor n = .held) : withLeft close cancel n s = withUnheld close n s := by
  unfold withLeft; rw [h]

theorem withLeft_armed {close : CloseReason} {cancel : CancelReason} {n : Seat} {s : State}
    (h : micState s.floor n = .armed) : withLeft close cancel n s = withDisarmed n s := by
  unfold withLeft; rw [h]

theorem withLeft_off {close : CloseReason} {cancel : CancelReason} {n : Seat} {s : State}
    (h : micState s.floor n = .off) : withLeft close cancel n s = s := by
  unfold withLeft; rw [h]

/-- OVERRIDE with a slot free opens the seat (R37). -/
theorem overrideOpen_free {how : How} {n : Seat} {s : State} (h : delegates s.floor ≠ s.floor.setup.maxOpen) :
    overrideOpen how n s = checkTimer n (withOpened how n s) := by
  unfold overrideOpen; dsimp only; rw [if_neg h, joinOpen_eq]

/-- A press that joins the queue has its place and position, or is refused (R32, R35, R62). -/
theorem queues_pressQueue {n : Seat} {stamp : Stamp} {s : State} (hoff : micState s.floor n = .off) :
    Statements.queues n stamp s (afterFloor (pressQueue n stamp s)) := by
  obtain ⟨-, hnot, -, -⟩ := lists_of_off hoff
  refine ⟨fun hroom => ?_, fun hfull => by unfold pressQueue; rw [if_neg (Nat.not_lt.mpr hfull)]⟩
  obtain ⟨a, b, hqueue, hinsert, ha, hb⟩ :=
    insertRequest_split s.time.stamp { seat := n, stamp := stamp } s.floor.queue
  have hothers : ∀ e ∈ a, e.seat ≠ n := by
    intro e he hn
    have : hasRequest s.floor.queue n = true :=
      List.any_eq_true.mpr ⟨e, by rw [hqueue]; exact List.mem_append_left _ he, decide_eq_true hn⟩
    rw [hnot] at this; cases this
  refine ⟨a, b, hqueue, ha, hb, ?_⟩
  unfold pressQueue; rw [if_pos hroom]
  unfold joinQueue; dsimp only
  rw [hinsert, queuePosition_split n _ rfl a b hothers]

/-! ### Button events -/

section Button

variable {n : Seat} {stamp : Stamp} {s : State}

theorem press_running (b : ButtonName) (hp : s.floor.phase = .running) :
    buttonEvent b true n stamp s = afterFloor (pressRunning b n stamp s) := by
  unfold buttonEvent pressEffect; rw [if_pos rfl, hp]

theorem press_hold (b : ButtonName) (hp : s.floor.phase = .hold) :
    buttonEvent b true n stamp s = afterFloor (pressHold b n stamp s) := by
  unfold buttonEvent pressEffect; rw [if_pos rfl, hp]

theorem mic_running (hp : s.floor.phase = .running) (hd : effectiveRole s n = .delegate) :
    buttonEvent .mic true n stamp s = afterFloor (delegatePress n stamp s) := by
  rw [press_running _ hp]; unfold pressRunning; rw [hd]

theorem mic_hold (hp : s.floor.phase = .hold) (hd : effectiveRole s n = .delegate) :
    buttonEvent .mic true n stamp s = afterFloor (delegatePressHold n stamp s) := by
  rw [press_hold _ hp]; unfold pressHold; rw [hd]

theorem mic_chair (hp : s.floor.phase = .running ∨ s.floor.phase = .hold) (hc : effectiveRole s n = .chair) :
    buttonEvent .mic true n stamp s = afterFloor (chairPress n s) := by
  rcases hp with hp | hp
  · rw [press_running _ hp]; unfold pressRunning; rw [hc]
  · rw [press_hold _ hp]; unfold pressHold; rw [hc]

theorem press_dead (b : ButtonName) (hp : s.floor.phase = .closed ∨ s.floor.phase = .alert) :
    buttonEvent b true n stamp s = afterFloor (refuse n s) := by
  unfold buttonEvent pressEffect; rw [if_pos rfl]
  rcases hp with hp | hp <;> rw [hp]

theorem pressRunning_refused {b : ButtonName} (h : effectiveRole s n = .listenOnly ∨
    effectiveRole s n = .delegate ∧ b ≠ .mic) : pressRunning b n stamp s = refuse n s := by
  unfold pressRunning
  obtain h | ⟨h, hb⟩ := h
  · rw [h]; cases b <;> rfl
  · rw [h]
    cases b with
    | mic => exact absurd rfl hb
    | priority => rfl
    | next => rfl

theorem pressHold_refused {b : ButtonName} (h : effectiveRole s n = .listenOnly ∨
    effectiveRole s n = .delegate ∧ b ≠ .mic) : pressHold b n stamp s = refuse n s := by
  unfold pressHold
  obtain h | ⟨h, hb⟩ := h
  · rw [h]; cases b <;> rfl
  · rw [h]
    cases b with
    | mic => exact absurd rfl hb
    | priority => rfl
    | next => rfl

/-- A press of a seat whose role gives the button no meaning is refused in every floor state (R34). -/
theorem press_refused {b : ButtonName}
    (h : effectiveRole s n = .listenOnly ∨ effectiveRole s n = .delegate ∧ b ≠ .mic) :
    buttonEvent b true n stamp s = afterFloor (refuse n s) := by
  cases hp : s.floor.phase with
  | closed => exact press_dead b (Or.inl hp)
  | alert => exact press_dead b (Or.inr hp)
  | running => rw [press_running b hp, pressRunning_refused h]
  | hold => rw [press_hold b hp, pressHold_refused h]

theorem delegatePress_opened (h : micState s.floor n = .opened) :
    delegatePress n stamp s = withClosed .press n s := by
  unfold delegatePress; rw [h, ← closeOpen_eq (micState_opened.mp h)]
  cases s.floor.setup.mode <;> rfl

theorem delegatePressHold_held (h : micState s.floor n = .held) :
    delegatePressHold n stamp s = withUnheld .press n s := by
  unfold delegatePressHold; rw [h, ← closeShadow_eq (hasEntry_of_held h)]
  cases s.floor.setup.mode <;> rfl

end Button

/-- Settles O31: the delegate's press by mode and mic state. -/
theorem micPressesByMode : Obligations.MicPressesByMode := by
  intro n stamp s hp hd
  dsimp only
  rw [mic_running hp hd]
  refine ⟨fun hmode hmic hfree => ?_, fun hmode hmic => ?_, fun hmode hmic => ?_, fun hmic => ?_,
    fun hmode hmic => ⟨fun hfree => ?_, fun e hfull he => ?_⟩, fun hmode hmic => ?_, fun hmode hmic => ?_⟩
  · unfold delegatePress; rw [hmode, hmic, ← joinOpen_eq]
    exact congrArg afterFloor (if_pos hfree)
  · have hqueue : delegatePress n stamp s = pressQueue n stamp s := by
      unfold delegatePress; rw [hmic]
      obtain ⟨hmode, hfull⟩ | hmode := hmode
      · rw [hmode, hfull]; rfl
      · rw [hmode]
    rw [hqueue]; exact queues_pressQueue hmic
  · unfold delegatePress; rw [hmic, ← leaveQueue_eq (hasRequest_of_waiting hmic)]
    rcases hmode with hmode | hmode <;> rw [hmode]
  · rw [delegatePress_opened hmic]
  · unfold delegatePress; rw [hmode, hmic, ← overrideOpen_free hfree]
  · unfold delegatePress; rw [hmode, hmic, ← overrideOpen_full hfull he]
  · unfold delegatePress; rw [hmode, hmic]; rfl
  · unfold delegatePress; rw [hmode, hmic]; rfl

theorem releaseEffect_none {b : ButtonName} {n : Seat} {s : State}
    (h : b ≠ .priority ∨ effectiveRole s n ≠ .chair ∨ s.floor.holders.contains n = false) :
    releaseEffect b n s = s := by
  unfold releaseEffect; split
  · next hboth =>
    obtain ⟨hb, hc⟩ := hboth
    have hnot : s.floor.holders.contains n = false := (h.resolve_left fun hne => hne hb).resolve_left fun hne => hne hc
    unfold leaveHolders; rw [hnot]; rfl
  · rfl

/-- Settles O32: the other events by floor state, role and button. -/
theorem otherButtonEvents : Obligations.OtherButtonEvents := by
  intro n stamp s
  refine ⟨fun hp hc => ⟨fun hout => ?_, fun hin => ?_⟩, fun hp hc => ⟨fun r q hfree hq => ?_, fun hno => ?_, ?_⟩,
    fun hp hc => ⟨?_, ?_⟩, fun h b => ?_, fun hd => ⟨?_, ?_⟩, fun hp hd => ?_, fun b h => ?_,
    fun hp hc hmem => ⟨fun hothers => ?_, fun hremote hall => ?_⟩⟩
  · rw [mic_chair hp hc]; unfold chairPress
    rw [hout, joinOpen_eq, checkTimer_withOpened_chair _ _ _ hc hout]; rfl
  · rw [mic_chair hp hc]; unfold chairPress
    rw [if_pos hin, closeOpen_eq hin]
  · rw [press_running _ hp]; unfold pressRunning; rw [hc]
    dsimp only; rw [grant_of_head hfree hq]; rfl
  · rw [press_running _ hp]; unfold pressRunning; rw [hc]
    dsimp only; rw [grant_eq_none hno]; rfl
  · rw [press_running _ hp]; unfold pressRunning; rw [hc]
    dsimp only; unfold priorityPress; rw [if_pos hp]; rfl
  · rw [press_hold _ hp]; unfold pressHold; rw [hc]
    dsimp only; unfold priorityPress; rw [if_neg (by rw [hp]; nofun)]
  · rw [press_hold _ hp]; unfold pressHold; rw [hc]
  · rcases h with h | h | h
    · exact press_dead b (Or.inl h)
    · exact press_dead b (Or.inr h)
    · exact press_refused (Or.inl h)
  · exact press_refused (Or.inr ⟨hd, nofun⟩)
  · exact press_refused (Or.inr ⟨hd, nofun⟩)
  · dsimp only
    rw [mic_hold hp hd]
    refine ⟨fun hmode hmic => ?_, fun hmode hmic => ?_, fun hmode hmic => ?_, fun hmode hmic => ?_, fun hmic => ?_⟩
    · have hqueue : delegatePressHold n stamp s = pressQueue n stamp s := by
        unfold delegatePressHold; rw [hmic]
        rcases hmode with hmode | hmode <;> rw [hmode]
      rw [hqueue]; exact queues_pressQueue hmic
    · unfold delegatePressHold; rw [hmic]
      rcases hmode with hmode | hmode <;> rw [hmode]
    · unfold delegatePressHold; rw [hmic, ← leaveQueue_eq (hasRequest_of_waiting hmic)]
      rcases hmode with hmode | hmode <;> rw [hmode]
    · unfold delegatePressHold; rw [hmode, hmic]; rfl
    · rw [delegatePressHold_held hmic]
  · unfold buttonEvent; rw [if_neg nofun, releaseEffect_none h]
  · unfold buttonEvent releaseEffect leaveHolders
    rw [if_neg nofun, if_pos ⟨rfl, hc⟩, if_pos hmem]
    have hsome : holdersSome { s.floor with holders := eraseSeat n s.floor.holders } = true := by
      rcases hothers with hr | hany
      · simp [holdersSome, hr]
      · obtain ⟨m, hm, hne⟩ := List.any_eq_true.mp hany
        have : eraseSeat n s.floor.holders ≠ [] := List.ne_nil_of_mem (List.mem_filter.mpr ⟨hm, hne⟩)
        simp [holdersSome, this]
    unfold endHoldIfFree
    rw [if_neg]
    · rfl
    · rintro ⟨-, hnone⟩
      exact nomatch hsome.symm.trans hnone
  · unfold buttonEvent releaseEffect leaveHolders
    rw [if_neg nofun, if_pos ⟨rfl, hc⟩, if_pos hmem]
    have hnil : eraseSeat n s.floor.holders = [] := by
      rw [eraseSeat, List.filter_eq_nil_iff]
      intro m hm
      have := of_decide_eq_true (List.all_eq_true.mp hall m hm)
      simp [this]
    unfold endHoldIfFree
    rw [hnil, if_pos ⟨hp, by show holdersSome { s.floor with holders := [] } = false; simp [holdersSome, hremote]⟩]

/-! ### Commands at the floor -/

/-- Settles O33: the reply by floor state, and by whether a holder is left. -/
theorem priorityCommands : Obligations.PriorityCommands := by
  intro s rest tag
  refine ⟨fun h => ⟨fun hp => ?_, fun hp => ?_, fun hp => ?_⟩, fun h => ⟨fun hno => ?_, fun hr hsome => ?_,
    fun hr hnil hp => ?_⟩⟩
  · refine exec_done rfl h ?_
    show priorityOnReply _ = _
    unfold priorityOnReply; rw [show (taken s rest).floor.phase = .running from hp]; rfl
  · refine exec_done rfl h ?_
    show priorityOnReply _ = _
    unfold priorityOnReply; rw [show (taken s rest).floor.phase = .hold from hp]; rfl
  · refine exec_refused (rest := rest) rfl h ?_
    show priorityOnReply _ = _
    unfold priorityOnReply
    rcases hp with hp | hp
    · rw [show (taken s rest).floor.phase = .closed from hp]
    · rw [show (taken s rest).floor.phase = .alert from hp]
  · refine exec_done rfl h ?_
    show priorityOffReply _ = _
    unfold priorityOffReply; rw [show (taken s rest).floor.remote = false from hno]; rfl
  · refine exec_done rfl h ?_
    show priorityOffReply _ = _
    unfold priorityOffReply; rw [show (taken s rest).floor.remote = true from hr, if_pos rfl]
    unfold endHoldIfFree; rw [if_neg]
    · rfl
    · rintro ⟨-, hnone⟩
      have hnil : (taken s rest).floor.holders = [] := by simpa [holdersSome] using hnone
      exact hsome hnil
  · refine exec_done rfl h ?_
    show priorityOffReply _ = _
    unfold priorityOffReply; rw [show (taken s rest).floor.remote = true from hr, if_pos rfl]
    unfold endHoldIfFree; rw [if_pos]
    · rfl
    · refine ⟨hp, ?_⟩
      show holdersSome { s.floor with remote := false } = false
      simp [holdersSome, hnil]

/-- SEAT OPEN refused with `STATE` (R43). -/
theorem stateRefused_eq (n : Seat) (s : State) :
    stateRefused n s =
      { state := if takesPart (presenceOf s n) then refuse n s else s, code := .state, result := [] } := rfl

/-- Settles O35: the checks of R43 in their order. -/
theorem seatOpenChecks : Obligations.SeatOpenChecks := by
  intro s rest tag k h
  dsimp only
  refine ⟨fun hbig => exec_refused rfl h ?_, ?_⟩
  · simp only [withForm, seatOpenReply, index?_of_le hbig]
  · rintro n rfl
    have reply : withForm (some n.val) seatOpenReply (taken s rest) = openSeat n (taken s rest) := by
      simp only [withForm, seatOpenReply, index?_val]
    have state : ∀ {t : State}, openSeat n (taken s rest) = { state := t, code := .state, result := [] } →
        exec (.seatOpen tag (some n.val)) s = .next (answered tag 0x10 .state [] t) :=
      fun hr => exec_of_ready rfl h (reply.trans hr)
    have done' : ∀ {t : State}, openSeat n (taken s rest) = done t →
        exec (.seatOpen tag (some n.val)) s = .next (answered tag 0x10 .done [] t) :=
      fun hr => exec_done rfl h (reply.trans hr)
    refine ⟨fun hdead => state (if_pos hdead), fun hl => ?_⟩
    have hlive : ¬ ((taken s rest).floor.phase = .closed ∨ (taken s rest).floor.phase = .alert) := not_live_of hl
    refine ⟨fun hnot => state ?_, fun hpart => ?_⟩
    · exact (if_neg hlive).trans (if_pos hnot)
    have hpart' : takesPart (presenceOf (taken s rest) n) = true := hpart
    have open_eq : openSeat n (taken s rest) = _ :=
      (if_neg hlive).trans (if_neg (by rw [hpart']; nofun))
    have refused : stateRefused n (taken s rest) =
        { state := refuse n (taken s rest), code := .state, result := [] } := by
      rw [stateRefused_eq, if_pos hpart']
    refine ⟨fun hrole => state ?_, fun hrole hin => done' ?_, fun hrole hout => done' ?_, fun hrole hout => ⟨fun hp =>
      state ?_, fun hp => ?_⟩⟩
    · rw [open_eq, show effectiveRole (taken s rest) n = .listenOnly from hrole]; exact refused
    · rw [open_eq]
      cases hr : effectiveRole (taken s rest) n with
      | listenOnly => exact absurd hr hrole
      | chair => exact if_pos hin
      | delegate => exact if_pos hin
    · rw [open_eq, show effectiveRole (taken s rest) n = .chair from hrole,
        ← checkTimer_withOpened_chair (s := taken s rest) _ _ hrole hout, ← joinOpen_eq]
      exact if_neg (by rw [show hasEntry (taken s rest).floor.openList n = false from hout]; nofun)
    · rw [open_eq, show effectiveRole (taken s rest) n = .delegate from hrole]
      exact (if_neg (by rw [show hasEntry (taken s rest).floor.openList n = false from hout]; nofun)).trans
        ((if_pos hp).trans refused)
    · have hopen : openSeat n (taken s rest) = openDelegate n (taken s rest) := by
        rw [open_eq, show effectiveRole (taken s rest) n = .delegate from hrole]
        exact (if_neg (by rw [show hasEntry (taken s rest).floor.openList n = false from hout]; nofun)).trans
          (if_neg (by rw [show (taken s rest).floor.phase = .running from hp]; nofun))
      refine ⟨fun hmode => ⟨fun hfree => done' ?_, fun hfull => state ?_⟩, fun hmode => ⟨fun hfree => done' ?_,
        fun e hfull he => done' ?_⟩, fun hmode => ⟨fun hmic => done' ?_, fun hmic => done' ?_⟩⟩
      · rw [hopen]; unfold openDelegate; rw [← joinOpen_eq]
        rcases hmode with hm | hm
        · rw [show (taken s rest).floor.setup.mode = .direct from hm]; exact if_pos hfree
        · rw [show (taken s rest).floor.setup.mode = .queued from hm]; exact if_pos hfree
      · have hno : ¬ slotFree (taken s rest).floor = true := by
          rw [show slotFree (taken s rest).floor = false from hfull]; nofun
        rw [hopen, ← refused]; unfold openDelegate
        rcases hmode with hm | hm
        · rw [show (taken s rest).floor.setup.mode = .direct from hm]; exact if_neg hno
        · rw [show (taken s rest).floor.setup.mode = .queued from hm]; exact if_neg hno
      · rw [hopen]; unfold openDelegate
        rw [show (taken s rest).floor.setup.mode = .overrideMode from hmode]; dsimp only
        rw [overrideOpen_free (s := taken s rest) hfree]
      · rw [hopen]; unfold openDelegate
        rw [show (taken s rest).floor.setup.mode = .overrideMode from hmode]; dsimp only
        rw [overrideOpen_full (s := taken s rest) hfull he]
      · rw [hopen]; unfold openDelegate
        rw [show (taken s rest).floor.setup.mode = .voice from hmode]; dsimp only
        exact if_neg (by rw [show micState (taken s rest).floor n = .off from hmic]; nofun)
      · rw [hopen]; unfold openDelegate
        rw [show (taken s rest).floor.setup.mode = .voice from hmode]; exact if_pos hmic

/-- Settles O36: SEAT CLOSE by mic state; QUEUE CLEAR by whether a seat waits. -/
theorem seatCloseAndQueueClear : Obligations.SeatCloseAndQueueClear := by
  intro s rest tag
  refine ⟨fun k h => ⟨fun hbig => exec_refused rfl h ?_, ?_⟩, fun h => ⟨fun hnil => exec_done rfl h ?_,
    fun hsome => exec_done rfl h ?_⟩⟩
  · simp only [withForm, seatCloseReply, index?_of_le hbig]
  · rintro n rfl
    have reply : ∀ {t : State}, withLeft .command .command n (taken s rest) = t →
        exec (.seatClose tag (some n.val)) s = .next (answered tag 0x11 .done [] (afterFloor t)) := by
      rintro t rfl
      refine exec_done rfl h ?_
      simp only [withForm, seatCloseReply, index?_val, takeOut_eq]
    exact ⟨fun hm => reply (withLeft_opened (s := taken s rest) hm),
      fun hm => reply (withLeft_waiting (s := taken s rest) hm), fun hm => reply (withLeft_held (s := taken s rest) hm),
      fun hm => reply (withLeft_armed (s := taken s rest) hm), fun hm => reply (withLeft_off (s := taken s rest) hm)⟩
  · show done (afterFloor (clearQueue _)) = _
    unfold clearQueue; rw [show (taken s rest).floor.queue = [] from hnil]; rfl
  · show done (afterFloor (clearQueue _)) = _
    unfold clearQueue
    rw [if_neg (by show ¬ s.floor.queue.isEmpty = true; simpa using hsome)]; rfl

end Sys2Proof.Machine
end

section
/-!
PROOFS. THE FLOOR'S OPERATIONS IN THE TERMS OF THE STATEMENTS, for no seat twice in a list: closing several seats one by
one (R48, R50, R59, R68), the emptied floor (R50, R66, R71), the recomputation (R80), and the hold end (R63). What the
floor's operations neither read nor write may be taken from any other state (`graft`).
-/

namespace Sys2Proof.Machine

/-! ### What the floor's operations do not touch -/

/-- The blocks that the floor's operations neither read nor write, taken from another state. -/
def graft (o s : State) : State :=
  { o with
    time := s.time, seats := s.seats, seatTable := s.seatTable, floor := s.floor, gate := s.gate
    clock := s.clock, log := s.log, notices := s.notices }

theorem graft_record (o : State) (e : LogEvent) (n : Option Seat) (s : State) :
    record e n (graft o s) = graft o (record e n s) := rfl

theorem graft_foldl {α : Type} {f : State → α → State} {o : State} (h : ∀ s a, f (graft o s) a = graft o (f s a))
    (l : List α) (s : State) : l.foldl f (graft o s) = graft o (l.foldl f s) := by
  induction l generalizing s with
  | nil => rfl
  | cons a l ih => rw [List.foldl_cons, List.foldl_cons, h, ih]

theorem graft_withClosed (o : State) (r : CloseReason) (n : Seat) (s : State) :
    withClosed r n (graft o s) = graft o (withClosed r n s) := rfl

theorem graft_withUnheld (o : State) (r : CloseReason) (n : Seat) (s : State) :
    withUnheld r n (graft o s) = graft o (withUnheld r n s) := rfl

theorem graft_closeOpen (o : State) (r : CloseReason) (n : Seat) (s : State) :
    closeOpen r n (graft o s) = graft o (closeOpen r n s) := by
  unfold closeOpen
  by_cases h : hasEntry s.floor.openList n = true
  · rw [if_pos h, if_pos (show hasEntry (graft o s).floor.openList n = true from h)]; rfl
  · rw [if_neg h, if_neg (show ¬ hasEntry (graft o s).floor.openList n = true from h)]

theorem graft_checkWarning (o : State) (n : Seat) (s : State) :
    checkWarning n (graft o s) = graft o (checkWarning n s) := by
  unfold checkWarning
  rw [show openTimer (graft o s).floor n = openTimer s.floor n from rfl]
  cases openTimer s.floor n with
  | none => rfl
  | some t => dsimp only; split <;> rfl

theorem graft_checkLimit (o : State) (n : Seat) (s : State) :
    checkLimit n (graft o s) = graft o (checkLimit n s) := by
  unfold checkLimit limitClose limitNotify
  rw [show openTimer (graft o s).floor n = openTimer s.floor n from rfl,
    show (graft o s).floor.setup.action = s.floor.setup.action from rfl]
  cases s.floor.setup.action with
  | close =>
    cases openTimer s.floor n with
    | none => rfl
    | some t =>
      dsimp only; split
      · exact graft_closeOpen o _ n s
      · rfl
  | notify =>
    cases openTimer s.floor n with
    | none => rfl
    | some t => dsimp only; split <;> rfl

theorem graft_checkTimer (o : State) (n : Seat) (s : State) :
    checkTimer n (graft o s) = graft o (checkTimer n s) := by
  unfold checkTimer; rw [graft_checkWarning, graft_checkLimit]

theorem graft_joinOpen (o : State) (how : How) (n : Seat) (s : State) :
    joinOpen how n (graft o s) = graft o (joinOpen how n s) := by
  rw [joinOpen_eq, joinOpen_eq, show withOpened how n (graft o s) = graft o (withOpened how n s) from rfl,
    graft_checkTimer]

theorem graft_candidate (o s : State) : candidate (graft o s) = candidate s := rfl

theorem graft_advanceOnce (o s : State) : advanceOnce (graft o s) = (advanceOnce s).map (graft o) := by
  have head : s.floor.queue.head?.map (fun r => joinOpen .auto r.seat (graft o s)) =
      (s.floor.queue.head?.map (fun r => joinOpen .auto r.seat s)).map (graft o) := by
    rw [Option.map_map]
    exact congrArg (fun f => s.floor.queue.head?.map f) (funext fun r => graft_joinOpen o _ _ s)
  unfold advanceOnce
  rw [show (graft o s).floor = s.floor from rfl, graft_candidate]
  split
  · split
    · exact head
    · split
      · exact head
      · rfl
    · rfl
    · rw [Option.map_map]
      exact congrArg (fun f => (candidate s).map f) (funext fun n => graft_joinOpen o _ n s)
  · rfl

theorem graft_advanceUpTo (o : State) (k : Nat) (s : State) :
    advanceUpTo k (graft o s) = graft o (advanceUpTo k s) := by
  induction k generalizing s with
  | zero => rfl
  | succ k ih =>
    unfold advanceUpTo; rw [graft_advanceOnce]
    cases advanceOnce s with
    | none => rfl
    | some t => exact ih t

theorem graft_restFilters (o s : State) : restFilters (graft o s) = graft o (restFilters s) := by
  have hset : inFilteredSet (graft o s) = inFilteredSet s := rfl
  unfold restFilters; rw [hset]; rfl

theorem graft_afterFloor (o s : State) : afterFloor (graft o s) = graft o (afterFloor s) := by
  unfold afterFloor
  rw [show (graft o s).floor = s.floor from rfl, graft_advanceUpTo, graft_restFilters]

/-! ### Closing several seats -/

theorem hasEntry_iff {l : List Entry} {n : Seat} : hasEntry l n = true ↔ n ∈ l.map Entry.seat := by
  rw [hasEntry, List.any_eq_true, List.mem_map]
  exact ⟨fun ⟨e, he, h⟩ => ⟨e, he, of_decide_eq_true h⟩, fun ⟨e, he, h⟩ => ⟨e, he, decide_eq_true h⟩⟩

theorem mem_filter_seat {l : List Entry} {m n : Seat} (hm : m ∈ l.map Entry.seat) (hne : m ≠ n) :
    m ∈ (l.filter (fun e => decide (e.seat ≠ n))).map Entry.seat := by
  obtain ⟨e, he, rfl⟩ := List.mem_map.mp hm
  exact List.mem_map.mpr ⟨e, List.mem_filter.mpr ⟨he, decide_eq_true hne⟩, rfl⟩

/-- Seats of the Open List close one by one, each with its record. -/
theorem closeOpenSeats_eq {r : CloseReason} {l : List Seat} {s : State} (hl : l.Nodup)
    (hin : ∀ n ∈ l, n ∈ s.floor.openList.map Entry.seat) :
    closeOpenSeats r l s = l.foldl (fun x n => withClosed r n x) s := by
  induction l generalizing s with
  | nil => rfl
  | cons n l ih =>
    obtain ⟨hn, hl'⟩ := List.nodup_cons.mp hl
    show closeOpenSeats r l (closeOpen r n s) = l.foldl _ (withClosed r n s)
    rw [closeOpen_eq (hasEntry_iff.mpr (hin n List.mem_cons_self))]
    exact ih hl' fun m hm => mem_filter_seat (hin m (List.mem_cons_of_mem _ hm)) fun h => hn (h ▸ hm)

/-- Seats of the Hold Shadow close one by one, each with its record. -/
theorem closeShadowSeats_eq {r : CloseReason} {l : List Seat} {s : State} (hl : l.Nodup)
    (hin : ∀ n ∈ l, n ∈ s.floor.shadow.map Entry.seat) :
    closeShadowSeats r l s = l.foldl (fun x n => withUnheld r n x) s := by
  induction l generalizing s with
  | nil => rfl
  | cons n l ih =>
    obtain ⟨hn, hl'⟩ := List.nodup_cons.mp hl
    show closeShadowSeats r l (closeShadow r n s) = l.foldl _ (withUnheld r n s)
    rw [closeShadow_eq (hasEntry_iff.mpr (hin n List.mem_cons_self))]
    exact ih hl' fun m hm => mem_filter_seat (hin m (List.mem_cons_of_mem _ hm)) fun h => hn (h ▸ hm)

/-! ### The emptied floor -/

theorem unqueued_eq (s : State) : clearArming (clearQueue s) = Statements.unqueued s := by
  unfold Statements.unqueued clearArming clearQueue
  by_cases h : s.floor.queue = []
  · rw [if_pos h, h]; rfl
  · rw [if_neg h, if_neg (by simpa using h)]

theorem foldl_withClosed_floor (r : CloseReason) (l : List Seat) (s : State) :
    (l.foldl (fun x n => withClosed r n x) s).floor.shadow = s.floor.shadow ∧
      (l.foldl (fun x n => withClosed r n x) s).floor.holders = s.floor.holders ∧
      (l.foldl (fun x n => withClosed r n x) s).floor.remote = s.floor.remote := by
  induction l generalizing s with
  | nil => exact ⟨rfl, rfl, rfl⟩
  | cons n l ih => rw [List.foldl_cons]; exact ih _

theorem closeEverything_eq {r : CloseReason} {s : State} (ho : seatsDistinct s.floor.openList)
    (hs : seatsDistinct s.floor.shadow) :
    closeEverything r s =
      (s.floor.shadow.map Entry.seat).foldl (fun x n => withUnheld r n x)
        ((s.floor.openList.map Entry.seat).foldl (fun x n => withClosed r n x) s) := by
  have hopen : closeOpenSeats r (seatsOf s.floor.openList) s =
      (s.floor.openList.map Entry.seat).foldl (fun x n => withClosed r n x) s :=
    closeOpenSeats_eq ho fun n hn => hn
  unfold closeEverything; dsimp only; rw [hopen]
  obtain ⟨hshadow, -, -⟩ := foldl_withClosed_floor r (s.floor.openList.map Entry.seat) s
  rw [hshadow]
  exact closeShadowSeats_eq hs fun n hn => by rw [hshadow]; exact hn

/-- The floor emptied for a meeting signal or an alert, spelt for no seat twice (R50, R66, R68, R71). -/
theorem emptied_eq {r : CloseReason} {s : State} (ho : seatsDistinct s.floor.openList)
    (hs : seatsDistinct s.floor.shadow) :
    clearHolders (clearArming (clearQueue (closeEverything r s))) = Statements.emptied r s := by
  rw [unqueued_eq]
  have hfloor : (Statements.unqueued (closeEverything r s)).floor =
      { s.floor with openList := [], shadow := [], queue := [], armed := [] } := by
    rw [← unqueued_eq]
    have hq : (clearQueue (closeEverything r s)).floor = { (closeEverything r s).floor with queue := [] } := by
      unfold clearQueue; split
      · next h => rw [List.isEmpty_iff] at h; rw [← h]
      · rfl
    show ({ (clearQueue (closeEverything r s)).floor with armed := [] } : Floor) = _
    rw [hq, closeEverything_floor]
  have hsome : holdersSome (Statements.unqueued (closeEverything r s)).floor = true ↔
      s.floor.remote = true ∨ s.floor.holders ≠ [] := by
    rw [hfloor]; simp [holdersSome]
  unfold Statements.emptied; dsimp only
  rw [← closeEverything_eq ho hs]
  unfold clearHolders
  by_cases h : s.floor.remote = true ∨ s.floor.holders ≠ []
  · rw [if_pos h, if_pos (hsome.mpr h)]
  · rw [if_neg h, if_neg fun h' => h (hsome.mp h')]

theorem graft_unqueued (o s : State) : Statements.unqueued (graft o s) = graft o (Statements.unqueued s) := by
  unfold Statements.unqueued
  rw [show (graft o s).floor = s.floor from rfl]
  split <;> rfl

theorem graft_emptied (o : State) (r : CloseReason) (s : State) :
    Statements.emptied r (graft o s) = graft o (Statements.emptied r s) := by
  unfold Statements.emptied
  rw [show (graft o s).floor = s.floor from rfl]
  dsimp only
  rw [graft_foldl (fun s n => graft_withClosed o r n s), graft_foldl (fun s n => graft_withUnheld o r n s),
    graft_unqueued]
  split <;> rfl

/-! ### The recomputation -/

theorem reached_eq_any (elapsed : Nat) (x : Option Nat) :
    reached elapsed x = x.any (fun k => decide (k ≤ elapsed)) := by
  cases x <;> rfl

/-- An entry's recomputed timer (R75, R80). -/
theorem realignEntry_eq (f : FloorSetup) (table : Vector SeatEntry 64) :
    realignEntry f table = Statements.realigned f table := by
  funext e
  have hcompares : comparesOf f e.chair (look table e.seat).exempt =
      (if (e.chair || (look table e.seat).exempt) = true then none else f.limit.map (fun l => (l - f.lead) * 1000),
        if (e.chair || (look table e.seat).exempt) = true then none else f.limit.map (fun l => l * 1000)) := by
    unfold comparesOf; split
    · rfl
    · cases f.limit <;> rfl
  unfold realignEntry Statements.realigned realign
  rw [hcompares, reached_eq_any, reached_eq_any]

theorem recomputeAll_eq (s : State) : recomputeAll s = Statements.recomputed s := by
  unfold recomputeAll Statements.recomputed; dsimp only
  rw [realignEntry_eq]; rfl

theorem graft_recomputed (o s : State) : Statements.recomputed (graft o s) = graft o (Statements.recomputed s) := by
  exact graft_foldl (f := fun u n => checkTimer n u) (fun s n => graft_checkTimer o n s) _
    (s.withFloor
      { s.floor with
        openList := s.floor.openList.map (Statements.realigned s.floor.setup s.seatTable)
        shadow := s.floor.shadow.map (Statements.realigned s.floor.setup s.seatTable) })

/-! ### The hold end -/

/-- Only the floor, the log and the notices may differ. -/
structure ListFrame (s t : State) : Prop where
  seats : t.seats = s.seats
  gate : t.gate = s.gate
  frame : floorFrame s t

theorem ListFrame.refl (s : State) : ListFrame s s := ⟨rfl, rfl, floorFrame_refl s⟩

theorem ListFrame.trans {s t u : State} (h : ListFrame s t) (k : ListFrame t u) : ListFrame s u :=
  ⟨k.seats.trans h.seats, k.gate.trans h.gate, floorFrame_trans h.frame k.frame⟩

theorem listFrame_record (e : LogEvent) (n : Option Seat) (x : Floor) (s : State) :
    ListFrame s (record e n (s.withFloor x)) :=
  ⟨rfl, rfl, by constructor <;> rfl⟩

theorem ListFrame.foldl {α : Type} {f : State → α → State} (h : ∀ s a, ListFrame s (f s a)) (l : List α) (s : State) :
    ListFrame s (l.foldl f s) := by
  induction l generalizing s with
  | nil => exact .refl s
  | cons a l ih => exact (h s a).trans (ih _)

/-- Steps that append one record each. -/
theorem nextSeq_foldl {α : Type} {f : State → α → State} (h : ∀ s a, (f s a).log.nextSeq = s.log.nextSeq + 1)
    (l : List α) (s : State) : (l.foldl f s).log.nextSeq = s.log.nextSeq + BitVec.ofNat 16 l.length := by
  induction l generalizing s with
  | nil => simp
  | cons a l ih =>
    rw [List.foldl_cons, ih, h, BitVec.add_assoc, List.length_cons, Nat.add_comm l.length 1, BitVec.ofNat_add]; rfl

/-- The check of a restored entry against the Voice Gate, spelt (R64). -/
theorem voiceCheck_eq : voiceCheck = fun x n =>
    if (look x.gate.filters n).present = false ∧ hasEntry x.floor.openList n = true then
      record (.micClose .voiceHold) (some n)
        (x.withFloor
          { x.floor with
            openList := x.floor.openList.filter (fun e => decide (e.seat ≠ n))
            armed := insertSeat n x.floor.armed })
    else x := by
  funext x n
  unfold voiceCheck closeVoiceHold
  cases hp : (look x.gate.filters n).present <;> cases he : hasEntry x.floor.openList n <;> rfl

/-- The seats behind the restored ones still stand in the Hold Shadow. -/
theorem rest_in_shadow {s : State} {room : Nat} (hs : seatsDistinct s.floor.shadow) :
    (seatsOf (s.floor.shadow.drop room)).Nodup ∧
      ∀ n ∈ seatsOf (s.floor.shadow.drop room),
        n ∈ ((s.floor.shadow.take room).foldl restoreEntry s).floor.shadow.map Entry.seat := by
  unfold seatsDistinct at hs
  rw [← List.take_append_drop room s.floor.shadow, List.map_append] at hs
  obtain ⟨-, hdrop, hapart⟩ := List.nodup_append.mp hs
  refine ⟨hdrop, fun n hn => ?_⟩
  obtain ⟨e, he, rfl⟩ := List.mem_map.mp hn
  rw [restoreEntries_floor]
  refine List.mem_map.mpr ⟨e, List.mem_filter.mpr ⟨List.mem_of_mem_drop he, ?_⟩, rfl⟩
  rw [Bool.not_eq_true', ← Bool.not_eq_true, List.contains_iff_mem]
  exact fun hm => hapart _ hm _ hn rfl

/-- The restored floor, spelt for no seat twice in the Shadow (R63). -/
theorem restored_eq {s : State} (hs : seatsDistinct s.floor.shadow) :
    restored s =
      let room := s.floor.setup.maxOpen - delegates s.floor
      let closed := (s.floor.shadow.drop room).foldl (fun x e => withUnheld .restoreFull e.seat x)
        ((s.floor.shadow.take room).foldl restoreEntry s)
      closed.withFloor { closed.floor with phase := .running } := by
  obtain ⟨hnodup, hin⟩ := rest_in_shadow (room := s.floor.setup.maxOpen - delegates s.floor) hs
  unfold restored; dsimp only
  rw [closeShadowSeats_eq hnodup hin, seatsOf, List.foldl_map]

theorem listFrame_restored {s : State} (hs : seatsDistinct s.floor.shadow) : ListFrame s (restored s) := by
  rw [restored_eq hs]
  exact ((ListFrame.foldl (fun s e => listFrame_record _ _ _ s) _ s).trans
    (ListFrame.foldl (fun s e => listFrame_record _ _ _ s) _ _)).trans ⟨rfl, rfl, by constructor <;> rfl⟩

/-- Each entry of the Shadow gives one record, of its opening or of its closing. -/
theorem nextSeq_restored {s : State} (hs : seatsDistinct s.floor.shadow) :
    (restored s).log.nextSeq = s.log.nextSeq + BitVec.ofNat 16 s.floor.shadow.length := by
  rw [restored_eq hs]
  generalize s.floor.setup.maxOpen - delegates s.floor = room
  dsimp only
  rw [withFloor_log, nextSeq_foldl fun _ _ => rfl, nextSeq_foldl fun _ _ => rfl, BitVec.add_assoc, ← BitVec.ofNat_add,
    ← List.length_append, List.take_append_drop]

/-- Settles O34: the restored floor, its records counted, and the checks that follow. -/
theorem holdEndRestores : Obligations.HoldEndRestores := by
  rintro s hs room back rfl rfl
  dsimp only
  intro u hu
  have hu' : u = record (.holdEnd (s.floor.shadow.take (s.floor.setup.maxOpen - delegates s.floor)).length) none
      (restored s) := by
    rw [restored_eq hs]; exact hu
  clear hu
  subst hu'
  have hframe := (listFrame_restored hs).trans (t := restored s)
    (u := record (.holdEnd (s.floor.shadow.take (s.floor.setup.maxOpen - delegates s.floor)).length) none (restored s))
    ⟨rfl, rfl, by constructor <;> rfl⟩
  have hmeeting : (restored s).floor.meeting = s.floor.meeting := by rw [restored_floor]
  refine ⟨restored_floor s, ?_, ?_, hframe.seats, hframe.gate, hframe.frame, ?_⟩
  · have hnew := newestIs_record
      (.holdEnd (s.floor.shadow.take (s.floor.setup.maxOpen - delegates s.floor)).length) none (restored s)
    rw [hmeeting] at hnew
    rw [← List.length_take]; exact hnew
  · show (restored s).log.nextSeq + 1 = _
    rw [nextSeq_restored hs, BitVec.add_assoc, BitVec.ofNat_add]; rfl
  · rintro v rfl
    have hmode : (checkTimers (seatsOf (s.floor.shadow.take (s.floor.setup.maxOpen - delegates s.floor)))
        (record (.holdEnd (s.floor.shadow.take (s.floor.setup.maxOpen - delegates s.floor)).length) none
          (restored s))).floor.setup.mode = s.floor.setup.mode := by
      rw [(shrinks_checkTimers _ _).setup, record_floor, restored_floor]
    refine ⟨fun hne => (holdEnd_eq s).trans ?_, fun hvoice => (holdEnd_eq s).trans ?_⟩
    · exact congrArg afterFloor (if_neg (by rw [hmode]; exact hne))
    · rw [← voiceCheck_eq]
      exact congrArg afterFloor (if_pos (hmode.trans hvoice))

end Sys2Proof.Machine
end

section
/-!
PROOFS. SETUP CHANGES (R47 to R49, R80): the closes of a change of mode and of a smaller max open one by one, and the
recomputation that follows.
-/

namespace Sys2Proof.Machine

theorem listClosed_listFrame : ListClosed ListFrame where
  refl := .refl
  trans := .trans
  append _ _ _ _ := ⟨rfl, rfl, by constructor <;> rfl⟩
  floor _ _ := ⟨rfl, rfl, by constructor <;> rfl⟩

theorem eventClosed_seats : EventClosed (fun s t => t.seats = s.seats) where
  refl _ := rfl
  trans h k := k.trans h
  append _ _ _ _ := rfl
  floor _ _ := rfl
  gate _ _ := rfl

/-! ### What the end of a floor event leaves -/

/-- Seats have opened or closed at most in the Open List: the Hold Shadow stays as it is. -/
def ShadowSame (s t : State) : Prop := t.floor.shadow = s.floor.shadow

theorem ShadowSame.trans {s t u : State} (h : ShadowSame s t) (k : ShadowSame t u) : ShadowSame s u := Eq.trans k h

theorem shadowSame_closeOpen (r : CloseReason) (n : Seat) (s : State) : ShadowSame s (closeOpen r n s) := by
  unfold closeOpen; split <;> rfl

theorem shadowSame_checkWarning (n : Seat) (s : State) : ShadowSame s (checkWarning n s) := by
  unfold checkWarning; split
  · split <;> rfl
  · rfl

theorem shadowSame_checkLimit (n : Seat) (s : State) : ShadowSame s (checkLimit n s) := by
  unfold checkLimit; split
  · unfold limitClose; split
    · split
      · exact shadowSame_closeOpen _ n s
      · rfl
    · rfl
  · unfold limitNotify; split
    · split <;> rfl
    · rfl

theorem shadowSame_checkTimer (n : Seat) (s : State) : ShadowSame s (checkTimer n s) :=
  (shadowSame_checkWarning n s).trans (shadowSame_checkLimit n _)

theorem shadowSame_checkTimers (l : List Seat) (s : State) : ShadowSame s (checkTimers l s) := by
  induction l generalizing s with
  | nil => rfl
  | cons n l ih => exact (shadowSame_checkTimer n s).trans (ih _)

theorem shadowSame_joinOpen (how : How) (n : Seat) (s : State) : ShadowSame s (joinOpen how n s) := by
  rw [joinOpen_eq]; exact ShadowSame.trans (t := withOpened how n s) rfl (shadowSame_checkTimer n _)

/-- What the end of a floor event leaves of the floor. -/
structure EventEnd (s t : State) : Prop where
  phase : t.floor.phase = s.floor.phase
  setup : t.floor.setup = s.floor.setup
  meeting : t.floor.meeting = s.floor.meeting
  shadow : t.floor.shadow = s.floor.shadow

theorem eventEnd_joinOpen (how : How) (n : Seat) (s : State) : EventEnd s (joinOpen how n s) :=
  have h := joinOpen_shrinks how n s
  ⟨h.phase, h.setup, h.meeting, shadowSame_joinOpen how n s⟩

theorem eventEnd_afterFloor (s : State) : EventEnd s (afterFloor s) := by
  obtain ⟨h1, h2, h3, h4⟩ := advanceUpTo_keeps (P := EventEnd s) (fun u v hu hv => by
      obtain ⟨-, ⟨r, l, -, rfl⟩ | ⟨-, n, rfl⟩⟩ := advanceOnce_cases hv
      · have h := eventEnd_joinOpen .auto r.seat u
        exact ⟨h.phase.trans hu.phase, h.setup.trans hu.setup, h.meeting.trans hu.meeting, h.shadow.trans hu.shadow⟩
      · have h := eventEnd_joinOpen .voice n u
        exact ⟨h.phase.trans hu.phase, h.setup.trans hu.setup, h.meeting.trans hu.meeting, h.shadow.trans hu.shadow⟩)
    (s.floor.queue.length + s.floor.armed.length) s ⟨rfl, rfl, rfl, rfl⟩
  have hfloor := afterFloor_floor s
  exact ⟨by rw [hfloor]; exact h1, by rw [hfloor]; exact h2, by rw [hfloor]; exact h3, by rw [hfloor]; exact h4⟩

/-! ### Timers without points -/

/-- No timer of the Open List has a warn point or a limit point (R75). -/
def noPoints (s : State) : Prop := ∀ e ∈ s.floor.openList, e.timer.warn = none ∧ e.timer.limit = none

theorem openTimer_mem {f : Floor} {n : Seat} {t : Timer} (h : openTimer f n = some t) :
    ∃ e ∈ f.openList, e.timer = t := by
  obtain ⟨e, he, rfl⟩ := Option.map_eq_some_iff.mp h
  exact ⟨e, List.mem_of_find?_eq_some he, rfl⟩

/-- The check of a timer without points finds nothing (R76). -/
theorem checkTimer_of_pointless {n : Seat} {s : State}
    (h : ∀ t, openTimer s.floor n = some t → t.warn = none ∧ t.limit = none) : checkTimer n s = s := by
  have hnone : ∀ t, openTimer s.floor n = some t → warnDue t = false ∧ limitDue t = false := by
    intro t ht
    obtain ⟨hw, hl⟩ := h t ht
    simp [warnDue, limitDue, hw, hl, reached]
  have hwarn : checkWarning n s = s := by
    unfold checkWarning
    cases ht : openTimer s.floor n with
    | none => rfl
    | some t => dsimp only; rw [(hnone t ht).1]; rfl
  unfold checkTimer checkLimit limitClose limitNotify
  rw [hwarn]
  cases ht : openTimer s.floor n with
  | none => cases s.floor.setup.action <;> rfl
  | some t => dsimp only; rw [(hnone t ht).2]; cases s.floor.setup.action <;> rfl

theorem checkTimer_of_noPoints {n : Seat} {s : State} (h : noPoints s) : checkTimer n s = s :=
  checkTimer_of_pointless fun t ht => by
    obtain ⟨e, he, rfl⟩ := openTimer_mem ht
    exact h e he

theorem checkTimers_of_noPoints {l : List Seat} {s : State} (h : noPoints s) : checkTimers l s = s := by
  induction l with
  | nil => rfl
  | cons n l ih =>
    show checkTimers l (checkTimer n s) = s
    rw [checkTimer_of_noPoints h]; exact ih

/-- The floor with every timer recomputed, before the checks (R80). -/
def realignedFloor (s : State) : State :=
  s.withFloor
    { s.floor with
      openList := s.floor.openList.map (Statements.realigned s.floor.setup s.seatTable)
      shadow := s.floor.shadow.map (Statements.realigned s.floor.setup s.seatTable) }

theorem recomputed_eq (s : State) :
    Statements.recomputed s = checkTimers (seatsOf (realignedFloor s).floor.openList) (realignedFloor s) := rfl

theorem seatsOf_realigned (f : FloorSetup) (table : Vector SeatEntry 64) (l : List Entry) :
    seatsOf (l.map (Statements.realigned f table)) = seatsOf l := by
  unfold seatsOf; rw [List.map_map]; rfl

/-- With no limit, or with chairs only, a recomputation brings no match. -/
theorem recomputed_quiet {s : State} (h : s.floor.setup.limit = none ∨ ∀ e ∈ s.floor.openList, e.chair = true) :
    Statements.recomputed s = realignedFloor s := by
  rw [recomputed_eq]
  refine checkTimers_of_noPoints fun e he => ?_
  obtain ⟨x, hx, rfl⟩ := List.mem_map.mp he
  unfold Statements.realigned
  rcases h with hlimit | hchairs
  · rw [hlimit]; simp
  · rw [hchairs x hx]; simp

/-! ### The closes of a setup change -/

theorem nodup_delegateSeats {f : Floor} (h : seatsDistinct f.openList) : (delegateSeats f).Nodup :=
  List.Nodup.sublist (List.Sublist.map _ List.filter_sublist) h

theorem mem_of_delegateSeats {f : Floor} {n : Seat} (h : n ∈ delegateSeats f) : n ∈ f.openList.map Entry.seat :=
  (List.Sublist.map _ List.filter_sublist).subset h

theorem length_delegateSeats (f : Floor) : (delegateSeats f).length = delegates f := by
  simp [delegateSeats, seatsOf, delegates]

theorem mem_filter_chair_iff {l : List Entry} (hl : seatsDistinct l) {e : Entry} (he : e ∈ l) :
    e.seat ∈ (l.filter (fun x => !x.chair)).map Entry.seat ↔ e.chair = false := by
  rw [List.mem_map]
  constructor
  · rintro ⟨x, hx, hseat⟩
    obtain ⟨hxl, hchair⟩ := List.mem_filter.mp hx
    have : x = e := List.inj_on_of_nodup_map hl hxl he hseat
    rw [← this]; simpa using hchair
  · intro hchair
    exact ⟨e, List.mem_filter.mpr ⟨he, by rw [hchair]; rfl⟩, rfl⟩

/-- All delegates closed, the chairs are left. -/
theorem filter_delegateSeats {f : Floor} (h : seatsDistinct f.openList) :
    f.openList.filter (fun e => !(delegateSeats f).contains e.seat) = f.openList.filter (fun e => e.chair) := by
  refine List.filter_congr fun e he => ?_
  have := mem_filter_chair_iff h he
  cases hc : e.chair with
  | false =>
    have hmem : (delegateSeats f).contains e.seat = true := List.contains_iff_mem.mpr (this.mpr hc)
    rw [hmem]; rfl
  | true =>
    have hmem : (delegateSeats f).contains e.seat = false := by
      rw [← Bool.not_eq_true, List.contains_iff_mem]
      exact fun hm => by rw [this.mp hm] at hc; cases hc
    rw [hmem]; rfl

/-- A change within the mode closes the oldest delegates beyond max open (R49). -/
theorem setupChange_sameMode {x : FloorSetup} {s : State} (hmode : x.mode = s.floor.setup.mode)
    (hdist : seatsDistinct s.floor.openList) :
    setupChange x s = afterFloor (Statements.recomputed
      ((if s.floor.phase = .running then (delegateSeats s.floor).take (delegates s.floor - x.maxOpen)
        else []).foldl (fun v n => withClosed .setup n v) (s.withFloor { s.floor with setup := x }))) := by
  have htrim : trimOpen (s.withFloor { s.floor with setup := x }) =
      (if s.floor.phase = .running then (delegateSeats s.floor).take (delegates s.floor - x.maxOpen)
        else []).foldl (fun v n => withClosed .setup n v) (s.withFloor { s.floor with setup := x }) := by
    unfold trimOpen
    by_cases hp : s.floor.phase = .running
    · rw [if_pos hp]
      refine (if_pos hp).trans (closeOpenSeats_eq ?_ fun n hn => ?_)
      · exact (nodup_delegateSeats hdist).sublist (List.take_sublist _ _)
      · exact mem_of_delegateSeats (f := s.floor) (List.mem_of_mem_take hn)
    · rw [if_neg hp]; exact if_neg hp
  unfold setupChange; dsimp only
  rw [if_pos hmode, recomputeAll_eq, htrim]

theorem foldl_withClosed_phase (r : CloseReason) (l : List Seat) (s : State) :
    (l.foldl (fun x n => withClosed r n x) s).floor.phase = s.floor.phase := by
  induction l generalizing s with
  | nil => rfl
  | cons n l ih => rw [List.foldl_cons]; exact ih _

theorem unqueued_floor (s : State) :
    (Statements.unqueued s).floor = { s.floor with queue := [], armed := [] } := by
  unfold Statements.unqueued; split
  · next h => rw [← h]; rfl
  · rfl

/-- A change of mode closes the delegates, the queue, the arming, and in HOLD the Shadow (R48, R62). -/
theorem emptyForMode_eq {s : State} (hdist : seatsDistinct s.floor.openList) (hshadow : seatsDistinct s.floor.shadow) :
    emptyForMode s =
      let u := Statements.unqueued ((delegateSeats s.floor).foldl (fun y n => withClosed .setup n y) s)
      if s.floor.phase = .hold then (s.floor.shadow.map Entry.seat).foldl (fun y n => withUnheld .setup n y) u
      else u := by
  have hclose : closeOpenSeats .setup (delegateSeats s.floor) s =
      (delegateSeats s.floor).foldl (fun y n => withClosed .setup n y) s :=
    closeOpenSeats_eq (nodup_delegateSeats hdist) fun n hn => mem_of_delegateSeats hn
  obtain ⟨hsh, -, -⟩ := foldl_withClosed_floor .setup (delegateSeats s.floor) s
  have hph := foldl_withClosed_phase .setup (delegateSeats s.floor) s
  unfold emptyForMode; dsimp only
  rw [unqueued_eq, hclose, unqueued_floor]
  dsimp only
  rw [hph, hsh]
  split
  · exact closeShadowSeats_eq hshadow fun n hn => by rw [unqueued_floor]; show n ∈ _; rw [hsh]; exact hn
  · rfl

theorem setupChange_otherMode {x : FloorSetup} {s : State} (hmode : x.mode ≠ s.floor.setup.mode) :
    setupChange x s =
      afterFloor (Statements.recomputed
        ((emptyForMode s).withFloor { (emptyForMode s).floor with setup := x })) := by
  unfold setupChange; dsimp only
  rw [if_neg hmode, recomputeAll_eq]

/-- The Floor Setup, meeting and floor state that a setup change leaves, and the Shadow by seats. -/
theorem setupChange_floor (x : FloorSetup) (s : State) :
    (setupChange x s).floor.setup = x ∧ (setupChange x s).floor.meeting = s.floor.meeting ∧
      (setupChange x s).floor.phase = s.floor.phase := by
  have stored : ∀ {u : State}, u.floor.setup = x → u.floor.meeting = s.floor.meeting → u.floor.phase = s.floor.phase →
      (afterFloor (recomputeAll u)).floor.setup = x ∧ (afterFloor (recomputeAll u)).floor.meeting = s.floor.meeting ∧
        (afterFloor (recomputeAll u)).floor.phase = s.floor.phase := by
    intro u h1 h2 h3
    have h := eventEnd_afterFloor (recomputeAll u)
    have k := shrinks_recomputeAll u
    exact ⟨(h.setup.trans k.setup).trans h1, (h.meeting.trans k.meeting).trans h2, (h.phase.trans k.phase).trans h3⟩
  unfold setupChange; dsimp only; split
  · have h := shrinks_trimOpen (s.withFloor { s.floor with setup := x })
    exact stored h.setup h.meeting h.phase
  · have h := shrinks_emptyForMode s
    exact stored rfl h.meeting h.phase

theorem seatsOf_shadow_recomputed (s : State) :
    seatsOf (afterFloor (Statements.recomputed s)).floor.shadow = seatsOf s.floor.shadow := by
  rw [(eventEnd_afterFloor _).shadow, recomputed_eq, shadowSame_checkTimers]
  exact seatsOf_realigned _ _ _

/-- In HOLD a change within the mode keeps the Shadow, a change of mode empties it (R62). -/
theorem setupChange_shadow {x : FloorSetup} {s : State} (hp : s.floor.phase = .hold) :
    (x.mode = s.floor.setup.mode → seatsOf (setupChange x s).floor.shadow = seatsOf s.floor.shadow) ∧
      (x.mode ≠ s.floor.setup.mode → (setupChange x s).floor.shadow = []) := by
  refine ⟨fun hmode => ?_, fun hmode => ?_⟩
  · unfold setupChange; dsimp only
    rw [if_pos hmode, recomputeAll_eq, seatsOf_shadow_recomputed]
    unfold trimOpen
    rw [if_neg (by rw [withFloor_floor, hp]; nofun)]; rfl
  · rw [setupChange_otherMode hmode, ← recomputeAll_eq]
    have hempty : (emptyForMode s).floor.shadow = [] := by
      have h2 := ((shrinks_closeOpenSeats .setup (delegateSeats s.floor) s).trans (shrinks_clearQueue _)).trans
        (shrinks_clearArming _)
      unfold emptyForMode; dsimp only
      rw [if_pos (h2.phase.trans hp), closeShadowSeats_floor]
      show List.filter _ _ = []
      rw [List.filter_eq_nil_iff]; intro e he; simp [seatsOf]; exact ⟨e, he, rfl⟩
    have hnil := seatsOf_shadow_recomputed ((emptyForMode s).withFloor { (emptyForMode s).floor with setup := x })
    rw [withFloor_floor, hempty] at hnil
    rw [recomputeAll_eq]
    exact List.map_eq_nil_iff.mp hnil

/-- A change of mode with the floor RUNNING leaves the chairs, nobody waiting and nobody armed (R48). -/
theorem setupChange_running_otherMode {x : FloorSetup} {s : State} (hp : s.floor.phase = .running)
    (hdist : seatsDistinct s.floor.openList) (hmode : x.mode ≠ s.floor.setup.mode) :
    seatsOf (setupChange x s).floor.openList = seatsOf (s.floor.openList.filter (fun e => e.chair)) ∧
      (setupChange x s).floor.queue = [] ∧ (setupChange x s).floor.armed = [] := by
  have hfloor : (emptyForMode s).floor =
      { s.floor with openList := s.floor.openList.filter (fun e => e.chair), queue := [], armed := [] } := by
    have hclose := closeOpenSeats_floor .setup (delegateSeats s.floor) s
    have hph : (Statements.unqueued (closeOpenSeats .setup (delegateSeats s.floor) s)).floor.phase ≠ .hold := by
      rw [unqueued_floor, hclose]; show s.floor.phase ≠ .hold; rw [hp]; nofun
    unfold emptyForMode; dsimp only
    rw [unqueued_eq, if_neg hph, unqueued_floor, hclose, filter_delegateSeats hdist]
  rw [setupChange_otherMode hmode]
  have hstored : ((emptyForMode s).withFloor { (emptyForMode s).floor with setup := x }).floor =
      { s.floor with
        openList := s.floor.openList.filter (fun e => e.chair), queue := [], armed := [], setup := x } := by
    rw [withFloor_floor, hfloor]
  generalize (emptyForMode s).withFloor { (emptyForMode s).floor with setup := x } = u at hstored
  rw [recomputed_quiet (Or.inr fun e he => by rw [hstored] at he; exact (List.mem_filter.mp he).2)]
  have hopen : (realignedFloor u).floor.openList =
      (s.floor.openList.filter (fun e => e.chair)).map (Statements.realigned u.floor.setup u.seatTable) := by
    show u.floor.openList.map _ = _; rw [hstored]
  have hqueue : (realignedFloor u).floor.queue = [] := by show u.floor.queue = []; rw [hstored]
  have harmed : (realignedFloor u).floor.armed = [] := by show u.floor.armed = []; rw [hstored]
  obtain ⟨hsame, -⟩ := afterFloor_nobody (s := realignedFloor u) ⟨hqueue, harmed⟩
  rw [hsame]
  exact ⟨by rw [hopen, seatsOf_realigned], hqueue, harmed⟩

/-- The delegates behind the first `k`. -/
theorem filter_take_delegateSeats {f : Floor} (h : seatsDistinct f.openList) (k : Nat) :
    ((f.openList.filter (fun e => !((delegateSeats f).take k).contains e.seat)).filter (fun e => !e.chair)).length =
      delegates f - k := by
  rw [List.filter_comm]
  have hnodup : ((f.openList.filter (fun e => !e.chair)).map Entry.seat).Nodup := nodup_delegateSeats h
  show ((f.openList.filter (fun e => !e.chair)).filter
    (fun e => !(((f.openList.filter (fun e => !e.chair)).map Entry.seat).take k).contains e.seat)).length =
      (f.openList.filter (fun e => !e.chair)).length - k
  generalize f.openList.filter (fun e => !e.chair) = l at hnodup
  have hsplit : l.filter (fun e => !((l.map Entry.seat).take k).contains e.seat) = l.drop k := by
    have happ : (l.take k).map Entry.seat ++ (l.drop k).map Entry.seat = l.map Entry.seat := by
      rw [← List.map_append, List.take_append_drop]
    rw [← happ] at hnodup
    obtain ⟨-, -, hapart⟩ := List.nodup_append.mp hnodup
    rw [← List.map_take]
    conv_lhs => rw [← List.take_append_drop k l]
    rw [List.filter_append, List.filter_eq_nil_iff.mpr, List.filter_eq_self.mpr, List.nil_append]
    · intro e he
      rw [List.take_append_drop, Bool.not_eq_true', ← Bool.not_eq_true, List.contains_iff_mem]
      exact fun hm => hapart _ hm _ (List.mem_map_of_mem he) rfl
    · intro e he
      rw [List.take_append_drop]
      have : ((l.take k).map Entry.seat).contains e.seat = true := List.contains_iff_mem.mpr (List.mem_map_of_mem he)
      rw [this]; nofun
  rw [hsplit, List.length_drop]

/-- A smaller max open in the same mode, with no limit and nobody waiting (R49). -/
theorem setupChange_running_sameMode {x : FloorSetup} {s : State} (hp : s.floor.phase = .running)
    (hdist : seatsDistinct s.floor.openList) (hwait : nobodyWaits s) (hmode : x.mode = s.floor.setup.mode)
    (hlimit : x.limit = none) :
    seatsOf (setupChange x s).floor.openList =
        (seatsOf s.floor.openList).filter (fun n =>
          !((delegateSeats s.floor).take (delegates s.floor - x.maxOpen)).contains n) ∧
      delegates (setupChange x s).floor = min (delegates s.floor) x.maxOpen ∧
      (setupChange x s).log.nextSeq = s.log.nextSeq + BitVec.ofNat 16 (delegates s.floor - x.maxOpen) := by
  rw [setupChange_sameMode hmode hdist, if_pos hp]
  have hlen : ((delegateSeats s.floor).take (delegates s.floor - x.maxOpen)).length =
      delegates s.floor - x.maxOpen := by
    rw [List.length_take, length_delegateSeats]; omega
  have hclosed : ((delegateSeats s.floor).take (delegates s.floor - x.maxOpen)).foldl (fun v n => withClosed .setup n v)
      (s.withFloor { s.floor with setup := x }) =
      closeOpenSeats .setup ((delegateSeats s.floor).take (delegates s.floor - x.maxOpen))
        (s.withFloor { s.floor with setup := x }) := by
    symm
    exact closeOpenSeats_eq ((nodup_delegateSeats hdist).sublist (List.take_sublist _ _))
      fun n hn => mem_of_delegateSeats (f := s.floor) (List.mem_of_mem_take hn)
  have hseq := nextSeq_foldl (f := fun v n => withClosed .setup n v) (fun _ _ => rfl)
    ((delegateSeats s.floor).take (delegates s.floor - x.maxOpen)) (s.withFloor { s.floor with setup := x })
  have hfloor := closeOpenSeats_floor .setup ((delegateSeats s.floor).take (delegates s.floor - x.maxOpen))
    (s.withFloor { s.floor with setup := x })
  rw [hlen] at hseq
  rw [← hclosed] at hfloor
  generalize ((delegateSeats s.floor).take (delegates s.floor - x.maxOpen)).foldl (fun v n => withClosed .setup n v)
    (s.withFloor { s.floor with setup := x }) = u at hseq hfloor
  rw [recomputed_quiet (Or.inl (by rw [hfloor]; exact hlimit))]
  have hopen : (realignedFloor u).floor.openList =
      (s.floor.openList.filter (fun e =>
        !((delegateSeats s.floor).take (delegates s.floor - x.maxOpen)).contains e.seat)).map
          (Statements.realigned u.floor.setup u.seatTable) := by
    show u.floor.openList.map _ = _; rw [hfloor]; rfl
  have hqueue : (realignedFloor u).floor.queue = [] := by show u.floor.queue = []; rw [hfloor]; exact hwait.1
  have harmed : (realignedFloor u).floor.armed = [] := by show u.floor.armed = []; rw [hfloor]; exact hwait.2
  obtain ⟨hsame, -, hlog, -⟩ := afterFloor_nobody (s := realignedFloor u) ⟨hqueue, harmed⟩
  rw [hsame, hlog]
  refine ⟨?_, ?_, hseq⟩
  · rw [hopen, seatsOf_realigned, seatsOf, seatsOf, List.filter_map]; rfl
  · unfold delegates at *
    rw [hopen, List.filter_map, List.length_map]
    exact (filter_take_delegateSeats hdist _).trans (by unfold delegates; omega)

/-- Settles O38: the checks, and the setup change in its cases. -/
theorem floorSetChanges : Obligations.FloorSetChanges := by
  intro s rest tag f h
  refine ⟨fun hdead => exec_refused (rest := rest) rfl h (if_pos hdead), fun hl => ?_⟩
  have hlive : ¬ ((taken s rest).floor.phase = .closed ∨ (taken s rest).floor.phase = .alert) := not_live_of hl
  refine ⟨fun hnone => exec_refused (rest := rest) rfl h ?_, fun x hx => ⟨setupChange x (taken s rest), ?_, ?_⟩⟩
  · refine (if_neg hlive).trans ?_
    rw [hnone]
  · refine exec_done rfl h ((if_neg hlive).trans ?_)
    rw [hx]
  obtain ⟨hsetup, hmeeting, hphase⟩ := setupChange_floor x (taken s rest)
  refine ⟨hsetup, hmeeting, hphase, eventClosed_seats.rel_setupChange x _, floorFrame_setupChange x _,
    fun hp hd hm => setupChange_running_otherMode (s := taken s rest) hp hd hm,
    fun hp hd hw hm hlim => setupChange_running_sameMode (s := taken s rest) hp hd hw hm hlim, ?_, ?_,
    fun hp => (setupChange_shadow (s := taken s rest) hp).1, fun hp => (setupChange_shadow (s := taken s rest) hp).2⟩
  · rintro u hd hm rfl
    exact setupChange_sameMode (s := taken s rest) hm hd
  · rintro u v hd hsd hm rfl rfl
    rw [setupChange_otherMode (s := taken s rest) hm, emptyForMode_eq (s := taken s rest) hd hsd]; rfl

end Sys2Proof.Machine
end

section
/-!
PROOFS. MEETING SIGNALS AND THE ALERT (R50, R66 to R72, R110): the emptied floor with the signal's record behind, what
the other blocks keep, and every voice filter of an emptied floor at rest.
-/

namespace Sys2Proof.Machine

/-! ### Records behind the same log -/

theorem appendWith_log_congr {s t : State} (e : LogEvent) (n : Option Seat) (b : Option Nat) (hlog : t.log = s.log)
    (hclock : t.clock = s.clock) : (appendWith e n b t).log = (appendWith e n b s).log := by
  unfold appendWith; dsimp only; rw [withNotices_log, withNotices_log, withLog_log, withLog_log, hlog, hclock]

theorem appendWith_notices_congr {s t : State} (e : LogEvent) (n : Option Seat) (b : Option Nat)
    (hlog : t.log = s.log) (hnotices : t.notices = s.notices) :
    (appendWith e n b t).notices = (appendWith e n b s).notices := by
  unfold appendWith; dsimp only; rw [withNotices_notices, withNotices_notices, hlog, hnotices]

/-! ### The floor with nobody left -/

/-- The floor as a signal or an alert empties it, before its own record (R50, R68). -/
def cleared (r : CloseReason) (s : State) : State := clearHolders (clearArming (clearQueue (closeEverything r s)))

theorem cleared_floor (r : CloseReason) (s : State) :
    (cleared r s).floor =
      { s.floor with openList := [], shadow := [], queue := [], armed := [], holders := [], remote := false } := by
  unfold cleared; rw [clearWaiting_floor, closeEverything_floor]

theorem listFrame_cleared (r : CloseReason) (s : State) : ListFrame s (cleared r s) :=
  have h := listClosed_listFrame
  (h.rel_closeEverything r s).trans ((h.rel_clearQueue _).trans ((h.rel_clearArming _).trans (h.rel_clearHolders _)))

theorem inFilteredSet_of_off {s : State} {n : Seat} (h : micState s.floor n = .off) : inFilteredSet s n = false := by
  unfold inFilteredSet; rw [h]; simp

theorem micState_of_empty {f : Floor} (ho : f.openList = []) (hq : f.queue = []) (hs : f.shadow = [])
    (ha : f.armed = []) (n : Seat) : micState f n = .off := by
  unfold micState; rw [ho, hq, hs, ha]; rfl

/-! ### Meeting signals -/

/-- The state of a meeting signal before the voice filters come to rest (R50). -/
def signalled (next : Meeting) (f : FloorSetup) (s : State) : State :=
  emptyMessages
    ((cleared .meeting s).withFloor
      (emptyFloor (if s.floor.phase = .alert then .alert else if next = .none then .closed else .running)
        (setupAfter next f s.floor.setup) next))

theorem meetingSignal_eq (next : Meeting) (f : FloorSetup) (s : State) :
    meetingSignal next f s = restFilters (signalled next f s) := by
  have hcleared := cleared_floor .meeting s
  unfold cleared at hcleared
  have hfloor : signalled next f s = emptyMessages ((cleared .meeting s).withFloor
      { (cleared .meeting s).floor with
        meeting := next
        setup := setupAfter next f (cleared .meeting s).floor.setup
        phase := if s.floor.phase = .alert then .alert else if next = .none then .closed else .running }) := by
    unfold signalled; rw [cleared_floor]; rfl
  rw [hfloor]
  unfold meetingSignal; dsimp only
  rw [afterFloor_of_nobody]
  · unfold cleared; rw [hcleared]
    cases next <;> rfl
  · exact ⟨by show (clearHolders _).floor.queue = []; rw [hcleared],
      by show (clearHolders _).floor.armed = []; rw [hcleared]⟩

theorem emptyMessages_frame (s t : State) (h : floorFrame s t) :
    floorFrame (s.withScreens { s.screens with messages := Vector.replicate 64 none }) (emptyMessages t) := by
  obtain ⟨h1, h2, h3, h4, h5, h6, h7, h8, h9, h10, h11, h12, h13, h14, h15⟩ := h
  refine ⟨h1, h2, h3, h4, h5, h6, ?_, h8, h9, h10, h11, h12, h13, h14, h15⟩
  unfold emptyMessages; rw [withScreens_screens, h7]; rfl

/-- A meeting signal with its bank request and its record (R50, R66, R69). -/
theorem signalled_spec {next : Meeting} {f setup : FloorSetup} {s : State} (bank : Fin 2) (event : LogEvent)
    (seat : Option Seat) (id : Nat) (hsetup : setupAfter next f s.floor.setup = setup) :
    Statements.Signalled next setup bank event seat id s
      (appendWith event seat (some id) (bankRequest bank (meetingSignal next f s))) := by
  subst hsetup
  rw [meetingSignal_eq]
  obtain ⟨hseats, hgate, hframe⟩ := listFrame_cleared .meeting s
  have hbase : floorFrame (s.withScreens { s.screens with messages := Vector.replicate 64 none })
      (restFilters (signalled next f s)) :=
    floorFrame_trans (emptyMessages_frame s _ (floorFrame_trans hframe (floorFrame_withFloor _ _)))
      (floorFrame_withGate _ _)
  have hfloor : (restFilters (signalled next f s)).floor = (signalled next f s).floor := restFilters_floor _
  have hunits : (restFilters (signalled next f s)).seats = s.seats := (withGate_seats _ _).trans hseats
  have hfilters : gateFrame s (restFilters (signalled next f s)) := by
    obtain ⟨g1, g2, g3, g4, g5, g6⟩ := gateFrame_restFilters (signalled next f s)
    have hg : (signalled next f s).gate = s.gate := hgate
    rw [hg] at g1 g2 g3 g4 g5 g6
    exact ⟨g1, g2, g3, g4, g5, g6⟩
  have hrecords : seatsDistinct s.floor.openList → seatsDistinct s.floor.shadow →
      (restFilters (signalled next f s)).log = (Statements.emptied .meeting s).log ∧
        (restFilters (signalled next f s)).notices = (Statements.emptied .meeting s).notices ∧
        (restFilters (signalled next f s)).clock = (Statements.emptied .meeting s).clock := by
    intro ho hs
    rw [← emptied_eq ho hs]
    exact ⟨withGate_log _ _, withGate_notices _ _, hbase.clock.trans hframe.clock.symm⟩
  generalize restFilters (signalled next f s) = v at *
  refine ⟨hfloor, ?_, hunits, hfilters, newestIs_appendWith event seat (some id) _, fun ho hs => ?_⟩
  · obtain ⟨h1, h2, h3, h4, h5, h6, h7, h8, h9, h10, h11, h12, h13, h14, h15⟩ := hbase
    refine ⟨h1, h2, h3, h4, h5, ?_, h7, h8, h9, h10, h11, h12, h13, h14, h15⟩
    show { v.mixer with pending := some bank } = { s.mixer with pending := some bank }
    rw [h6]; rfl
  · obtain ⟨hlog, hnotices, hclock⟩ := hrecords ho hs
    exact ⟨appendWith_log_congr _ _ _ hlog hclock, appendWith_notices_congr _ _ _ hlog hnotices⟩

/-- A meeting start of a booking (R171). -/
theorem started_meetingStart (k : SlotNo) (f : Fixed) (cause : StartCause) (s : State) :
    Statements.Started cause k f s (meetingStart k f cause s) :=
  signalled_spec f.bank (.meetingStart cause) f.chair f.id rfl

/-- A meeting end of a booking (R172). -/
theorem ended_meetingEnd (f : Fixed) (cause : EndCause) (s : State) :
    Statements.Ended cause f s (meetingEnd f cause s) := by
  unfold Statements.Ended
  have hspec := signalled_spec (next := followingMeeting s.sched.idle) (f := s.sched.idle.setup) (s := s)
    s.sched.idle.bank (.meetingEnd cause) none f.id rfl
  have hnext : followingMeeting s.sched.idle = if s.sched.idle.enabled then .idle else .none := rfl
  have hsetup : setupAfter (followingMeeting s.sched.idle) s.sched.idle.setup s.floor.setup =
      if s.sched.idle.enabled then s.sched.idle.setup else s.floor.setup := by
    rw [hnext]; split <;> rfl
  rw [← hnext, ← hsetup]; exact hspec

/-! ### The alert -/

theorem alertEntry_eq (s : State) :
    alertEntry s = restFilters (record (.alertOn (s.floor.openList.length + s.floor.shadow.length)) none
      ((cleared .alert s).withFloor (emptyFloor .alert s.floor.setup s.floor.meeting))) := by
  have h : ({ (cleared .alert s).floor with phase := .alert } : Floor) =
      emptyFloor .alert s.floor.setup s.floor.meeting := by
    rw [cleared_floor]; rfl
  rw [← h]; rfl

theorem alertEntry_rest (s : State) (n : Seat) : look (alertEntry s).gate.filters n = .rest := by
  rw [alertEntry_eq, look_restFilters, inFilteredSet_of_off (micState_of_empty rfl rfl rfl rfl n)]; rfl

theorem alertEntry_records {s : State} (ho : seatsDistinct s.floor.openList) (hs : seatsDistinct s.floor.shadow) :
    (alertEntry s).log = (record (.alertOn (s.floor.openList.length + s.floor.shadow.length)) none
        (Statements.emptied .alert s)).log ∧
      (alertEntry s).notices = (record (.alertOn (s.floor.openList.length + s.floor.shadow.length)) none
        (Statements.emptied .alert s)).notices := by
  have hmeeting : (cleared .alert s).floor.meeting = s.floor.meeting := by rw [cleared_floor]
  rw [← emptied_eq ho hs, alertEntry_eq]
  show (restFilters _).log = (appendWith _ _ (meetingId (cleared .alert s).floor.meeting) (cleared .alert s)).log ∧
    (restFilters _).notices =
      (appendWith _ _ (meetingId (cleared .alert s).floor.meeting) (cleared .alert s)).notices
  rw [hmeeting]
  exact ⟨(withGate_log _ _).trans (appendWith_log_congr _ _ _ rfl rfl),
    (withGate_notices _ _).trans (appendWith_notices_congr _ _ _ rfl rfl)⟩

theorem alertExit_eq (s : State) :
    alertExit s = afterFloor ((record .alertOff none s).withFloor
      { s.floor with phase := if s.floor.meeting = .none then .closed else .running }) := by
  unfold alertExit; dsimp only; rw [record_floor]
  cases s.floor.meeting <;> rfl

theorem alertExit_nobody {s : State} (h : nobodyWaits s) :
    (alertExit s).floor = { s.floor with phase := if s.floor.meeting = .none then .closed else .running } ∧
      (alertExit s).log = (record .alertOff none s).log ∧
      (alertExit s).notices = (record .alertOff none s).notices := by
  rw [alertExit_eq]
  obtain ⟨hfloor, -, hlog, hnotices, -⟩ := afterFloor_nobody
    (s := (record .alertOff none s).withFloor
      { s.floor with phase := if s.floor.meeting = .none then .closed else .running }) h
  exact ⟨hfloor, hlog, hnotices⟩

theorem readAlert_eq {level : AlertLevel} {sample pin : Bool}
    (h : level = .low ∧ sample = true ∨ level = .high ∧ sample = false ∨ level = .between ∧ sample = pin) :
    readAlert level pin = sample := by
  rcases h with ⟨rfl, rfl⟩ | ⟨rfl, rfl⟩ | ⟨rfl, rfl⟩ <;> rfl

/-- Settles O39: the three branches of the ALERT filter, and the entry and the exit. -/
theorem alertSampleFilters : Obligations.AlertSampleFilters := by
  intro level sample s hsample
  have hread := readAlert_eq hsample
  have exec_eq : exec (.alertSample level) s =
      .next (if (filterAlert sample s.alert).2 then
        (if sample then alertEntry (s.withAlert (filterAlert sample s.alert).1)
          else alertExit (s.withAlert (filterAlert sample s.alert).1))
        else s.withAlert (filterAlert sample s.alert).1) := by
    rw [← hread]; rfl
  rw [exec_eq]
  refine ⟨fun hsame => ?_, fun hne hrun => ?_, fun hne hrun => ?_⟩
  · have : filterAlert sample s.alert = ({ s.alert with run := 0, pin := sample }, false) := if_pos hsame
    rw [this]; rfl
  · have : filterAlert sample s.alert = ({ s.alert with run := s.alert.run + 1, pin := sample }, false) :=
      (if_neg hne).trans (if_pos hrun)
    rw [this]; rfl
  · have hthird : filterAlert sample s.alert = ({ level := sample, run := 0, pin := sample }, true) :=
      (if_neg hne).trans (if_neg (by rw [hrun]; exact Nat.lt_irrefl 2))
    rw [hthird]
    generalize hw : s.withAlert { level := sample, run := 0, pin := sample } = w
    have hfloor : w.floor = s.floor := by rw [← hw]; rfl
    have hgraft : w = graft w s := by rw [← hw]; rfl
    refine ⟨if sample then alertEntry w else alertExit w, by subst hw; rfl, ?_⟩
    have hframe : floorFrame w (if sample then alertEntry w else alertExit w) ∧
        (if sample then alertEntry w else alertExit w).seats = w.seats := by
      split
      · exact ⟨floorFrame_alertEntry w, eventClosed_seats.rel_alertEntry w⟩
      · exact ⟨floorFrame_alertExit w, eventClosed_seats.rel_alertExit w⟩
    obtain ⟨hframe, hseats⟩ := hframe
    refine ⟨by rw [hframe.alert, ← hw]; rfl, fun hon => ?_, fun hoff hwait => ?_, by rw [hseats, ← hw]; rfl,
      by rw [hframe.screens, ← hw]; rfl, by rw [hframe.mixer, ← hw]; rfl, by rw [hframe.sched, ← hw]; rfl,
      by rw [hframe.displays, ← hw]; rfl, by rw [hframe.port, ← hw]; rfl⟩
    · rw [if_pos hon]
      refine ⟨?_, ?_, alertEntry_rest w, fun ho hs u hu => ?_⟩
      · rw [alertEntry_eq, restFilters_floor, hfloor]; rfl
      · rw [alertEntry_eq, hfloor]
        have hnew := newestIs_record (.alertOn (s.floor.openList.length + s.floor.shadow.length)) none
          ((cleared .alert w).withFloor (emptyFloor .alert s.floor.setup s.floor.meeting))
        unfold newestIs at *
        rw [show (restFilters _).log = _ from withGate_log _ _, show (restFilters _).clock = _ from withGate_clock _ _]
        exact hnew
      · subst hu
        obtain ⟨hlog, hnotices⟩ := alertEntry_records (s := w) (by rw [hfloor]; exact ho) (by rw [hfloor]; exact hs)
        rw [hlog, hnotices, hfloor, hgraft, graft_emptied, graft_record]
        exact ⟨rfl, rfl⟩
    · rw [if_neg (by rw [hoff]; nofun)]
      obtain ⟨h1, h2, h3⟩ := alertExit_nobody (s := w) (by unfold nobodyWaits; rw [hfloor]; exact hwait)
      have hrecord : record .alertOff none w = graft w (record .alertOff none s) := by
        conv_lhs => rw [hgraft]
        exact graft_record w _ _ s
      rw [hrecord] at h2 h3
      refine ⟨by rw [h1, hfloor], ?_, h2, h3⟩
      have hnew := newestIs_record .alertOff none s
      unfold newestIs at *
      rw [h2, (floorFrame_alertExit w).clock, ← hw]; exact hnew

end Sys2Proof.Machine
end

section
/-!
PROOFS. PLACING THE BOOKINGS (R169, R174 to R176). What one placing does to its slot and to the others, what a row of
placings does, and the commands on a slot, which are their checks and one placing.
-/

namespace Sys2Proof.Machine

/-! ### One placing -/

/-- A placing outside the window: nothing, or the finish, behind the meeting's end if it was on. -/
theorem placed_placeOutside (k : SlotNo) (c : Causes) (stage : Stage) (f : Fixed) (items : List Item)
    (b cur t : Nat) (s : State) (hdue : dueStage f cur t = none) :
    Statements.Placed c.starts c.ends t k stage f items b cur s (placeOutside k c stage f items b s) := by
  have ended := ended_meetingEnd f c.ends s
  unfold Statements.Placed; dsimp only; rw [hdue]; dsimp only
  cases stage with
  | pending => exact ⟨fun _ => rfl, (by rintro (h | h) <;> cases h), nofun⟩
  | lead => exact ⟨nofun, fun _ => rfl, nofun⟩
  | done => exact ⟨nofun, fun _ => rfl, nofun⟩
  | active => exact ⟨nofun, (by rintro (h | h) <;> cases h), fun _ => ⟨_, ended, rfl⟩⟩
  | ending => exact ⟨nofun, (by rintro (h | h) <;> cases h), fun _ => ⟨_, ended, rfl⟩⟩

theorem placeInside_of_progress {k : SlotNo} {c : Causes} {stage due : Stage} {f : Fixed} {items : List Item}
    {b cur : Nat} {s : State} (h : stage ≠ .pending) :
    placeInside k c stage due f items b cur s =
      if stage.meets && !due.meets then meetingEnd f c.ends (setSlot k (.committed due f items b cur) s)
      else if !stage.meets && due.meets then meetingStart k f c.starts (setSlot k (.committed due f items b cur) s)
      else setSlot k (.committed due f items b cur) s := by
  cases stage
  case pending => exact absurd rfl h
  all_goals rfl

theorem dueStage_ne_pending {f : Fixed} {cur t : Nat} {due : Stage} (h : dueStage f cur t = some due) :
    due ≠ .pending := by
  unfold dueStage at h
  repeat' split at h
  all_goals (cases h; try nofun)

/-- A placing inside the window, by the stage and the due state. -/
theorem placed_placeInside (k : SlotNo) (c : Causes) (stage due : Stage) (f : Fixed) (items : List Item)
    (b cur t : Nat) (s : State) (hdue : dueStage f cur t = some due) :
    Statements.Placed c.starts c.ends t k stage f items b cur s
      (if due = stage then s else placeInside k c stage due f items b cur s) := by
  have hne := dueStage_ne_pending hdue
  have hstart := started_meetingStart k f c.starts
  have hend := ended_meetingEnd f c.ends (setSlot k (.committed due f items b cur) s)
  unfold Statements.Placed; dsimp only; rw [hdue]; dsimp only
  by_cases hsame : due = stage
  · rw [if_pos hsame]; subst hsame
    refine ⟨fun _ => rfl, fun h => absurd h hne, fun h => absurd h hne, fun h => absurd h hne, fun h h' => ?_,
      fun h h' => ?_, fun _ h => absurd rfl h⟩
    · rw [h] at h'; cases h'
    · rcases h with rfl | rfl <;> cases h'
  · rw [if_neg hsame]
    by_cases hp : stage = .pending
    · subst hp
      refine ⟨fun h => absurd h hsame, fun _ h => by subst h; rfl, fun _ h => ?_, fun _ h => by subst h; rfl, nofun,
        (by rintro (h | h) <;> cases h), fun h => absurd rfl h⟩
      cases due with
      | active => exact hstart _
      | ending => exact hstart _
      | pending => cases h
      | lead => cases h
      | done => cases h
    · rw [placeInside_of_progress hp]
      refine ⟨fun h => absurd h hsame, fun h => absurd h hp, fun h => absurd h hp, fun h => absurd h hp,
        fun h h' => ?_, fun h h' => ?_, fun _ _ h => ?_⟩
      · rw [h, h']; exact hend
      · have hoff : stage.meets = false := by rcases h with rfl | rfl <;> rfl
        rw [hoff, h']; exact hstart _
      · rw [h]; cases stage.meets <;> rfl

/-- The slot's placing, as the statements say it (R169). -/
theorem placed_place (c : Causes) (t : Nat) {k : SlotNo} {s : State} {stage : Stage} {f : Fixed} {items : List Item}
    {b cur : Nat} (hk : look s.sched.slots k = .committed stage f items b cur) :
    Statements.Placed c.starts c.ends t k stage f items b cur s (place c t k s) := by
  unfold place; rw [hk]; dsimp only
  cases hdue : dueStage f cur t with
  | none => exact placed_placeOutside k c stage f items b cur t s hdue
  | some due => exact placed_placeInside k c stage due f items b cur t s hdue

theorem place_of_notCommitted {c : Causes} {t : Nat} {k : SlotNo} {s : State}
    (h : ∀ (st : Stage) (f : Fixed) (items : List Item) (b cur : Nat),
      look s.sched.slots k ≠ .committed st f items b cur) : place c t k s = s := by
  unfold place; split
  · next hk => exact absurd hk (h _ _ _ _ _)
  · rfl

/-- A PENDING booking that is due outside its window stays as it is. -/
theorem place_of_pending {c : Causes} {t : Nat} {k : SlotNo} {s : State} {f : Fixed} {items : List Item} {b cur : Nat}
    (hk : look s.sched.slots k = .committed .pending f items b cur) (hdue : dueStage f cur t = none) :
    place c t k s = s := by
  unfold place; rw [hk]; dsimp only; rw [hdue]; rfl

/-! ### What a placing leaves -/

/-- The other slots are the same. -/
def OnlySlot (k : SlotNo) (s t : State) : Prop := ∀ j, j ≠ k → look t.sched.slots j = look s.sched.slots j

theorem onlySlot_of_sched {k : SlotNo} {s t : State} (h : t.sched = s.sched) : OnlySlot k s t :=
  fun _ _ => by rw [h]

theorem onlySlot_setSlot {k : SlotNo} (x : Slot) {s t : State} (h : t.sched = s.sched) :
    OnlySlot k s (setSlot k x t) := by
  intro j hj
  show look (upd t.sched.slots k x) j = _
  rw [look_upd, if_neg (Ne.symm hj), h]

theorem meetingStart_sched (k : SlotNo) (f : Fixed) (c : StartCause) (s : State) :
    (meetingStart k f c s).sched = s.sched := by
  obtain ⟨hsched, -⟩ := meetingSignal_frame (.booking k f.id f.chair) f.setup s
  simp [meetingStart, appendWith, bankRequest, hsched]

theorem onlySlot_finishBooking (k : SlotNo) (f : Fixed) (items : List Item) (b : Nat) {s t : State}
    (h : t.sched = s.sched) : OnlySlot k s (finishBooking k f items b t) :=
  onlySlot_setSlot _ ((powerOffPlan_sched f t).trans h)

theorem onlySlot_placeInside (k : SlotNo) (c : Causes) (stage due : Stage) (f : Fixed) (items : List Item) (b cur : Nat)
    (s : State) : OnlySlot k s (placeInside k c stage due f items b cur s) := by
  have set := fun {t : State} (h : t.sched = s.sched) => onlySlot_setSlot (k := k) (.committed due f items b cur) h
  have start : ∀ {t : State}, OnlySlot k s t → OnlySlot k s (meetingStart k f c.starts t) := fun h j hj => by
    rw [meetingStart_sched]; exact h j hj
  have stop : ∀ {t : State}, OnlySlot k s t → OnlySlot k s (meetingEnd f c.ends t) := fun h j hj => by
    rw [meetingEnd_sched]; exact h j hj
  have plan := powerOnPlan_sched f s
  unfold placeInside; dsimp only; split
  · split
    · exact set rfl
    · exact onlySlot_of_sched rfl
    · exact set plan
    · exact start (set plan)
    · exact start (set plan)
  · split
    · exact stop (set rfl)
    · split
      · exact start (set rfl)
      · exact set rfl

theorem onlySlot_place (c : Causes) (t : Nat) (k : SlotNo) (s : State) : OnlySlot k s (place c t k s) := by
  unfold place; split
  · split
    · have ended := fun f => meetingEnd_sched f c.ends s
      unfold placeOutside; split
      · exact onlySlot_of_sched rfl
      · exact onlySlot_finishBooking _ _ _ _ rfl
      · exact onlySlot_finishBooking _ _ _ _ rfl
      · exact onlySlot_finishBooking _ _ _ _ (ended _)
      · exact onlySlot_finishBooking _ _ _ _ (ended _)
    · split
      · exact onlySlot_of_sched rfl
      · exact onlySlot_placeInside _ _ _ _ _ _ _ _ _
  · exact onlySlot_of_sched rfl

theorem onlySlot_placeOrMiss (old : Option Nat) (new t : Nat) (k : SlotNo) (s : State) :
    OnlySlot k s (placeOrMiss old new t s k) := by
  have either : ∀ (b : Bool) (f : Fixed) (items : List Item) (booked : Nat), OnlySlot k s
      (if b then missBooking k f items booked s else place ⟨.late, .clock⟩ t k s) := by
    intro b f items booked
    cases b
    · exact onlySlot_place _ _ _ _
    · exact onlySlot_setSlot _ rfl
  unfold placeOrMiss; split
  · exact either _ _ _ _
  · exact onlySlot_of_sched rfl

/-! ### A row of placings -/

/-- Taking a list in turn, where no element does anything to this state. -/
theorem foldl_of_rest {α : Type} {step : State → α → State} {l : List α} {s : State}
    (h : ∀ j ∈ l, step s j = s) : l.foldl step s = s := by
  induction l with
  | nil => rfl
  | cons j l ih =>
    rw [List.foldl_cons, h j List.mem_cons_self]
    exact ih fun i hi => h i (List.mem_cons_of_mem _ hi)

/-- Taking a list in turn, where only one element does anything. -/
theorem foldl_of_one {α : Type} {step : State → α → State} {l : List α} {s : State} {k : α} (hl : l.Nodup)
    (hk : k ∈ l) (h : ∀ j ∈ l, j ≠ k → step s j = s ∧ step (step s k) j = step s k) : l.foldl step s = step s k := by
  induction l with
  | nil => cases hk
  | cons j l ih =>
    obtain ⟨hj, hl⟩ := List.nodup_cons.mp hl
    rw [List.foldl_cons]
    by_cases hjk : j = k
    · subst hjk
      exact foldl_of_rest fun i hi => (h i (List.mem_cons_of_mem _ hi) fun e => hj (e ▸ hi)).2
    · rw [(h j List.mem_cons_self hjk).1]
      exact ih hl ((List.mem_cons.mp hk).resolve_left (Ne.symm hjk)) fun i hi => h i (List.mem_cons_of_mem _ hi)

theorem placedEach_placeAll (c : Causes) (t : Nat) (l : List SlotNo) (s : State) :
    Statements.PlacedEach c.starts c.ends t Statements.neverGone l s (placeAll c t l s) := by
  induction l generalizing s with
  | nil => rfl
  | cons k l ih =>
    exact ⟨place c t k s, fun st f items b cur hk => ⟨nofun, fun _ => placed_place c t hk⟩, place_of_notCommitted, ih _⟩

/-- Step 2 of R175 for a committed booking: missed if it was swept and is gone, else placed. -/
theorem placeOrMiss_eq {old : Option Nat} {new t : Nat} {s : State} {k : SlotNo} {st : Stage} {f : Fixed}
    {items : List Item} {b cur : Nat} (hk : look s.sched.slots k = .committed st f items b cur) :
    placeOrMiss old new t s k =
      if (∃ o, old = some o ∧ swept o new (f.start - f.lead) = true) ∧ outsideWindow f cur t = true then
        missBooking k f items b s
      else place ⟨.late, .clock⟩ t k s := by
  unfold placeOrMiss; rw [hk]; dsimp only
  cases old with
  | none => simp
  | some o => simp

theorem placeOrMiss_of_notCommitted {old : Option Nat} {new t : Nat} {k : SlotNo} {s : State}
    (h : ∀ (st : Stage) (f : Fixed) (items : List Item) (b cur : Nat),
      look s.sched.slots k ≠ .committed st f items b cur) : placeOrMiss old new t s k = s := by
  unfold placeOrMiss; split
  · next hk => exact absurd hk (h _ _ _ _ _)
  · rfl

theorem placedEach_placeOrMiss (old : Option Nat) (new t : Nat) (gone : Fixed → Nat → Prop)
    (hgone : ∀ f cur, gone f cur ↔
      (∃ o, old = some o ∧ swept o new (f.start - f.lead) = true) ∧ outsideWindow f cur t = true)
    (l : List SlotNo) (s : State) :
    Statements.PlacedEach .late .clock t gone l s (l.foldl (placeOrMiss old new t) s) := by
  induction l generalizing s with
  | nil => rfl
  | cons k l ih =>
    refine ⟨placeOrMiss old new t s k, fun st f items b cur hk => ⟨fun h => ?_, fun h => ?_⟩,
      placeOrMiss_of_notCommitted, ih _⟩
    · rw [placeOrMiss_eq hk, if_pos ((hgone _ _).mp h)]; rfl
    · rw [placeOrMiss_eq hk, if_neg (fun h' => h ((hgone _ _).mpr h'))]
      exact placed_place ⟨.late, .clock⟩ t hk

/-! ### COMMIT, EXTEND, END NOW and CANCEL -/

theorem look_setSlot (k : SlotNo) (x : Slot) (s : State) : look (setSlot k x s).sched.slots k = x :=
  look_upd_self ..

theorem dueStage_eq (f : Fixed) (c t : Nat) :
    dueStage f c t =
      if t + f.lead < f.start ∨ c + f.grace ≤ t then none
      else if t < f.start then some .lead
      else if c ≤ t then some .done
      else if f.endWarn = 0 ∨ t + f.endWarn < c then some .active else some .ending := by
  unfold dueStage outsideWindow
  simp only [Bool.or_eq_true, decide_eq_true_eq]
  by_cases hc : c ≤ t
  · simp only [if_pos hc, if_neg (Nat.not_lt.mpr hc)]
  · simp only [if_neg hc, if_pos (Nat.not_le.mp hc)]

section SlotCommands

variable {s : State} {rest : List CommandCell} {tag : Byte} {k : SlotNo} {st : Stage} {f : Fixed} {items : List Item}
  {b c minutes : Nat}

/-- What COMMIT refuses before it looks at the other bookings (R166). -/
def commitOutOfRange (f : Fixed) : Prop :=
  f.start < f.lead ∨ 10080 < f.finish + f.grace ∨ f.finish < f.start + 5 ∨ f.start + 720 < f.finish

theorem commitSlot_range (hk : look s.sched.slots k = .draft f items) (hbad : commitOutOfRange f) :
    commitSlot k s = refusal .range s := by
  unfold commitSlot; rw [hk]; exact if_pos hbad

theorem commitSlot_conflict (hk : look s.sched.slots k = .draft f items) (hgood : ¬ commitOutOfRange f)
    (h : idTaken s.sched k f.id = true ∨ windowTaken s.sched k (f.start - f.lead, f.finish + f.grace) = true) :
    commitSlot k s = refusal .conflict s := by
  have hw : reservedWindow f f.finish f.finish = (f.start - f.lead, f.finish + f.grace) := by
    unfold reservedWindow; rw [Nat.max_self]
  rw [← hw] at h
  unfold commitSlot; rw [hk]
  refine (if_neg hgood).trans ?_
  by_cases hid : idTaken s.sched k f.id = true
  · exact if_pos hid
  · exact (if_neg hid).trans (if_pos (h.resolve_left hid))

theorem commitSlot_done (hk : look s.sched.slots k = .draft f items) (hgood : ¬ commitOutOfRange f)
    (h : ¬ (idTaken s.sched k f.id = true ∨
      windowTaken s.sched k (f.start - f.lead, f.finish + f.grace) = true)) :
    commitSlot k s = done (if s.clock.valid then
        place ⟨.late, .clock⟩ (presentMinute s) k (setSlot k (.committed .pending f items f.finish f.finish) s)
      else setSlot k (.committed .pending f items f.finish f.finish) s) := by
  have hw : reservedWindow f f.finish f.finish = (f.start - f.lead, f.finish + f.grace) := by
    unfold reservedWindow; rw [Nat.max_self]
  rw [← hw, not_or] at h
  unfold commitSlot; rw [hk]
  exact (if_neg hgood).trans ((if_neg h.1).trans (if_neg h.2))

theorem extendSlot_of_committed (hk : look s.sched.slots k = .committed st f items b c) (hst : st ≠ .done) :
    extendSlot k minutes s =
      if f.start + 720 < c + minutes ∨ 10080 < c + minutes + f.grace then refusal .range s
      else if windowTaken s.sched k (reservedWindow f b (c + minutes)) then refusal .conflict s
      else done (if st = .pending then setSlot k (.committed st f items b (c + minutes)) s
        else place ⟨.late, .clock⟩ (presentMinute s) k (setSlot k (.committed st f items b (c + minutes)) s)) := by
  unfold extendSlot; rw [hk]; exact if_neg hst

theorem extendSlot_refused
    (h : ∀ (st : Stage) (f : Fixed) (items : List Item) (b c : Nat), st ≠ .done →
      look s.sched.slots k ≠ .committed st f items b c) : extendSlot k minutes s = refusal .state s := by
  unfold extendSlot; split
  · next st _ _ _ _ hk =>
    by_cases hst : st = .done
    · exact if_pos hst
    · exact absurd hk (h _ _ _ _ _ hst)
  · rfl

theorem endNowSlot_of_meets (hk : look s.sched.slots k = .committed st f items b c) (hst : st.meets = true) :
    endNowSlot k s = done (place ⟨.late, .endNow⟩ (presentMinute s) k
      (setSlot k (.committed st f items b (presentMinute s)) s)) := by
  unfold endNowSlot; rw [hk]; exact if_pos hst

theorem endNowSlot_refused
    (h : ∀ (st : Stage) (f : Fixed) (items : List Item) (b c : Nat), st.meets = true →
      look s.sched.slots k ≠ .committed st f items b c) : endNowSlot k s = refusal .state s := by
  unfold endNowSlot; split
  · next st _ _ _ _ hk =>
    by_cases hst : st.meets = true
    · exact absurd hk (h _ _ _ _ _ hst)
    · exact if_neg hst
  · rfl

theorem dueStage_ended (m : Nat) (hstart : f.start ≤ m) (hgrace : 0 < f.grace) : dueStage f m m = some .done := by
  rw [dueStage_eq, if_neg (by omega), if_neg (by omega), if_pos (Nat.le_refl m)]

theorem dueStage_over (m : Nat) (h : c + f.grace ≤ m) : dueStage f c m = none := by
  rw [dueStage_eq, if_pos (Or.inr h)]

end SlotCommands

theorem commitReply_val (k : SlotNo) : withForm (some k.val) commitReply = commitSlot k := by
  funext s; simp only [withForm, commitReply, index?_val]

theorem extendReply_val (k : SlotNo) {minutes : Nat} (h : 1 ≤ minutes) (h' : minutes ≤ 120) :
    withForm (some (k.val, minutes)) (fun x => extendReply x.1 x.2) = extendSlot k minutes := by
  funext s; simp only [withForm, extendReply, index?_val, if_pos (And.intro h h')]

theorem endNowReply_val (k : SlotNo) : withForm (some k.val) endNowReply = endNowSlot k := by
  funext s; simp only [withForm, endNowReply, index?_val]

theorem cancelReply_val (k : SlotNo) : withForm (some k.val) cancelReply = cancelSlot k := by
  funext s; simp only [withForm, cancelReply, index?_val]

/-- Settles O58: each command by its checks, and its placing by `placed_place`. -/
theorem bookingCommands : Obligations.BookingCommands := by
  intro s rest tag slot
  refine ⟨fun h => ⟨fun hslot => ?_, fun k hk => ?_⟩, fun minutes h => ⟨fun hbad => ?_, fun k hk h1 h2 => ?_⟩,
    fun h => ⟨fun hslot => ?_, fun k hk => ?_⟩, fun h => ⟨fun hslot => ?_, fun k hk => ?_⟩⟩
  case refine_1 => exact exec_refused rfl h (by simp only [withForm, commitReply, index?_of_le hslot])
  case refine_3 =>
    refine exec_refused rfl h ?_
    simp only [withForm, extendReply]
    by_cases hslot : 15 < slot
    · rw [index?_of_le hslot]
    · have : ¬ (1 ≤ minutes ∧ minutes ≤ 120) := by omega
      split
      · exact if_neg this
      · rfl
  case refine_5 => exact exec_refused rfl h (by simp only [withForm, endNowReply, index?_of_le hslot])
  case refine_7 => exact exec_refused rfl h (by simp only [withForm, cancelReply, index?_of_le hslot])
  all_goals subst hk
  case refine_2 =>
    have refused : ∀ {code : AnswerCode}, commitSlot k (taken s rest) = refusal code (taken s rest) →
        exec (.commit tag (some k.val)) s = .next (s.withPort (portAfter s.port rest tag 0x40 code [])) :=
      fun e => exec_refused rfl h (by rw [commitReply_val, e])
    have accepted : ∀ {t : State}, commitSlot k (taken s rest) = done t →
        exec (.commit tag (some k.val)) s = .next (answered tag 0x40 .done [] t) :=
      fun e => exec_done rfl h (by rw [commitReply_val, e])
    refine ⟨fun hnone => refused ?_, fun f items hd => ⟨fun hbad => refused (commitSlot_range hd hbad),
      fun hgood ht => refused (commitSlot_conflict hd hgood ht), fun hgood ht => ⟨fun hv => accepted ?_, fun hv =>
        ⟨_, placed_place ⟨.late, .clock⟩ (presentMinute s) (look_setSlot k _ (taken s rest)), accepted ?_⟩⟩⟩⟩
    · unfold commitSlot; split
      · next hd => exact absurd hd (hnone _ _)
      · rfl
    · refine (commitSlot_done (s := taken s rest) hd hgood ht).trans (congrArg done (if_neg ?_))
      show ¬ s.clock.valid = true
      rw [hv]; nofun
    · exact (commitSlot_done (s := taken s rest) hd hgood ht).trans (congrArg done (if_pos hv))
  case refine_4 =>
    have refused : ∀ {code : AnswerCode}, extendSlot k minutes (taken s rest) = refusal code (taken s rest) →
        exec (.extend tag (some (k.val, minutes))) s =
          .next (s.withPort (portAfter s.port rest tag 0x41 code [])) :=
      fun e => exec_refused rfl h (by rw [extendReply_val k h1 h2, e])
    have accepted : ∀ {t : State}, extendSlot k minutes (taken s rest) = done t →
        exec (.extend tag (some (k.val, minutes))) s = .next (answered tag 0x41 .done [] t) :=
      fun e => exec_done rfl h (by rw [extendReply_val k h1 h2, e])
    refine ⟨fun hnone => refused (extendSlot_refused hnone), fun st f items b c hst hc => ?_⟩
    have by_checks := extendSlot_of_committed (s := taken s rest) (minutes := minutes) hc hst
    refine ⟨fun hbad => refused (by_checks.trans (if_pos hbad)),
      fun hgood ht => refused (by_checks.trans ((if_neg hgood).trans (if_pos ht))), fun hgood ht => ?_⟩
    have by_stage := by_checks.trans ((if_neg hgood).trans (if_neg ht))
    exact ⟨fun hp => accepted (by_stage.trans (congrArg done (if_pos hp))), fun hp =>
      ⟨_, placed_place ⟨.late, .clock⟩ (presentMinute s) (look_setSlot k _ (taken s rest)),
        accepted (by_stage.trans (congrArg done (if_neg hp)))⟩⟩
  case refine_6 =>
    refine ⟨fun hnone => exec_refused rfl h ?_, fun st f items b c m hst hc hm => ?_⟩
    · rw [endNowReply_val]; exact endNowSlot_refused hnone
    · subst hm
      have placed := placed_place ⟨.late, .endNow⟩ (presentMinute s)
        (look_setSlot k (.committed st f items b (presentMinute s)) (taken s rest))
      have answer := exec_done (code := 0x42) rfl h (by
        rw [endNowReply_val]; exact endNowSlot_of_meets (s := taken s rest) hc hst)
      refine ⟨⟨_, placed, answer⟩, fun hstart hgrace => ⟨_, ?_, answer⟩, fun hstart hgrace => ?_⟩
      · unfold Statements.Placed at placed; dsimp only at placed
        rw [dueStage_ended _ hstart hgrace] at placed; dsimp only at placed
        obtain ⟨-, -, -, -, hended, -, -⟩ := placed
        exact hended hst rfl
      · unfold Statements.Placed at placed; dsimp only at placed
        rw [dueStage_over _ (by rw [hgrace]; exact Nat.le_refl _)] at placed; dsimp only at placed
        obtain ⟨-, -, hended⟩ := placed
        obtain ⟨u, hu, hplace⟩ := hended hst
        refine ⟨u, hu, ?_⟩
        rw [← hplace]; exact answer
  case refine_8 =>
    have accepted : ∀ {t : State}, cancelSlot k (taken s rest) = done t →
        exec (.cancel tag (some k.val)) s = .next (answered tag 0x43 .done [] t) :=
      fun e => exec_done rfl h (by rw [cancelReply_val, e])
    refine ⟨fun hfree => exec_refused rfl h ?_, fun f items hd => accepted ?_, fun st f items b c hc => ?_⟩
    · rw [cancelReply_val]; unfold cancelSlot; rw [show look (taken s rest).sched.slots k = .free from hfree]
    · unfold cancelSlot; rw [show look (taken s rest).sched.slots k = .draft f items from hd]
    · have by_stage : ∀ t, cancelSlot k (taken s rest) = done t →
          exec (.cancel tag (some k.val)) s = .next (answered tag 0x43 .done [] t) := fun t => accepted
      have hslot : look (taken s rest).sched.slots k = .committed st f items b c := hc
      unfold cancelSlot at by_stage; rw [hslot] at by_stage
      have ended := ended_meetingEnd f .cancel (taken s rest)
      cases st with
      | pending => exact ⟨fun _ => by_stage _ rfl, (by rintro (h | h) <;> cases h), nofun⟩
      | lead => exact ⟨nofun, fun _ => by_stage _ rfl, nofun⟩
      | done => exact ⟨nofun, fun _ => by_stage _ rfl, nofun⟩
      | active => exact ⟨nofun, (by rintro (h | h) <;> cases h), fun _ => ⟨_, ended, by_stage _ rfl⟩⟩
      | ending => exact ⟨nofun, (by rintro (h | h) <;> cases h), fun _ => ⟨_, ended, by_stage _ rfl⟩⟩

end Sys2Proof.Machine
end

section
/-!
PROOFS. THE CLOCK'S PLACINGS (R157 to R159, R170, R175). A minute boundary and CLOCK SET place a row of slots; where all
but one of the bookings rest, only that one is placed.
-/

namespace Sys2Proof.Machine

/-! ### The slots in progress, the PENDING slots and those that enter -/

theorem mem_progressSlots {s : State} {k : SlotNo} : k ∈ progressSlots s ↔ ∃ st f items b c, st ≠ .pending ∧
    look s.sched.slots k = .committed st f items b c := by
  unfold progressSlots allSlots
  simp only [List.mem_filter, List.mem_finRange, true_and]
  cases h : look s.sched.slots k with
  | committed st f items b c => simp [inProgress]
  | free => simp [inProgress]
  | draft f items => simp [inProgress]

theorem mem_pendingSlots {s : State} {k : SlotNo} : k ∈ pendingSlots s ↔ ∃ f items b c,
    look s.sched.slots k = .committed .pending f items b c := by
  unfold pendingSlots allSlots
  simp only [List.mem_filter, List.mem_finRange, true_and]
  cases h : look s.sched.slots k with
  | committed st f items b c => simp [isPending]
  | free => simp [isPending]
  | draft f items => simp [isPending]

theorem pairwise_slots (p : SlotNo → Bool) : (allSlots.filter p).Pairwise (· < ·) :=
  (List.sortedLT_finRange 16).pairwise.filter p

theorem nodup_progressSlots (s : State) : (progressSlots s).Nodup := (List.nodup_finRange 16).filter _

theorem nodup_pendingSlots (s : State) : (pendingSlots s).Nodup := (List.nodup_finRange 16).filter _

theorem startsAt_iff {s : State} {k : SlotNo} {m : Nat} (hk : k ∈ pendingSlots s) :
    startsAt m (look s.sched.slots k) = true ↔ ∃ f items b c,
      look s.sched.slots k = .committed .pending f items b c ∧ f.start = m + f.lead := by
  obtain ⟨f, items, b, c, h⟩ := mem_pendingSlots.mp hk
  rw [h]; simp [startsAt]

/-- With every booking but these at rest, and at rest only when PENDING, only these can be in progress. -/
theorem progress_of_othersRest {s : State} {but : List SlotNo} {rests : Stage → Fixed → Nat → Prop} {j : SlotNo}
    (h : Statements.othersRest s but rests) (hrests : ∀ x f c, rests x f c → x = .pending)
    (hj : j ∈ progressSlots s) : j ∈ but := by
  obtain ⟨st, f, items, b, c, hne, hk⟩ := mem_progressSlots.mp hj
  by_contra hbut
  exact hne (hrests _ _ _ (h j st f items b c hbut hk))

/-! ### CLOCK SET -/

/-- What CLOCK SET shows of the clock stays behind its record. -/
structure ClockKept (s t : State) : Prop where
  clock : t.clock = s.clock
  due : t.due = s.due
  port : t.port = s.port
  source : t.notices.summary.clock = s.notices.summary.clock

theorem appendWith_source (e : LogEvent) (n : Option Seat) (b : Option Nat) (s : State) :
    (appendWith e n b s).notices.summary.clock = s.notices.summary.clock := rfl

theorem emitterClosed_clockKept : EmitterClosed ClockKept where
  refl _ := ⟨rfl, rfl, rfl, rfl⟩
  trans h k := ⟨k.1.trans h.1, k.2.trans h.2, k.3.trans h.3, k.4.trans h.4⟩
  append e n b s := ⟨rfl, rfl, rfl, appendWith_source e n b s⟩
  displays _ _ := ⟨rfl, rfl, rfl, rfl⟩
  draws _ _ := ⟨rfl, rfl, rfl, rfl⟩
  raise _ := ⟨rfl, rfl, rfl, rfl⟩

theorem meetingClosed_clockKept : MeetingClosed ClockKept where
  refl := emitterClosed_clockKept.refl
  trans := emitterClosed_clockKept.trans
  append := emitterClosed_clockKept.append
  floor _ _ := ⟨rfl, rfl, rfl, rfl⟩
  gate _ _ := ⟨rfl, rfl, rfl, rfl⟩
  refuse _ _ := ⟨rfl, rfl, rfl, rfl⟩
  bank _ _ := ⟨rfl, rfl, rfl, rfl⟩
  messages _ := ⟨rfl, rfl, rfl, rfl⟩

theorem placingClosed_clockKept : PlacingClosed ClockKept :=
  meetingClosed_clockKept.placingClosed emitterClosed_clockKept.rel_requestOn emitterClosed_clockKept.rel_requestOff
    fun _ _ => ⟨rfl, rfl, rfl, rfl⟩

theorem placeOrMiss_of_rest {old : Option Nat} {new t : Nat} {s : State} {k : SlotNo} {f : Fixed} {items : List Item}
    {b c : Nat} (hk : look s.sched.slots k = .committed .pending f items b c)
    (hsweeps : ¬ ∃ o, old = some o ∧ swept o new (f.start - f.lead) = true) (hdue : dueStage f c t = none) :
    placeOrMiss old new t s k = s := by
  rw [placeOrMiss_eq hk, if_neg (fun h => hsweeps h.1), place_of_pending hk hdue]

/-- Both steps of R175 on a state with these bookings before. -/
def jumped (before : State) (old : Option Nat) (new now : Nat) (u : State) : State :=
  (pendingSlots before).foldl (placeOrMiss old new now) (placeAll ⟨.late, .clock⟩ now (progressSlots before) u)

theorem clockJump_eq (time : RoomTime) (s : State) :
    clockJump time s = jumped s (if s.clock.valid then some (weekMs s.clock.time) else none) (weekMs time)
      (weekMinute time) (setClock time s) := rfl

section Jump

variable {s u : State} {old : Option Nat} {new now : Nat}

/-- The test of the statements: a booking that neither step moves. -/
def JumpRests (old : Option Nat) (new now : Nat) (x : Stage) (f : Fixed) (c : Nat) : Prop :=
  x = .pending ∧ ¬ (∃ o, old = some o ∧ swept o new (f.start - f.lead) = true) ∧ dueStage f c now = none

theorem jumped_of_rest (hu : u.sched = s.sched) (h : Statements.othersRest s [] (JumpRests old new now)) :
    jumped s old new now u = u := by
  have first : placeAll ⟨.late, .clock⟩ now (progressSlots s) u = u :=
    foldl_of_rest fun j hj => absurd (progress_of_othersRest h (fun _ _ _ hr => hr.1) hj) List.not_mem_nil
  unfold jumped; rw [first]
  refine foldl_of_rest fun j hj => ?_
  obtain ⟨f, items, b, c, hk⟩ := mem_pendingSlots.mp hj
  obtain ⟨-, hsweeps, hdue⟩ := h j _ f items b c List.not_mem_nil hk
  exact placeOrMiss_of_rest (by rw [hu]; exact hk) hsweeps hdue

/-- The other bookings rest behind any change of this slot. -/
theorem placeOrMiss_other {k j : SlotNo} {v : State} (h : Statements.othersRest s [k] (JumpRests old new now))
    (hv : OnlySlot k s v) (hj : j ∈ pendingSlots s) (hjk : j ≠ k) : placeOrMiss old new now v j = v := by
  obtain ⟨f, items, b, c, hk⟩ := mem_pendingSlots.mp hj
  obtain ⟨-, hsweeps, hdue⟩ := h j _ f items b c (by simpa using hjk) hk
  exact placeOrMiss_of_rest ((hv j hjk).trans hk) hsweeps hdue

theorem jumped_of_one {k : SlotNo} {st : Stage} {f : Fixed} {items : List Item} {b c : Nat} (hu : u.sched = s.sched)
    (hk : look s.sched.slots k = .committed st f items b c)
    (h : Statements.othersRest s [k] (JumpRests old new now)) :
    jumped s old new now u =
      if st = .pending then placeOrMiss old new now u k else place ⟨.late, .clock⟩ now k u := by
  have progress : ∀ j ∈ progressSlots s, j = k := fun j hj => by
    simpa using progress_of_othersRest h (fun _ _ _ hr => hr.1) hj
  unfold jumped
  by_cases hst : st = .pending
  · subst hst
    have first : placeAll ⟨.late, .clock⟩ now (progressSlots s) u = u := by
      refine foldl_of_rest fun j hj => ?_
      obtain ⟨st, f', items', b', c', hne, hj'⟩ := mem_progressSlots.mp hj
      rw [progress j hj, hk] at hj'; cases hj'; exact absurd rfl hne
    rw [if_pos rfl, first]
    refine foldl_of_one (nodup_pendingSlots s) (mem_pendingSlots.mpr ⟨f, items, b, c, hk⟩) fun j hj hjk => ⟨?_, ?_⟩
    · exact placeOrMiss_other h (onlySlot_of_sched hu) hj hjk
    · exact placeOrMiss_other h (fun i hi => by rw [← hu]; exact onlySlot_placeOrMiss _ _ _ _ u i hi) hj hjk
  · have first : placeAll ⟨.late, .clock⟩ now (progressSlots s) u = place ⟨.late, .clock⟩ now k u :=
      foldl_of_one (nodup_progressSlots s) (mem_progressSlots.mpr ⟨st, f, items, b, c, hst, hk⟩)
        fun j hj hjk => absurd (progress j hj) hjk
    rw [if_neg hst, first]
    refine foldl_of_rest fun j hj => placeOrMiss_other h ?_ hj fun e => ?_
    · intro i hi; rw [← hu]; exact onlySlot_place _ _ _ u i hi
    · obtain ⟨f', items', b', c', hj'⟩ := mem_pendingSlots.mp hj
      rw [e, hk] at hj'; cases hj'; exact hst rfl

end Jump

/-- A minute boundary between the old time and a new one that lies ahead is swept (R175). -/
theorem swept_of_between {old new minute : Nat} (h1 : old < minute * 60000) (h2 : minute * 60000 ≤ new)
    (h3 : new - old ≤ 302399999) : swept old new minute = true := by
  have near : ∀ {x : Nat}, old < x → x ≤ new → weekDistance old x = x - old := by
    intro x hx hx'
    unfold weekDistance weekLength
    rw [show x + 604800000 - old = x - old + 604800000 by omega, Nat.add_mod_right]
    exact Nat.mod_eq_of_lt (by omega)
  unfold swept forwardJump
  rw [near h1 h2, near (Nat.lt_of_lt_of_le h1 h2) (Nat.le_refl new)]
  simp; omega

theorem outsideWindow_of_over {f : Fixed} {c t : Nat} (h : c + f.grace ≤ t) : outsideWindow f c t = true := by
  simp [outsideWindow, h]

theorem weekMinute_setTime (day hour minute second : Nat) :
    weekMinute (setTime day hour minute second) = day * 1440 + hour * 60 + minute := rfl

theorem weekMs_setTime (day hour minute second : Nat) :
    weekMs (setTime day hour minute second) = (day * 1440 + hour * 60 + minute) * 60000 + second * 1000 :=
  Nat.add_zero _

theorem setClock_port (time : RoomTime) (s : State) : (setClock time s).port = s.port := rfl

theorem setClock_sched (time : RoomTime) (s : State) : (setClock time s).sched = s.sched := rfl

theorem setClock_source (time : RoomTime) (s : State) : (setClock time s).notices.summary.clock = false := rfl

theorem setClock_boundary (time : RoomTime) (s : State) : (setClock time s).due.boundary = none := rfl

/-- Steps 1 and 2 of CLOCK SET, written out (R158). -/
theorem setClock_setTime (day hour minute second : Nat) (s : State) :
    setClock (setTime day hour minute second) s =
      record (.clockSet (day * 1440 + hour * 60 + minute)) none
        (((s.withClock
          { time := { day := day, hour := hour, minute := minute, second := second, ms := 0 }
            valid := true }).withDue { s.due with boundary := none }).withNotices
          { s.notices with summary := { s.notices.summary with clock := false } }) := by
  unfold setClock; rw [weekMinute_setTime]; rfl

/-- Settles O57: CLOCK SET is `jumped` behind its record, CLOCK GET one look at the clock. -/
theorem clockCommands : Obligations.ClockCommands := by
  intro s rest tag
  refine ⟨fun day hour minute second h => ?_, fun h => ?_⟩
  · dsimp only
    refine ⟨fun hbad => exec_refused rfl h (if_pos hbad), fun h1 h2 h3 h4 u hu => ?_⟩
    have hgood : ¬ (6 < day ∨ 23 < hour ∨ 59 < minute ∨ 59 < second) := by omega
    have answer := exec_done (rest := rest) (code := 0x38) rfl h (if_neg hgood)
    have huv : u = setClock (setTime day hour minute second) (taken s rest) := by
      rw [setClock_setTime]; exact hu
    have hsched : u.sched = s.sched := by rw [huv, setClock_sched]; rfl
    have hport : u.port = (taken s rest).port := by rw [huv, setClock_port]
    have hsource : u.notices.summary.clock = false := by rw [huv, setClock_source]
    have hdue : u.due.boundary = none := by rw [huv, setClock_boundary]
    rw [clockJump_eq, weekMs_setTime, weekMinute_setTime, ← huv] at answer
    clear hu huv
    obtain ⟨now, hnow⟩ : ∃ now, now = day * 1440 + hour * 60 + minute := ⟨_, rfl⟩
    simp only [← hnow] at answer ⊢
    obtain ⟨new, hnew⟩ : ∃ new, new = now * 60000 + second * 1000 := ⟨_, rfl⟩
    simp only [← hnew] at answer ⊢
    generalize hold : (if (taken s rest).clock.valid then some (weekMs (taken s rest).clock.time) else none) = old
      at answer
    have hsweeps : ∀ (new : Nat) (f : Fixed), (∃ o, old = some o ∧ swept o new (f.start - f.lead) = true) ↔
        s.clock.valid = true ∧ swept (weekMs s.clock.time) new (f.start - f.lead) = true := by
      intro new f
      have hold : (if s.clock.valid then some (weekMs s.clock.time) else none) = old := hold
      rw [← hold]
      cases s.clock.valid <;> simp
    have answer : exec (.clockSet tag (some (day, hour, minute, second))) s =
      .next (answered tag 0x38 .done [] (jumped s old new now u)) := answer
    have hkept : ClockKept u (jumped s old new now u) :=
      placingClosed_clockKept.trans (placingClosed_clockKept.rel_placeAll _ _ _ u)
        (placingClosed_clockKept.rel_foldl _ (fun t k => placingClosed_clockKept.rel_placeOrMiss _ _ _ t k) _ _)
    have hrests : ∀ but, Statements.othersRest s but (fun x f c => x = .pending ∧
          ¬ (s.clock.valid = true ∧ swept (weekMs s.clock.time) new (f.start - f.lead) = true) ∧
          dueStage f c now = none) → Statements.othersRest s but (JumpRests old new now) := by
      intro but h j st f items b c hj hk
      obtain ⟨hp, hs, hd⟩ := h j st f items b c hj hk
      exact ⟨hp, fun h => hs ((hsweeps new f).mp h), hd⟩
    refine ⟨⟨_, answer, hkept.clock, hkept.source.trans hsource, ?_, ?_⟩,
      ⟨placeAll ⟨.late, .clock⟩ now (progressSlots s) u, _, ?_, ?_, answer⟩, fun hrest => ?_,
      fun k st f items b c hk hrest => ?_⟩
    · show (jumped s old new now u).due.boundary = none
      rw [hkept.due]; exact hdue
    · show (answered tag 0x38 .done [] _).port = _
      unfold answered; rw [withPort_port, hkept.port, hport]; rfl
    · exact placedEach_placeAll ⟨.late, .clock⟩ now (progressSlots s) u
    · exact placedEach_placeOrMiss old new now _ (fun f c => and_congr_left' (hsweeps new f).symm) _ _
    · rw [jumped_of_rest hsched (hrests _ hrest)] at answer; exact answer
    · rw [jumped_of_one hsched hk (hrests _ hrest)] at answer
      have hku : look u.sched.slots k = .committed st f items b c := by rw [hsched]; exact hk
      have missed : st = .pending →
          s.clock.valid = true ∧ swept (weekMs s.clock.time) new (f.start - f.lead) = true →
          outsideWindow f c now = true →
          exec (.clockSet tag (some (day, hour, minute, second))) s =
            .next (answered tag 0x38 .done [] (Statements.missed k f items b u)) := by
        intro hp hs hout
        rw [answer, if_pos hp, placeOrMiss_eq hku, if_pos ⟨(hsweeps new f).mpr hs, hout⟩]; rfl
      refine ⟨fun hne => ⟨_, placed_place ⟨.late, .clock⟩ now hku, ?_⟩, fun hp hg => missed hp hg.1 hg.2,
        fun hp hv ho hn hd hc => missed hp ⟨hv, swept_of_between ho hn hd⟩ (outsideWindow_of_over hc)⟩
      rw [answer]
      by_cases hp : st = .pending
      · rw [if_pos hp, placeOrMiss_eq hku, if_neg]
        rintro ⟨hs, hout⟩
        exact (hne.resolve_left (fun h => h hp)) ⟨(hsweeps new f).mp hs, hout⟩
      · rw [if_neg hp]
  · exact (exec_of_ready rfl h (r := clockGetReply (taken s rest)) rfl).trans rfl

end Sys2Proof.Machine
end

section
/-!
PROOFS. THE MINUTE BOUNDARY (R157, R170). It places the booking in progress and then those that enter, in slot order.
-/

namespace Sys2Proof.Machine

theorem placeAll_of_only {c : Causes} {t : Nat} {l : List SlotNo} {k : SlotNo} {s : State} (hl : l.Nodup) (hk : k ∈ l)
    (h : ∀ j ∈ l, j = k) : placeAll c t l s = place c t k s :=
  foldl_of_one hl hk fun j hj hjk => absurd (h j hj) hjk

theorem placeAll_of_none {c : Causes} {t : Nat} {l : List SlotNo} {s : State} (h : ∀ j, j ∉ l) :
    placeAll c t l s = s := by
  rw [List.eq_nil_iff_forall_not_mem.mpr h]; rfl

section Boundary

variable {s : State} {m : Nat}

/-- The slots that enter at a minute (R170 step 2). -/
def entering (m : Nat) (s : State) : List SlotNo :=
  (pendingSlots s).filter (fun k => startsAt m (look s.sched.slots k))

theorem placeBoundary_eq (m : Nat) (s : State) : placeBoundary m s = placeAll ⟨.scheduled, .scheduled⟩ m (entering m s)
    (placeAll ⟨.scheduled, .scheduled⟩ m (progressSlots s) s) := rfl

theorem nodup_entering (m : Nat) (s : State) : (entering m s).Nodup := (nodup_pendingSlots s).filter _

theorem mem_entering {k : SlotNo} : k ∈ entering m s ↔ ∃ f items b c,
    look s.sched.slots k = .committed .pending f items b c ∧ f.start = m + f.lead := by
  unfold entering
  rw [List.mem_filter]
  constructor
  · exact fun ⟨hk, hs⟩ => (startsAt_iff hk).mp hs
  · rintro ⟨f, items, b, c, hk, hs⟩
    have hp : k ∈ pendingSlots s := mem_pendingSlots.mpr ⟨f, items, b, c, hk⟩
    exact ⟨hp, (startsAt_iff hp).mpr ⟨f, items, b, c, hk, hs⟩⟩

/-- The test of the statements: a booking that the boundary does not move. -/
def BoundaryRests (m : Nat) (x : Stage) (f : Fixed) (_ : Nat) : Prop := x = .pending ∧ f.start ≠ m + f.lead

theorem progress_of_boundaryRests {but : List SlotNo} {j : SlotNo}
    (h : Statements.othersRest s but (BoundaryRests m)) (hj : j ∈ progressSlots s) : j ∈ but :=
  progress_of_othersRest h (fun _ _ _ hr => hr.1) hj

theorem entering_of_boundaryRests {but : List SlotNo} {j : SlotNo}
    (h : Statements.othersRest s but (BoundaryRests m)) (hj : j ∈ entering m s) : j ∈ but := by
  obtain ⟨f, items, b, c, hk, hs⟩ := mem_entering.mp hj
  by_contra hbut
  exact (h j _ f items b c hbut hk).2 hs

theorem placeBoundary_of_rest (h : Statements.othersRest s [] (BoundaryRests m)) : placeBoundary m s = s := by
  rw [placeBoundary_eq, placeAll_of_none fun j hj => List.not_mem_nil (progress_of_boundaryRests h hj),
    placeAll_of_none fun j hj => List.not_mem_nil (entering_of_boundaryRests h hj)]

variable {k : SlotNo} {st : Stage} {f : Fixed} {items : List Item} {b c : Nat}

theorem placeBoundary_of_one (hk : look s.sched.slots k = .committed st f items b c)
    (h : Statements.othersRest s [k] (BoundaryRests m)) :
    placeBoundary m s =
      if st = .pending ∧ f.start ≠ m + f.lead then s else place ⟨.scheduled, .scheduled⟩ m k s := by
  have progress : ∀ j ∈ progressSlots s, j = k := fun j hj => by simpa using progress_of_boundaryRests h hj
  have enters : ∀ j ∈ entering m s, j = k := fun j hj => by simpa using entering_of_boundaryRests h hj
  have in_progress : k ∈ progressSlots s ↔ st ≠ .pending := by
    rw [mem_progressSlots, hk]; simp
  have in_entering : k ∈ entering m s ↔ st = .pending ∧ f.start = m + f.lead := by
    rw [mem_entering, hk]
    constructor
    · rintro ⟨f', _, _, _, he, hs⟩; cases he; exact ⟨rfl, hs⟩
    · rintro ⟨rfl, hs⟩; exact ⟨f, items, b, c, rfl, hs⟩
  rw [placeBoundary_eq]
  by_cases hp : st = .pending
  · rw [placeAll_of_none (l := progressSlots s) fun j hj => in_progress.mp (progress j hj ▸ hj) hp]
    by_cases hs : f.start = m + f.lead
    · rw [if_neg (fun h => h.2 hs), placeAll_of_only (nodup_entering m s) (in_entering.mpr ⟨hp, hs⟩) enters]
    · rw [if_pos ⟨hp, hs⟩, placeAll_of_none fun j hj => hs (in_entering.mp (enters j hj ▸ hj)).2]
  · rw [placeAll_of_only (nodup_progressSlots s) (in_progress.mpr hp) progress, if_neg (fun h => hp h.1),
      placeAll_of_none fun j hj => hp (in_entering.mp (enters j hj ▸ hj)).1]

/-- Of two that meet, the one in progress is placed first. -/
theorem placeBoundary_of_two {j : SlotNo} {g : Fixed} {others : List Item} {d e : Nat}
    (hk : look s.sched.slots k = .committed st f items b c) (hst : st ≠ .pending)
    (hj : look s.sched.slots j = .committed .pending g others d e) (hg : g.start = m + g.lead)
    (h : Statements.othersRest s [k, j] (BoundaryRests m)) :
    placeBoundary m s = place ⟨.scheduled, .scheduled⟩ m j (place ⟨.scheduled, .scheduled⟩ m k s) := by
  have progress : ∀ i ∈ progressSlots s, i = k := by
    intro i hi
    have hmem := progress_of_boundaryRests h hi
    simp only [List.mem_cons, List.not_mem_nil, or_false] at hmem
    refine hmem.resolve_right fun e => ?_
    obtain ⟨_, _, _, _, _, hne, hi'⟩ := mem_progressSlots.mp hi
    rw [e, hj] at hi'; cases hi'; exact hne rfl
  have enters : ∀ i ∈ entering m s, i = j := by
    intro i hi
    have hmem := entering_of_boundaryRests h hi
    simp only [List.mem_cons, List.not_mem_nil, or_false] at hmem
    refine hmem.resolve_left fun e => ?_
    obtain ⟨_, _, _, _, hi', -⟩ := mem_entering.mp hi
    rw [e, hk] at hi'; cases hi'; exact hst rfl
  rw [placeBoundary_eq,
    placeAll_of_only (nodup_progressSlots s) (mem_progressSlots.mpr ⟨st, f, items, b, c, hst, hk⟩) progress,
    placeAll_of_only (nodup_entering m s) (mem_entering.mpr ⟨g, others, d, e, hj, hg⟩) enters]

/-! ### The cases of the statement, by the due state -/

variable {starts : StartCause} {ends : EndCause} {u : State}

theorem placed_lead (h : Statements.Placed starts ends m k .pending f items b c s u) (hs : f.start = m + f.lead)
    (hlead : 0 < f.lead) (hm : m < c + f.grace) :
    u = setSlot k (.committed .lead f items b c) (powerOnPlan f s) := by
  unfold Statements.Placed at h; dsimp only at h
  rw [dueStage_eq, if_neg (by omega), if_pos (by omega)] at h
  obtain ⟨-, hmoved, -⟩ := h
  exact hmoved rfl rfl

theorem placed_started (h : Statements.Placed starts ends m k st f items b c s u) (hst : st = .pending ∨ st = .lead)
    (hs : f.start = m) (hm : m < c) {due : Stage}
    (hdue : due = if f.endWarn = 0 ∨ m + f.endWarn < c then .active else .ending) :
    Statements.Started starts k f
      (setSlot k (.committed due f items b c) (if st = .lead then s else powerOnPlan f s)) u := by
  have hstage : dueStage f c m = some due := by
    rw [dueStage_eq, if_neg (by omega), if_neg (by omega), if_neg (by omega), hdue]
    split <;> rfl
  have hmeets : due.meets = true := by rw [hdue]; split <;> rfl
  unfold Statements.Placed at h; dsimp only at h
  rw [hstage] at h
  obtain ⟨-, -, hpending, -, -, hlead, -⟩ := h
  rcases hst with rfl | rfl
  · exact hpending rfl hmeets
  · exact hlead (Or.inl rfl) hmeets

theorem placed_ended (h : Statements.Placed starts ends m k st f items b c s u) (hst : st.meets = true)
    (hc : m = c) (hs : f.start ≤ m) (hgrace : 0 < f.grace) :
    Statements.Ended ends f (setSlot k (.committed .done f items b c) s) u := by
  subst hc
  unfold Statements.Placed at h; dsimp only at h
  rw [dueStage_ended m hs hgrace] at h
  obtain ⟨-, -, -, -, hended, -, -⟩ := h
  exact hended hst rfl

theorem placed_over (h : Statements.Placed starts ends m k st f items b c s u) (hc : c + f.grace ≤ m) :
    (st = .lead ∨ st = .done → u = Statements.finished k f items b s) ∧
      (st.meets = true → ∃ v, Statements.Ended ends f s v ∧ u = Statements.finished k f items b v) := by
  unfold Statements.Placed at h; dsimp only at h
  rw [dueStage_over m hc] at h
  exact h.2

end Boundary

/-! ### The requests of a plan -/

theorem powerOnPlan_eq (f : Fixed) (s : State) :
    powerOnPlan f s = ([0, 1, 2, 3] : List DisplayNo).foldl (fun t d =>
      if (look f.plan d).used then emit (handleOn d (some (look f.plan d).input) t) else t) s :=
  List.foldl_filter

theorem powerOffPlan_eq (f : Fixed) (s : State) :
    powerOffPlan f s = ([0, 1, 2, 3] : List DisplayNo).foldl (fun t d =>
      if (look f.plan d).used then emit (handleOff d t) else t) s :=
  List.foldl_filter

/-- Settles O59: the boundary places the slots in progress and those that enter; the cases are `Placed` at their due
state. -/
theorem minuteBoundaryPlaces : Obligations.MinuteBoundaryPlaces := by
  refine ⟨fun s m hm => ?_, dueStage_eq, fun s => ⟨pairwise_slots _, pairwise_slots _, fun k =>
    ⟨mem_progressSlots, mem_pendingSlots, fun hk m => startsAt_iff hk⟩⟩,
    fun f s => ⟨powerOnPlan_eq f s, powerOffPlan_eq f s⟩⟩
  have exec_eq : exec .minuteBoundary s = .next
      (if s.clock.valid then placeBoundary m (s.withDue { s.due with boundary := none })
        else s.withDue { s.due with boundary := none }) := by
    show Host.Outcome.next (takeBoundary s) = _
    unfold takeBoundary; rw [hm]; rfl
  dsimp only
  refine ⟨fun hv => ?_, fun hv => ?_⟩
  · rw [exec_eq, hv]; rfl
  · rw [if_pos hv] at exec_eq
    obtain ⟨u, hu⟩ : ∃ u, u = s.withDue { s.due with boundary := none } := ⟨_, rfl⟩
    have hsched : s.sched = u.sched := by rw [hu]; rfl
    have hprogress : progressSlots s = progressSlots u := by rw [hu]; rfl
    have hentering : (pendingSlots s).filter (fun k => startsAt m (look s.sched.slots k)) = entering m u := by
      rw [hu]; rfl
    have hrest : ∀ but, Statements.othersRest s but (fun x f _ => x = .pending ∧ f.start ≠ m + f.lead) →
        Statements.othersRest u but (BoundaryRests m) := by
      rw [hu]; exact fun _ h => h
    simp only [← hu] at exec_eq ⊢
    rw [hprogress, hentering]
    simp only [hsched]
    refine ⟨⟨_, exec_eq, ?_⟩, fun hr => ?_, fun k j st f g items others b c d e hkj hk hst hj hg hr => ?_,
      fun k st f items b c hk hr => ?_⟩
    · rw [placeBoundary_eq, show placeAll _ m (entering m u) (placeAll _ m (progressSlots u) u) =
        placeAll ⟨.scheduled, .scheduled⟩ m (progressSlots u ++ entering m u) u from (List.foldl_append ..).symm]
      exact placedEach_placeAll ⟨.scheduled, .scheduled⟩ m _ u
    · rw [exec_eq, placeBoundary_of_rest (hrest _ hr)]
    · rw [exec_eq, placeBoundary_of_two hk hst hj hg (hrest _ hr)]
      have hj' : look (place ⟨.scheduled, .scheduled⟩ m k u).sched.slots j = .committed .pending g others d e :=
        (onlySlot_place _ m k u j (Ne.symm hkj)).trans hj
      have hfirst := placed_place ⟨.scheduled, .scheduled⟩ m hk
      have hsecond := placed_place ⟨.scheduled, .scheduled⟩ m hj'
      refine ⟨⟨_, _, hfirst, hsecond, rfl⟩, fun hdone hm hlead he => ?_⟩
      rw [placed_lead hsecond hg hlead he,
        (placed_over hfirst (Nat.le_of_eq hm.symm)).1 (Or.inr hdone)]
    · have hone := placeBoundary_of_one hk (hrest _ hr)
      have hplaced := placed_place ⟨.scheduled, .scheduled⟩ m hk
      have answer : (st ≠ .pending ∨ f.start = m + f.lead) →
          exec .minuteBoundary s = .next (place ⟨.scheduled, .scheduled⟩ m k u) := by
        intro h
        rw [exec_eq, hone, if_neg]
        rintro ⟨hp, hs⟩
        exact h.elim (fun h => h hp) hs
      have meets_ne : st.meets = true → st ≠ .pending := by rintro h rfl; cases h
      refine ⟨fun hp hs => ?_, fun h => ⟨_, answer h, hplaced⟩, fun hp hs hlead hc => ?_,
        fun hst hs hc hor due hdue => ?_,
        fun hst hm hs => ⟨fun hgrace => ⟨_, answer (Or.inl (meets_ne hst)), placed_ended hplaced hst hm hs hgrace⟩,
          fun hgrace => ?_⟩, fun hst hm => ?_⟩
      · rw [exec_eq, hone, if_pos ⟨hp, hs⟩]
      · subst hp
        rw [answer (Or.inr hs), placed_lead hplaced hs hlead hc]
      · refine ⟨_, answer ?_, placed_started hplaced hst hs hc hdue⟩
        rcases hor with rfl | h0
        · exact Or.inl nofun
        · exact Or.inr (by omega)
      · obtain ⟨v, hv, hfin⟩ := (placed_over hplaced (by omega)).2 hst
        exact ⟨v, hv, by rw [answer (Or.inl (meets_ne hst)), hfin]⟩
      · rw [answer (Or.inl (by rw [hst]; nofun)), (placed_over hplaced (Nat.le_of_eq hm.symm)).1 (Or.inr hst)]

end Sys2Proof.Machine
end

section
/-!
PROOFS. RESTART (R213, R214). Every block takes its RESTART value or is kept, and then the bookings are placed from
PENDING.
-/

namespace Sys2Proof.Machine

/-! ### The upstream slot -/

/-- What becomes of the upstream slot and the Answer FIFO when the slot gives its contents back (R9). -/
structure Released (s t : Port) : Prop where
  fifo : t.fifo = s.fifo
  cursor : t.cursor = s.cursor
  arrived : t.arrived = s.arrived
  back : ∀ a, s.slot = some (.answer a) → s.answers.length < 8 → t.answers = a :: s.answers ∧ t.slot = none
  stays : ∀ a, s.slot = some (.answer a) → ¬ s.answers.length < 8 → t.answers = s.answers ∧ t.slot = s.slot
  drops : (∀ a, s.slot ≠ some (.answer a)) → t.answers = s.answers ∧ t.slot = none

theorem released_empty {s : Port} (h : ∀ a, s.slot ≠ some (.answer a)) : Released s { s with slot := none } :=
  ⟨rfl, rfl, rfl, fun a ha => absurd ha (h a), fun a ha => absurd ha (h a), fun _ => ⟨rfl, rfl⟩⟩

theorem releaseSlot_eq (s : State) : ∃ (p : Port) (pending : Bool),
    releaseSlot s = (s.withPort p).withNotices { s.notices with pending := pending } ∧ Released s.port p := by
  unfold releaseSlot
  split
  · next h =>
    have hport : s.port = { s.port with slot := none } := by rw [← h]
    refine ⟨{ s.port with slot := none }, s.notices.pending, ?_, released_empty fun a => by rw [h]; nofun⟩
    rw [← hport]; rfl
  · next a h =>
    split
    · next hlt =>
      refine ⟨{ s.port with answers := a :: s.port.answers, slot := none }, s.notices.pending, rfl, rfl, rfl, rfl,
        fun b hb _ => ?_, fun _ _ hn => absurd hlt hn, fun hn => absurd h (hn a)⟩
      rw [h] at hb; cases hb; exact ⟨rfl, rfl⟩
    · next hge =>
      exact ⟨s.port, s.notices.pending, rfl, rfl, rfl, rfl, fun _ _ hlt => absurd hlt hge, fun _ _ _ => ⟨rfl, rfl⟩,
        fun hn => absurd h (hn a)⟩
  · next h => exact ⟨_, true, rfl, released_empty fun a => by rw [h]; nofun⟩
  · next h => exact ⟨_, s.notices.pending, rfl, released_empty fun a => by rw [h]; nofun⟩

/-! ### The bookings -/

theorem look_map {α β : Type} {k : Nat} (v : Vector α k) (g : α → β) (i : Fin k) : look (v.map g) i = g (look v i) := by
  simp [look]

theorem look_replicate {α : Type} (k : Nat) (x : α) (i : Fin k) : look (Vector.replicate k x) i = x := by
  simp [look]

/-- The state from which RESTART places the bookings: each is PENDING (R182). -/
def unplaced (s : State) : State := s.withSched { s.sched with slots := s.sched.slots.map backToPending }

theorem restartBookings_eq (s : State) : restartBookings s =
    if s.clock.valid then placeAll ⟨.late, .clock⟩ (presentMinute (unplaced s)) (pendingSlots (unplaced s)) (unplaced s)
    else unplaced s := rfl

section Unplaced

variable {s : State} {k : SlotNo} {st : Stage} {f : Fixed} {items : List Item} {b c : Nat}

theorem look_unplaced (s : State) (k : SlotNo) :
    look (unplaced s).sched.slots k = backToPending (look s.sched.slots k) :=
  look_map ..

theorem unplaced_of_committed (h : look s.sched.slots k = .committed st f items b c) :
    look (unplaced s).sched.slots k = .committed .pending f items b c := by
  rw [look_unplaced, h]; rfl

theorem mem_pendingSlots_unplaced : k ∈ pendingSlots (unplaced s) ↔ ∃ st f items b c,
    look s.sched.slots k = .committed st f items b c := by
  rw [mem_pendingSlots, look_unplaced]
  cases look s.sched.slots k with
  | free => simp [backToPending]
  | draft f items => simp [backToPending]
  | committed st f items b c => simp [backToPending]

/-- A booking that is due outside its window stays PENDING, behind any change of another slot. -/
theorem place_unplaced_rest {cs : Causes} {m : Nat} {v : State} (h : look s.sched.slots k = .committed st f items b c)
    (hv : look v.sched.slots k = look (unplaced s).sched.slots k) (hdue : dueStage f c m = none) :
    place cs m k v = v :=
  place_of_pending (hv.trans (unplaced_of_committed h)) hdue

end Unplaced

theorem presentMinute_congr {s t : State} (hdue : t.due.boundary = s.due.boundary) (hclock : t.clock = s.clock) :
    presentMinute t = presentMinute s := by
  unfold presentMinute; rw [hdue, hclock]

/-! ### RESTART -/

/-- The blocks' values behind a RESTART's answer, but for the placing of the bookings (R214). -/
def restarted (tag : Byte) (s : State) : State :=
  restartNotices (restartDisplays (restartScreens (restartGate (restartMixer (restartFloor (restartLinks (restartDue
    (restartPort (placeAnswer { tag := tag, code := 0x09, answer := .done, result := [] } s)))))))))

theorem exec_restart {s : State} {rest : List CommandCell} {tag : Byte} (h : Ready (.restart tag (some ())) s rest) :
    exec (.restart tag (some ())) s = .next (restartBookings (restarted tag (taken s rest))) := by
  show execRestart tag (some ()) s = _
  unfold execRestart; rw [takeCommand_of_ready h]; rfl

/-- The state that the links leave for the other blocks (R9, R25). -/
def linksRestarted (s : State) (p : Port) (pending : Bool) : State :=
  ((((restartDue s).withLinks
    { chainA := restartLink s.links.chainA, chainB := restartLink s.links.chainB
      trunk := restartLink s.links.trunk }).withSeats (Vector.replicate 64 .reset)).withPort p).withNotices
        { s.notices with pending := pending }

theorem restartLinks_eq (s : State) (q : Port) : ∃ (p : Port) (pending : Bool),
    restartLinks (restartDue (s.withPort q)) = linksRestarted s p pending ∧
      Released { q with arrived := none } p := by
  obtain ⟨p, pending, heq, hp⟩ := releaseSlot_eq (((((restartDue s).withPort q).withLinks
    { chainA := restartLink s.links.chainA, chainB := restartLink s.links.chainB
      trunk := restartLink s.links.trunk }).withSeats (Vector.replicate 64 .reset)).withPort { q with arrived := none })
  exact ⟨p, pending, heq, hp⟩

/-- The Command Port behind the first steps of R213. -/
def portRestarted (tag : Byte) (q : Port) : Port :=
  { q with
    fifo := [], cursor := { table := .seat, index := 0 }
    answers := q.answers ++ [{ tag := tag, code := 0x09, answer := .done, result := [] }] }

theorem restarted_eq (tag : Byte) (s : State) (rest : List CommandCell) : ∃ (p : Port) (pending : Bool),
    restarted tag (taken s rest) = restartNotices (restartDisplays (restartScreens (restartGate (restartMixer
      (restartFloor (linksRestarted s p pending)))))) ∧
    Released { portRestarted tag s.port with arrived := none } p := by
  obtain ⟨p, pending, heq, hp⟩ := restartLinks_eq s (portRestarted tag s.port)
  refine ⟨p, pending, ?_, hp⟩
  rw [← heq]; rfl

/-- What the bookings are placed by stays behind a RESTART of the other blocks. -/
structure PlacingKept (s t : State) : Prop where
  sched : t.sched = s.sched
  clock : t.clock = s.clock
  boundary : t.due.boundary = s.due.boundary

theorem PlacingKept.trans {s t u : State} (h : PlacingKept s t) (k : PlacingKept t u) : PlacingKept s u :=
  ⟨k.1.trans h.1, k.2.trans h.2, k.3.trans h.3⟩

theorem placingKept_restartFloor (s : State) : PlacingKept s (restartFloor s) := ⟨rfl, rfl, rfl⟩

theorem placingKept_restartMixer (s : State) : PlacingKept s (restartMixer s) := ⟨rfl, rfl, rfl⟩

theorem placingKept_restartGate (s : State) : PlacingKept s (restartGate s) := ⟨rfl, rfl, rfl⟩

theorem placingKept_restartScreens (s : State) : PlacingKept s (restartScreens s) := ⟨rfl, rfl, rfl⟩

theorem placingKept_restartDisplays (s : State) : PlacingKept s (restartDisplays s) := ⟨rfl, rfl, rfl⟩

theorem placingKept_restartNotices (s : State) : PlacingKept s (restartNotices s) := ⟨rfl, rfl, rfl⟩

theorem placingKept_blocks (s : State) : PlacingKept s
    (restartNotices (restartDisplays (restartScreens (restartGate (restartMixer (restartFloor s)))))) :=
  (placingKept_restartFloor s).trans ((placingKept_restartMixer _).trans ((placingKept_restartGate _).trans
    ((placingKept_restartScreens _).trans ((placingKept_restartDisplays _).trans (placingKept_restartNotices _)))))

/-- Settles O51: the blocks' values, then the placings from PENDING. -/
theorem restartKeepsAndClears : Obligations.RestartKeepsAndClears := by
  intro s rest tag h
  obtain ⟨p, pending, heq, hp⟩ := restarted_eq tag s rest
  have hexec := exec_restart h
  have hlen : s.port.answers.length < 8 := h.1
  obtain ⟨hfifo, hcursor, harrived, hback, hstays, hdrops⟩ := hp
  rw [heq] at hexec; clear heq
  generalize hz : restartNotices _ = z at hexec
  obtain ⟨hsched, hclock, hboundary⟩ := hz ▸ placingKept_blocks _
  have hslots : z.sched.slots = s.sched.slots := by rw [hsched]; rfl
  replace hclock : z.clock = s.clock := hclock.trans rfl
  have hminute : presentMinute (unplaced z) = presentMinute s :=
    presentMinute_congr (hboundary.trans rfl) hclock
  rw [restartBookings_eq, hclock, hminute] at hexec
  refine ⟨unplaced z, fun hrest => ?_, fun k st f items b c hv hk hrest => ?_, fun order hv hsorted hmem => ?_, ?_⟩
  · rw [hexec]
    cases hv : s.clock.valid with
    | false => rfl
    | true =>
      have hdue := hrest.resolve_left (by rw [hv]; nofun)
      refine congrArg Host.Outcome.next (foldl_of_rest fun k hk => ?_)
      obtain ⟨st, f, items, b, c, hk⟩ := mem_pendingSlots_unplaced.mp hk
      exact place_unplaced_rest hk rfl (hdue k st f items b c (by rw [← hslots]; exact hk))
  · have hzk : look z.sched.slots k = .committed st f items b c := by rw [hslots]; exact hk
    refine ⟨_, placed_place ⟨.late, .clock⟩ (presentMinute s) (unplaced_of_committed hzk), ?_⟩
    rw [hexec, if_pos hv]
    refine congrArg Host.Outcome.next (foldl_of_one (nodup_pendingSlots _)
      (mem_pendingSlots_unplaced.mpr ⟨st, f, items, b, c, hzk⟩) fun j hj hjk => ?_)
    obtain ⟨st, g, items, b, d, hj⟩ := mem_pendingSlots_unplaced.mp hj
    have hdue := hrest j st g items b d (by simpa using hjk) (by rw [← hslots]; exact hj)
    exact ⟨place_unplaced_rest hj rfl hdue, place_unplaced_rest hj (onlySlot_place _ _ k _ j hjk) hdue⟩
  · have horder : order = pendingSlots (unplaced z) :=
      hsorted.eq_of_mem_iff (pairwise_slots _) fun {k} => by rw [hmem, mem_pendingSlots_unplaced, hslots]
    rw [horder]
    exact ⟨_, placedEach_placeAll ⟨.late, .clock⟩ (presentMinute s) _ _, by rw [hexec, if_pos hv]⟩
  · subst hz
    refine ⟨?_, ?_, ?_, ?_, fun link => ?_, fun n => look_replicate 64 _ n, rfl, rfl, rfl, rfl,
      fun n => look_replicate 64 _ n,
      fun i => ⟨look_replicate 66 _ i, look_replicate 66 _ i, look_replicate 66 _ i⟩, rfl,
      fun n => ⟨look_replicate 64 _ n, look_replicate 64 _ n⟩, rfl, rfl, fun d => look_replicate 4 _ d, rfl, rfl, rfl,
      rfl, rfl, rfl, rfl, rfl, rfl, rfl, rfl, rfl, rfl, fun k => ⟨fun st f items b c hk => ?_, fun hk => ?_,
        fun f items hk => ?_⟩⟩
    · intro r hr
      subst hr
      have hanswers : ({ portRestarted tag s.port with arrived := none } : Port).answers.length =
          s.port.answers.length + 1 := by simp [portRestarted]
      refine ⟨fun a ha => ⟨fun h7 => ?_, fun h7 => ?_⟩, fun hn => hdrops hn⟩
      · exact hback a ha (by rw [hanswers]; omega)
      · exact hstays a ha (by rw [hanswers]; omega)
    · exact hfifo
    · exact harrived
    · exact hcursor
    · cases link <;> exact ⟨rfl, rfl, rfl⟩
    · exact (look_unplaced _ k).trans (by rw [hslots, hk]; rfl)
    · exact (look_unplaced _ k).trans (by rw [hslots, hk]; rfl)
    · exact (look_unplaced _ k).trans (by rw [hslots, hk]; rfl)

end Sys2Proof.Machine
end

section
/-!
PROOFS. PUT TO THE SEAT TABLE, TO A BOOKING SLOT AND TO THE IDLE SETUP. A PUT at its entry is its owner's store; the
floor's part of each store is one of the events that the lemmas before say whole.
-/

namespace Sys2Proof.Machine

/-! ### The Seat Table -/

theorem leaveHolders_eq : leaveHolders = Statements.withoutHolder := rfl

theorem seatEntry?_eq_none {f : SeatFields} (h : 2 < f.role ∨ 127 < f.name ∧ f.name ≠ 255) : seatEntry? f = none := by
  unfold seatEntry?
  rcases h with h | ⟨h, hne⟩
  · have hrole : role? f.role = none := by
      unfold role?; split
      · omega
      · omega
      · omega
      · rfl
    rw [hrole]
  · have hname : optIndex? 128 f.name = none := by
      unfold optIndex?; rw [if_neg hne, index?_of_le h]; rfl
    rw [hname]; cases role? f.role <;> rfl

theorem seatEntry?_role {f : SeatFields} {e : SeatEntry} (h : seatEntry? f = some e) (hrole : f.role = 1) :
    e.role = .chair := by
  unfold seatEntry? at h
  rw [show role? f.role = some .chair by rw [hrole]; rfl] at h
  cases hn : optIndex? 128 f.name with
  | none => rw [hn] at h; cases h
  | some name => rw [hn] at h; cases h; rfl

section Store

variable {s : State} {n : Seat} {f : SeatFields} {e : SeatEntry}

theorem putSeatStore_of_none (h : seatEntry? f = none) : putSeatStore n f s = refusal .range s := by
  unfold putSeatStore; rw [h]

theorem putSeatStore_of_some (h : seatEntry? f = some e) :
    putSeatStore n f s =
      if e.role = .chair ∧ (look s.seatTable n).role ≠ .chair ∧ 2 ≤ otherChairs s n then refusal .range s
      else if e.role = (look s.seatTable n).role then done (keepRole n e s) else done (changeRole n e s) := by
  unfold putSeatStore; rw [h]

theorem putSeatStore_keeps (h : seatEntry? f = some e) (hrole : e.role = (look s.seatTable n).role) :
    putSeatStore n f s = done (keepRole n e s) := by
  rw [putSeatStore_of_some h, if_neg fun hc => hc.2.1 (hrole ▸ hc.1), if_pos hrole]

theorem putSeatStore_changes (h : seatEntry? f = some e) (hrole : e.role ≠ (look s.seatTable n).role)
    (hroom : otherChairs s n < 2 ∨ e.role ≠ .chair) : putSeatStore n f s = done (changeRole n e s) := by
  rw [putSeatStore_of_some h, if_neg, if_neg hrole]
  rintro ⟨hchair, -, htwo⟩
  exact hroom.elim (fun h => absurd htwo (Nat.not_le.mpr h)) (fun h => h hchair)

end Store

/-- With its seat exempt, an entry has no points (R75). -/
theorem openTimer_exempt {setup : FloorSetup} {table : Vector SeatEntry 64} {n : Seat} {l : List Entry}
    {fix : Entry → Entry} (hfix : ∀ x, fix x = if x.seat = n then Statements.realigned setup table x else x)
    (hexempt : (look table n).exempt = true) {floor : Floor} (hfloor : floor.openList = l.map fix) (t : Timer)
    (ht : openTimer floor n = some t) : t.warn = none ∧ t.limit = none := by
  obtain ⟨e, he, rfl⟩ := Option.map_eq_some_iff.mp ht
  have hseat : e.seat = n := by simpa using List.find?_some he
  have hmem := List.mem_of_find?_eq_some he
  rw [hfloor] at hmem
  obtain ⟨x, -, rfl⟩ := List.mem_map.mp hmem
  have hx : x.seat = n := by
    by_cases h : x.seat = n
    · exact h
    · rwa [hfix, if_neg h] at hseat
  rw [hfix, if_pos hx]
  unfold Statements.realigned
  rw [hx, hexempt]; simp

/-- The Command Port, the Seat Table and the bookings are the same. -/
structure TablesKept (s t : State) : Prop where
  port : t.port = s.port
  seatTable : t.seatTable = s.seatTable
  sched : t.sched = s.sched

theorem meetingClosed_tablesKept : MeetingClosed TablesKept where
  refl _ := ⟨rfl, rfl, rfl⟩
  trans h k := ⟨k.1.trans h.1, k.2.trans h.2, k.3.trans h.3⟩
  append _ _ _ _ := ⟨rfl, rfl, rfl⟩
  floor _ _ := ⟨rfl, rfl, rfl⟩
  gate _ _ := ⟨rfl, rfl, rfl⟩
  refuse _ _ := ⟨rfl, rfl, rfl⟩
  bank _ _ := ⟨rfl, rfl, rfl⟩
  messages _ := ⟨rfl, rfl, rfl⟩

/-- Settles O45: a PUT at a seat is `putSeatStore`, by its checks. -/
theorem putSeatStores : Obligations.PutSeatStores := by
  intro s rest tag f n h hc
  have put : ∀ {t : State} {code : AnswerCode},
      putSeatStore n f (taken s rest) = { state := t, code := code, result := [] } →
      t.port = (taken s rest).port →
      exec (.putSeat tag (some f)) s = .next (t.withPort (putPort s.port rest tag code)) := by
    intro t code hstore hport
    refine exec_put_on rfl h (by rw [hc]; rfl) (by rw [hc]; exact n.isLt) ?_ hport
    rw [hc]; dsimp only; rw [atIndex_val]; exact hstore
  refine ⟨fun hbad => put (t := taken s rest) (putSeatStore_of_none (seatEntry?_eq_none hbad)) rfl,
    fun hrole hchair htwo => put (t := taken s rest) ?_ rfl, fun e he => ⟨fun hrole => ⟨fun hsame => ?_,
      fun hne hmic fix u hfix hu => ?_⟩, fun hrole hroom => ?_⟩⟩
  · cases he : seatEntry? f with
    | none => exact putSeatStore_of_none he
    | some e =>
      rw [putSeatStore_of_some he]
      exact if_pos ⟨seatEntry?_role he hrole, hchair, htwo⟩
  · refine (put (t := (taken s rest).withSeatTable (upd s.seatTable n e))
      ((putSeatStore_keeps (s := taken s rest) he hrole).trans (congrArg done ?_)) rfl).trans rfl
    unfold keepRole; dsimp only
    rcases hsame with hsame | ⟨ho, hs⟩
    · exact if_pos hsame
    · refine (ite_eq_left_iff.mpr fun _ => if_neg ?_)
      show ¬ (hasEntry s.floor.openList n || hasEntry s.floor.shadow n) = true
      rw [ho, hs]; nofun
  · have hentry : (hasEntry s.floor.openList n || hasEntry s.floor.shadow n) = true := by
      rw [Bool.or_eq_true]
      exact hmic.imp micState_opened.mp hasEntry_of_held
    have hfixed : fix = fun x => if x.seat = n then
        realignEntry s.floor.setup (upd s.seatTable n e) x else x := by
      funext x; rw [hfix, realignEntry_eq]
    have hkeep : keepRole n e (taken s rest) = afterFloor (checkTimer n u) := by
      unfold keepRole; dsimp only
      refine (if_neg hne).trans ((if_pos hentry).trans ?_)
      rw [hu, hfixed]; rfl
    refine ⟨put ((putSeatStore_keeps (s := taken s rest) he hrole).trans (congrArg done hkeep)) ?_,
      fun hexempt hwait => ?_⟩
    · rw [(meetingClosed_tablesKept.rel_afterFloor _).port, (meetingClosed_tablesKept.rel_checkTimer n u).port, hu]; rfl
    · have hfloor : u.floor.openList = s.floor.openList.map fix := by rw [hu]; rfl
      rw [checkTimer_of_pointless (openTimer_exempt hfix (by rw [look_upd_self]; exact hexempt) hfloor)]
      obtain ⟨h1, -, h2, -⟩ := afterFloor_nobody (s := u) (by rw [hu]; exact hwait)
      exact ⟨h1, h2.trans (by rw [hu]; rfl)⟩
  · have hleft : TablesKept (taken s rest)
        (Statements.withoutHolder n (withLeft .config .config n (taken s rest))) := by
      rw [← takeOut_eq, ← leaveHolders_eq]
      exact meetingClosed_tablesKept.trans (meetingClosed_tablesKept.rel_takeOut _ _ _ _)
        (meetingClosed_tablesKept.rel_leaveHolders _ _)
    have hchange : changeRole n e (taken s rest) = afterFloor
        ((Statements.withoutHolder n (withLeft .config .config n (taken s rest))).withSeatTable
          (upd s.seatTable n e)) := by
      unfold changeRole storeSeat
      rw [takeOut_eq, leaveHolders_eq, hleft.seatTable]; rfl
    refine put ((putSeatStore_changes (s := taken s rest) he hrole hroom).trans (congrArg done hchange)) ?_
    rw [(meetingClosed_tablesKept.rel_afterFloor _).port]
    exact hleft.port

end Sys2Proof.Machine
end

section
/-!
PROOFS. PUT TO A BOOKING SLOT AND TO THE IDLE SETUP (R161, R180, R181). The Idle Setup's effect is a meeting signal or a
setup change, each of which is said whole before.
-/

namespace Sys2Proof.Machine

section Booking

variable {s : State} {k : SlotNo} {f : BookingFields} {x : Fixed}

/-- A PUT to a FREE or DRAFT slot stores the fixed part with the items that the slot has, or is refused. -/
theorem putBookingStore_open {items : List Item} (hk : look s.sched.slots k = .free ∧ items = [] ∨
      ∃ old, look s.sched.slots k = .draft old items) :
    (fixed? f = none → putBookingStore k f s = refusal .range s) ∧
      (∀ x, fixed? f = some x → putBookingStore k f s = done (setSlot k (.draft x items) s)) := by
  unfold putBookingStore
  rcases hk with ⟨hfree, rfl⟩ | ⟨old, hdraft⟩
  · rw [hfree]; exact ⟨fun h => by dsimp only; rw [h], fun x h => by dsimp only; rw [h]⟩
  · rw [hdraft]; exact ⟨fun h => by dsimp only; rw [h], fun x h => by dsimp only; rw [h]⟩

end Booking

section Idle

variable {s : State} {old new : IdleSetup}

theorem idleEffect_of_kept (h : bookingCurrent s.floor.meeting = true ∨ old.enabled = false ∧ new.enabled = false) :
    idleEffect old new s = s := by
  unfold idleEffect
  by_cases hb : bookingCurrent s.floor.meeting = true
  · exact if_pos hb
  · obtain ⟨h1, h2⟩ := h.resolve_left hb
    rw [if_neg hb, h1, h2]

theorem idleEffect_of_on (hb : bookingCurrent s.floor.meeting = false) (h1 : old.enabled = false)
    (h2 : new.enabled = true) : idleEffect old new s = appendWith (.meetingStart .idle) none (some 0)
      (bankRequest new.bank (meetingSignal .idle new.setup s)) := by
  unfold idleEffect; rw [if_neg (by rw [hb]; nofun), h1, h2]

theorem idleEffect_of_off (hb : bookingCurrent s.floor.meeting = false) (h1 : old.enabled = true)
    (h2 : new.enabled = false) : idleEffect old new s = appendWith (.meetingEnd .idle) none (some 0)
      (bankRequest new.bank (meetingSignal .none new.setup s)) := by
  unfold idleEffect; rw [if_neg (by rw [hb]; nofun), h1, h2]

theorem idleEffect_of_stays (hb : bookingCurrent s.floor.meeting = false) (h1 : old.enabled = true)
    (h2 : new.enabled = true) : idleEffect old new s =
      if new.bank = old.bank then idleSetupChange new.setup s
      else bankRequest new.bank (idleSetupChange new.setup s) := by
  unfold idleEffect; rw [if_neg (by rw [hb]; nofun), h1, h2]

/-- The mixer stays behind every floor event. -/
theorem floorClosed_mixer : FloorClosed (fun s t => t.mixer = s.mixer) where
  refl _ := rfl
  trans h k := k.trans h
  append _ _ _ _ := rfl
  floor _ _ := rfl
  gate _ _ := rfl
  refuse _ _ := rfl

theorem idleSetupChange_mixer (x : FloorSetup) (s : State) : (idleSetupChange x s).mixer = s.mixer := by
  unfold idleSetupChange; split
  · rfl
  · exact floorClosed_mixer.rel_setupChange x s

theorem idleSetupChange_floor (x : FloorSetup) (s : State) :
    (idleSetupChange x s).floor.setup = x ∧ (idleSetupChange x s).floor.meeting = s.floor.meeting := by
  unfold idleSetupChange; split
  · exact ⟨rfl, rfl⟩
  · exact ⟨(setupChange_floor x s).1, (setupChange_floor x s).2.1⟩

/-- A bank request that is made only for another bank. -/
theorem bankRequest_ite (p : Prop) [Decidable p] (b : Fin 2) (t : State) :
    (if p then t else bankRequest b t).floor = t.floor ∧ (if p then t else bankRequest b t).log = t.log ∧
      (if p then t else bankRequest b t).mixer = if p then t.mixer else { t.mixer with pending := some b } := by
  split <;> exact ⟨rfl, rfl, rfl⟩

theorem graft_floor (o s : State) : (graft o s).floor = s.floor := rfl

theorem graft_log (o s : State) : (graft o s).log = s.log := rfl

theorem graft_setupChanged (o : State) (x : FloorSetup) (s : State) :
    afterFloor (Statements.recomputed
      ((if (graft o s).floor.phase = .running then
          (delegateSeats (graft o s).floor).take (delegates (graft o s).floor - x.maxOpen)
        else []).foldl (fun v n => withClosed .setup n v)
          ((graft o s).withFloor { (graft o s).floor with setup := x }))) =
    graft o (afterFloor (Statements.recomputed
      ((if s.floor.phase = .running then (delegateSeats s.floor).take (delegates s.floor - x.maxOpen)
        else []).foldl (fun v n => withClosed .setup n v) (s.withFloor { s.floor with setup := x })))) := by
  rw [show (graft o s).floor = s.floor from rfl,
    show (graft o s).withFloor { s.floor with setup := x } = graft o (s.withFloor { s.floor with setup := x })
      from rfl,
    graft_foldl (fun s n => graft_withClosed o .setup n s), graft_recomputed, graft_afterFloor]

end Idle

/-- A meeting signal of the idle meeting, from a state with the new Idle Setup. -/
theorem idle_signalled {next : Meeting} {x : IdleSetup} {event : LogEvent} {setup : FloorSetup} {s v : State}
    (p : Port) (hv : v = graft v s) (hmixer : v.mixer = s.mixer)
    (hsetup : setupAfter next x.setup s.floor.setup = setup) {w t : State}
    (hw : w = appendWith event none (some 0) (bankRequest x.bank (meetingSignal next x.setup v)))
    (ht : t = w.withPort p) :
    t.floor = emptyFloor
        (if s.floor.phase = .alert then .alert else if next = .none then .closed else .running) setup next ∧
      t.mixer = { s.mixer with pending := some x.bank } ∧ (∀ n : Seat, look t.screens.messages n = none) ∧
      newestIs t event none (some 0) ∧
      (seatsDistinct s.floor.openList → seatsDistinct s.floor.shadow →
        ∀ u : State, u = appendWith event none (some 0) (Statements.emptied .meeting s) →
          t.log = u.log ∧ t.notices = u.notices) := by
  have hfloor : v.floor = s.floor := by rw [hv]; rfl
  have hspec := signalled_spec (s := v) (next := next) (f := x.setup) x.bank event none 0 rfl
  rw [hfloor, hsetup, ← hw] at hspec
  clear hw
  obtain ⟨h1, h2, -, -, h5, h6⟩ := hspec
  rw [hfloor] at h1 h6
  subst ht
  refine ⟨h1, ?_, fun n => ?_, ?_, fun ho hs u hu => ?_⟩
  · rw [withPort_mixer, h2.mixer, ← hmixer]; rfl
  · rw [withPort_screens, h2.screens]; exact look_replicate 64 none n
  · unfold newestIs at h5 ⊢; rw [withPort_log, withPort_clock]; exact h5
  · obtain ⟨h7, h8⟩ := h6 ho hs
    rw [withPort_log, withPort_notices, h7, h8, hv, graft_emptied, hu]
    exact ⟨rfl, rfl⟩

/-- Settles O46: a PUT to a slot by its state, and the Idle Setup by the two enabled flags. -/
theorem putBookingAndIdle : Obligations.PutBookingAndIdle := by
  intro s rest tag
  refine ⟨fun f k h hc => ?_, fun f h hc => ?_⟩
  · have put : ∀ {t : State} {code : AnswerCode},
        putBookingStore k f (taken s rest) = { state := t, code := code, result := [] } →
        t.port = (taken s rest).port →
        exec (.putBooking tag (some f)) s = .next (t.withPort (putPort s.port rest tag code)) := by
      intro t code hstore hport
      refine exec_put_on rfl h (by rw [hc]; rfl) (by rw [hc]; exact k.isLt) ?_ hport
      rw [hc]; dsimp only; rw [atIndex_val]; exact hstore
    refine ⟨fun st x items booked current hk => put (t := taken s rest) ?_ rfl, fun hk => ?_, fun old items hk => ?_⟩
    · unfold putBookingStore
      rw [show look (taken s rest).sched.slots k = .committed st x items booked current from hk]; rfl
    · obtain ⟨hnone, hsome⟩ := putBookingStore_open (s := taken s rest) (f := f) (Or.inl ⟨hk, rfl⟩)
      exact ⟨fun hf => put (t := taken s rest) (hnone hf) rfl, fun x hf => (put (hsome x hf) rfl).trans rfl⟩
    · obtain ⟨hnone, hsome⟩ := putBookingStore_open (s := taken s rest) (f := f) (Or.inr ⟨old, hk⟩)
      exact ⟨fun hf => put (t := taken s rest) (hnone hf) rfl, fun x hf => (put (hsome x hf) rfl).trans rfl⟩
  · have put : ∀ {t : State} {code : AnswerCode},
        putIdleStore f (taken s rest) = { state := t, code := code, result := [] } →
        t.port = (taken s rest).port →
        exec (.putIdle tag (some f)) s = .next (t.withPort (putPort s.port rest tag code)) := by
      intro t code hstore hport
      refine exec_put_on rfl h (by rw [hc]; rfl) (by rw [hc]; exact Nat.zero_lt_one) ?_ hport
      exact hstore
    refine ⟨fun hf => put (t := taken s rest) (by unfold putIdleStore; rw [hf]; rfl) rfl, fun x hx => ?_⟩
    obtain ⟨v, hv⟩ : ∃ v, v = (taken s rest).withSched { s.sched with idle := x } := ⟨_, rfl⟩
    have hgraft : v = graft v s := by rw [hv]; rfl
    have hfloor : v.floor = s.floor := by rw [hv]; rfl
    have hmixer : v.mixer = s.mixer := by rw [hv]; rfl
    have hkept := meetingClosed_tablesKept.rel_idleEffect s.sched.idle x v
    refine ⟨(idleEffect s.sched.idle x v).withPort (putPort s.port rest tag .done), put ?_ ?_, ?_, rfl, fun hk => ?_,
      fun hb h1 h2 => ?_, fun hb h1 h2 => ?_, fun hb h1 h2 => ?_⟩
    · unfold putIdleStore; rw [hx, hv]; rfl
    · rw [hkept.port, hv]; rfl
    · rw [withPort_sched, hkept.sched, hv]; rfl
    · rw [idleEffect_of_kept (by rw [hfloor]; exact hk), hv]; exact ⟨rfl, rfl, rfl, rfl⟩
    · rw [← hfloor] at hb
      exact idle_signalled (next := .idle) (x := x) _ hgraft hmixer rfl (idleEffect_of_on hb h1 h2) rfl
    · rw [← hfloor] at hb
      exact idle_signalled (next := .none) (x := x) _ hgraft hmixer rfl (idleEffect_of_off hb h1 h2) rfl
    · rw [← hfloor] at hb
      rw [idleEffect_of_stays hb h1 h2]
      obtain ⟨hsetup, hmeeting⟩ := idleSetupChange_floor x.setup v
      obtain ⟨hf, hl, hm⟩ := bankRequest_ite (x.bank = s.sched.idle.bank) x.bank (idleSetupChange x.setup v)
      rw [withPort_floor, withPort_log, withPort_mixer, hf, hl, hm, idleSetupChange_mixer, hmixer]
      refine ⟨hsetup, by rw [hmeeting, hfloor], rfl, fun ha => ?_, fun hna hmode hd u hu => ?_⟩
      · have : idleSetupChange x.setup v = v.withFloor { v.floor with setup := x.setup } :=
          if_pos (by rw [hfloor]; exact ha)
        rw [this, withFloor_floor, hfloor]
      · have : idleSetupChange x.setup v = setupChange x.setup v := if_neg (by rw [hfloor]; exact hna)
        rw [this, setupChange_sameMode (by rw [hfloor]; exact hmode) (by rw [hfloor]; exact hd), hgraft,
          graft_setupChanged, graft_floor, graft_log, hu]
        exact ⟨rfl, rfl⟩

end Sys2Proof.Machine
end

section
/-!
PROOFS. THE DISPLAY REQUESTS (R142 to R147). A request writes one record and the IR Send Queue, and then the emitter
takes what waits.
-/

namespace Sys2Proof.Machine

/-- A display's record and the IR Send Queue written. -/
def withDisplay (d : DisplayNo) (r : DisplayRecord) (q : List IrEntry) (s : State) : State :=
  s.withDisplays { s.displays with records := upd s.displays.records d r, queue := q }

section Requests

variable {s : State} {d : DisplayNo} {r : DisplayRecord}

theorem withDisplay_same (hr : r = displayRecord s d) : withDisplay d r s.displays.queue s = s := by
  subst hr
  unfold withDisplay displayRecord; rw [upd_look]; rfl

/-- The pending input that a POWER ON request asks for. -/
theorem withPendingInput_eq {i wanted : Option InputNo} (r : DisplayRecord)
    (h : i = none ∧ wanted = r.pending ∨ ∃ n, i = some n ∧ wanted = some n) :
    withPendingInput i r = { r with pending := wanted } := by
  rcases h with ⟨rfl, rfl⟩ | ⟨n, rfl, rfl⟩ <;> rfl

/-! ### A new input of a display in ON, STEADY -/

/-- The queue with a new input for a display: the waiting INPUT entry takes it, or it joins the tail (R145). -/
def withInput (d : DisplayNo) (n : InputNo) (q : List IrEntry) : List IrEntry :=
  if q.any (fun e => decide (e.display = d) && isInput e.code) then
    q.map (fun e => if e.display = d ∧ isInput e.code = true then { display := d, code := .input n } else e)
  else q ++ [{ display := d, code := .input n }]

theorem replaceInput_eq (d : DisplayNo) (n : InputNo) :
    replaceInput d n =
      fun e => if e.display = d ∧ isInput e.code = true then { display := d, code := .input n } else e := by
  funext ⟨display, code⟩
  unfold replaceInput
  by_cases hd : display = d
  · subst hd
    cases code with
    | powerOn => exact (if_pos rfl).trans (if_neg (fun h => by cases h.2)).symm
    | powerOff => exact (if_pos rfl).trans (if_neg (fun h => by cases h.2)).symm
    | input m => exact (if_pos rfl).trans (if_pos ⟨rfl, rfl⟩).symm
  · exact (if_neg hd).trans (if_neg (fun h => hd h.1)).symm

theorem hasInputWaiting_eq (d : DisplayNo) (q : List IrEntry) :
    hasInputWaiting d q = q.any (fun e => decide (e.display = d) && isInput e.code) := rfl

theorem steadyInput_eq (hr : r = displayRecord s d) (n : InputNo) :
    steadyInput d n s = withDisplay d r (withInput d n s.displays.queue) s := by
  subst hr
  unfold steadyInput withInput withDisplay displayRecord
  rw [hasInputWaiting_eq, replaceInput_eq, upd_look]
  split <;> rfl

/-! ### POWER ON -/

variable {i : Option InputNo}

theorem handleOn_off (hr : r = displayRecord s d) (h : r.state = .off) :
    handleOn d i s = withDisplay d { withPendingInput i r with state := .warming, phase := some .sending }
      (s.displays.queue ++ [{ display := d, code := .powerOn }]) s := by
  unfold handleOn; rw [← hr]; dsimp only; rw [h]; subst hr; rfl

theorem handleOn_later (hr : r = displayRecord s d)
    (h : r.state = .cooling ∨ r.state ≠ .off ∧ r.phase = some .stopping) :
    handleOn d i s = withDisplay d { withPendingInput i r with pendingOn := true } s.displays.queue s := by
  unfold handleOn; rw [← hr]; dsimp only
  cases hs : r.state with
  | cooling => rfl
  | off => exact absurd hs (h.resolve_left (by rw [hs]; nofun)).1
  | warming => rw [(h.resolve_left (by rw [hs]; nofun)).2]; rfl
  | on => rw [(h.resolve_left (by rw [hs]; nofun)).2]; rfl

theorem handleOn_warming (hr : r = displayRecord s d) (h : r.state = .warming) (hp : r.phase ≠ some .stopping) :
    handleOn d i s = withDisplay d (withPendingInput i r) s.displays.queue s := by
  unfold handleOn; rw [← hr]; dsimp only; rw [h]
  cases hph : r.phase with
  | none => rfl
  | some p =>
    cases p with
    | stopping => exact absurd hph hp
    | _ => rfl

theorem handleOn_steady (hr : r = displayRecord s d) (h : r.state = .on) (hp : r.phase = some .steady) :
    (handleOn d none s = s) ∧ ∀ n, handleOn d (some n) s = steadyInput d n s := by
  unfold handleOn; rw [← hr]; dsimp only; rw [h, hp]; exact ⟨rfl, fun _ => rfl⟩

/-! ### POWER OFF and INPUT -/

theorem stopDisplay_eq (hr : r = displayRecord s d) :
    stopDisplay d s = withDisplay d { r with timer := 0, phase := some .stopping }
      (s.displays.queue.filter (fun e => decide (e.display ≠ d)) ++ [{ display := d, code := .powerOff }]) s := by
  subst hr; rfl

theorem handleOff_off (hr : r = displayRecord s d) (h : r.state = .off) : handleOff d s = s := by
  unfold handleOff; rw [← hr]; dsimp only; rw [h]

theorem handleOff_later (hr : r = displayRecord s d)
    (h : r.state = .cooling ∨ r.state ≠ .off ∧ r.phase = some .stopping) :
    handleOff d s = withDisplay d { r with pendingOn := false } s.displays.queue s := by
  unfold handleOff; rw [← hr]; dsimp only
  cases hs : r.state with
  | cooling => rfl
  | off => exact absurd hs (h.resolve_left (by rw [hs]; nofun)).1
  | warming => rw [(h.resolve_left (by rw [hs]; nofun)).2]; rfl
  | on => rw [(h.resolve_left (by rw [hs]; nofun)).2]; rfl

theorem handleOff_up (hr : r = displayRecord s d) (h : r.state = .warming ∨ r.state = .on)
    (hp : r.phase ≠ some .stopping) : handleOff d s = stopDisplay d s := by
  unfold handleOff; rw [← hr]; dsimp only
  cases hph : r.phase with
  | none => rcases h with h | h <;> rw [h]
  | some p =>
    cases p with
    | stopping => exact absurd hph hp
    | _ => rcases h with h | h <;> rw [h]

theorem handleInput_steady (hr : r = displayRecord s d) (h : r.state = .on) (hp : r.phase = some .steady)
    (n : InputNo) : handleInput d n s = steadyInput d n s := by
  unfold handleInput; rw [← hr]; dsimp only; rw [h, hp]

theorem handleInput_later (hr : r = displayRecord s d) (h : r.state ≠ .on ∨ r.phase = some .stopping) (n : InputNo) :
    handleInput d n s = withDisplay d { r with pending := some n } s.displays.queue s := by
  unfold handleInput; rw [← hr]; dsimp only
  cases hs : r.state with
  | on => rw [h.resolve_left (fun h => h hs)]; rfl
  | off => rfl
  | warming => rfl
  | cooling => rfl

end Requests

theorem input?_of_succ (n : InputNo) : input? (n.val + 1) = some n := by
  unfold input?; rw [dif_pos (by omega)]; rfl

theorem input?_of_out {n : Nat} (h : n = 0 ∨ 4 < n) : input? n = none := by
  unfold input?; rw [dif_neg (by omega)]

theorem optInput?_of_succ (n : InputNo) : optInput? (n.val + 1) = some (some n) := by
  unfold optInput?; rw [if_neg (Nat.succ_ne_zero _), input?_of_succ]; rfl

theorem optInput?_of_out {n : Nat} (h : 4 < n) : optInput? n = none := by
  unfold optInput?; rw [if_neg (by omega), input?_of_out (Or.inr h)]; rfl

theorem optInput?_isSome {n : Nat} (h : n ≤ 4) : ∃ i, optInput? n = some i := by
  cases n with
  | zero => exact ⟨none, rfl⟩
  | succ n => exact ⟨some ⟨n, by omega⟩, optInput?_of_succ ⟨n, by omega⟩⟩

/-- Settles O56: each request by the display's state and phase. -/
theorem displayRequests : Obligations.DisplayRequests := by
  intro s rest tag display input
  refine ⟨fun h => ⟨fun hbad => exec_refused rfl h ?_, fun d r wanted hd hr hw => ?_⟩,
    fun h => ⟨fun hbad => exec_refused rfl h ?_, fun d r hd hr hin => ?_⟩,
    fun h => ⟨fun hbad => exec_refused rfl h ?_, fun d r n hd hr hin => ?_⟩⟩
  · simp only [withForm, powerOnReply]
    rcases hbad with hbad | hbad
    · rw [index?_of_le hbad]
    · rw [optInput?_of_out hbad]; cases index? 4 display <;> rfl
  · subst hd
    obtain ⟨i, hi, hwanted⟩ : ∃ i, optInput? input = some i ∧
        (i = none ∧ wanted = r.pending ∨ ∃ n, i = some n ∧ wanted = some n) := by
      rcases hw with ⟨rfl, hw⟩ | ⟨n, rfl, hw⟩
      · exact ⟨none, rfl, Or.inl ⟨rfl, hw⟩⟩
      · exact ⟨some n, optInput?_of_succ n, Or.inr ⟨n, rfl, hw⟩⟩
    have asked : ∀ {t : State}, handleOn d i (taken s rest) = t →
        exec (.displayPowerOn tag (some (d.val, input))) s = .next (answered tag 0x30 .done [] (emit t)) := by
      intro t ht
      refine exec_done rfl h ?_
      simp only [withForm, powerOnReply, index?_val, hi]
      exact congrArg (fun x => done (emit x)) ht
    have hrec : r = displayRecord (taken s rest) d := hr
    have hpend := withPendingInput_eq r hwanted
    refine ⟨fun hs => asked ?_, fun hs => asked ?_, fun hs hp => asked ?_, fun hs hp => ⟨fun h0 => asked ?_,
      fun n hn => asked ?_⟩⟩
    · rw [handleOn_off hrec hs, hpend]; rfl
    · rw [handleOn_later hrec hs, hpend]; rfl
    · rw [handleOn_warming hrec hs hp, hpend]; rfl
    · subst h0; cases hi
      exact (handleOn_steady hrec hs hp).1.trans (withDisplay_same hrec).symm
    · subst hn; rw [optInput?_of_succ] at hi; cases hi
      exact ((handleOn_steady hrec hs hp).2 n).trans (steadyInput_eq hrec n)
  · simp only [withForm, powerOffReply]
    rcases hbad with hbad | hbad
    · rw [index?_of_le hbad]
    · rw [optInput?_of_out hbad]; cases index? 4 display <;> rfl
  · subst hd
    obtain ⟨i, hi⟩ := optInput?_isSome hin
    have asked : ∀ {t : State}, handleOff d (taken s rest) = t →
        exec (.displayPowerOff tag (some (d.val, input))) s = .next (answered tag 0x30 .done [] (emit t)) := by
      intro t ht
      refine exec_done rfl h ?_
      simp only [withForm, powerOffReply, index?_val, hi]
      exact congrArg (fun x => done (emit x)) ht
    have hrec : r = displayRecord (taken s rest) d := hr
    exact ⟨fun hs => asked ((handleOff_off hrec hs).trans (withDisplay_same hrec).symm),
      fun hs => asked (handleOff_later hrec hs),
      fun hs hp => asked ((handleOff_up hrec hs hp).trans (stopDisplay_eq hrec))⟩
  · simp only [withForm, inputReply]
    rcases hbad with hbad | hbad
    · rw [index?_of_le hbad]
    · rw [input?_of_out hbad]; cases index? 4 display <;> rfl
  · subst hd hin
    have asked : ∀ {t : State}, handleInput d n (taken s rest) = t →
        exec (.displayInput tag (some (d.val, n.val + 1))) s = .next (answered tag 0x31 .done [] (emit t)) := by
      intro t ht
      refine exec_done rfl h ?_
      simp only [withForm, inputReply, index?_val, input?_of_succ]
      exact congrArg (fun x => done (emit x)) ht
    have hrec : r = displayRecord (taken s rest) d := hr
    exact ⟨fun hs hp => asked ((handleInput_steady hrec hs hp n).trans (steadyInput_eq hrec n)),
      fun hs => asked (handleInput_later hrec hs n)⟩

end Sys2Proof.Machine
end

section
/-!
PROOFS. THE LAST COUNTS (R19, R126, R144, R146, R147, R193). An expiry row takes its count when it is due and changes
nothing otherwise.
-/

namespace Sys2Proof.Machine

section Displays

variable {s : State} {d : DisplayNo} {r : DisplayRecord}

theorem displayDue_iff : displayDue d s = true ↔
    s.due.displays.contains d = true ∧ (look s.displays.records d).timer = 1 := by
  unfold displayDue; rw [Bool.and_eq_true, decide_eq_true_eq]; rfl

/-- A display that has warmed up: its record, and the code of its pending input (R144). -/
theorem warmExpired_eq (hr : r = displayRecord s d) :
    warmExpired d s = withDisplay d { r with state := .on, phase := some .steady, timer := 0, pending := none }
      (s.displays.queue ++ (r.pending.toList.map IrCode.input).map (fun c => { display := d, code := c })) s := by
  subst hr
  unfold warmExpired; dsimp only
  cases (displayRecord s d).pending with
  | none => dsimp only; rw [Option.toList_none, List.map_nil, List.map_nil, List.append_nil]; rfl
  | some n => rfl

theorem coolExpired_rests (hr : r = displayRecord s d) (h : r.pendingOn = false) :
    coolExpired d s = withDisplay d { r with state := .off, phase := none, timer := 0 } s.displays.queue s := by
  have hsame : ({ r with state := .off, phase := none, timer := 0, pendingOn := false } : DisplayRecord) =
      { r with state := .off, phase := none, timer := 0 } := by rw [← h]
  subst hr
  unfold coolExpired; dsimp only
  rw [if_neg (by rw [h]; nofun), hsame]; rfl

/-- A display that has cooled down with pending-on starts again (R147). -/
theorem coolExpired_starts (hr : r = displayRecord s d) (h : r.pendingOn = true) :
    coolExpired d s =
      withDisplay d { r with state := .warming, phase := some .sending, timer := 0, pendingOn := false }
        (s.displays.queue ++ [{ display := d, code := .powerOn }]) s := by
  subst hr
  unfold coolExpired; dsimp only
  rw [if_pos h]
  unfold startUp queueCode setRecord withDisplay
  have hlook : displayRecord (s.withDisplays
      { s.displays with
        records := upd s.displays.records d
          { displayRecord s d with state := .off, phase := none, timer := 0, pendingOn := false } }) d =
      { displayRecord s d with state := .off, phase := none, timer := 0, pendingOn := false } := look_upd_self _ _ _
  rw [hlook]
  simp only [withDisplays_displays, upd_upd]; rfl

end Displays

/-- Settles O40: each row by its guard, and the displays by the three lemmas above. -/
theorem countersExpire : Obligations.CountersExpire := by
  refine ⟨fun s n hdue hone => ?_, fun s n hno => ?_, fun s n m hm hdue hone => ?_, fun s n hno => ?_,
    fun s hdue hquiet => ?_, fun s hno => ?_, fun s d hdue hone r hr => ?_, fun s d r hr => ?_⟩
  · refine congrArg Host.Outcome.next (if_pos ?_)
    rw [hdue, hone]; rfl
  · refine congrArg Host.Outcome.next (if_neg ?_)
    rw [Bool.and_eq_true, decide_eq_true_eq]
    rintro ⟨hdue, hone⟩
    exact hno.elim (fun h => by rw [h] at hdue; cases hdue) (fun h => h hone)
  · refine congrArg Host.Outcome.next ?_
    unfold expireMessage; rw [hm]
    refine if_pos ?_
    rw [hdue, hone]; rfl
  · refine congrArg Host.Outcome.next ?_
    unfold expireMessage
    cases hm : look s.screens.messages n with
    | none => rfl
    | some m =>
      refine if_neg ?_
      rw [Bool.and_eq_true, decide_eq_true_eq]
      rintro ⟨hdue, hone⟩
      exact hno.elim (fun h => by rw [h] at hdue; cases hdue) (fun h => h m hm hone)
  · refine congrArg Host.Outcome.next ((if_pos hquiet).trans ?_)
    unfold settleQuiet quietStep
    rw [if_pos hdue, if_pos (by omega), hquiet]; simp
  · refine congrArg Host.Outcome.next ?_
    unfold quietTimeout settleQuiet
    rcases hno with h | h
    · rw [h]; exact ite_self _
    · exact if_neg h
  · have hd : displayDue d s = true := displayDue_iff.mpr ⟨hdue, hone⟩
    have hrec : r = displayRecord (dropDisplay d s) d := hr
    have hat : displayRecord s d = r := hr.symm
    refine ⟨fun hs => ?_, fun hs hp => ?_, fun hs hp => ?_⟩
    · refine congrArg Host.Outcome.next ((if_pos ?_).trans (congrArg emit ?_))
      · rw [hd, hat, hs]; rfl
      · exact (warmExpired_eq hrec).trans rfl
    · refine congrArg Host.Outcome.next ((if_pos ?_).trans (congrArg emit ?_))
      · rw [hd, hat, hs]; rfl
      · refine (coolExpired_rests hrec hp).trans ?_
        dsimp only; rw [List.map_nil, List.append_nil]; rfl
    · refine congrArg Host.Outcome.next ((if_pos ?_).trans (congrArg emit ?_))
      · rw [hd, hat, hs]; rfl
      · exact (coolExpired_starts hrec hp).trans rfl
  · have rests : ∀ st : DisplayState, s.due.displays.contains d = false ∨ r.timer ≠ 1 ∨ r.state ≠ st →
        ¬ (displayDue d s && decide ((displayRecord s d).state = st)) = true := by
      intro st hno hall
      rw [Bool.and_eq_true, displayDue_iff, decide_eq_true_eq] at hall
      obtain ⟨⟨hdue, hone⟩, hst⟩ := hall
      rcases hno with h | h | h
      · rw [h] at hdue; cases hdue
      · exact h (hr ▸ hone)
      · exact h (hr ▸ hst)
    exact ⟨fun hno => congrArg Host.Outcome.next (if_neg (rests _ hno)),
      fun hno => congrArg Host.Outcome.next (if_neg (rests _ hno))⟩

end Sys2Proof.Machine
end

section
/-!
PROOFS. THE EMITTER (R149 to R152, R144 to R146). The idle emitter takes heads until one has pairs; a completion writes
one record; the pin follows the marks of the pair that the instant falls into.
-/

namespace Sys2Proof.Machine

/-! ### Taking the head of the queue -/

section Take

variable {s : State} {e : IrEntry} {rest : List IrEntry} {k instant : Nat}

theorem mayTake_iff : mayTake s = true ↔ s.displays.inFlight = none ∧ s.displays.queue ≠ [] := by
  unfold mayTake
  rw [Bool.and_eq_true, Option.isNone_iff_eq_none, Bool.not_eq_true', List.isEmpty_eq_false_iff]

theorem takeHead_of_stopped (h : s.displays.inFlight ≠ none ∨ s.displays.queue = []) : takeHead k instant s = s := by
  cases k with
  | zero => rfl
  | succ k =>
    unfold takeHead; split
    · next hf hq =>
      rcases h with h | h
      · exact absurd hf h
      · rw [h] at hq; cases hq
    · rfl

theorem takeHead_of_pairs (hf : s.displays.inFlight = none) (hq : s.displays.queue = e :: rest)
    (hp : (look s.displays.codes (codeSlot e.display e.code)).pairs ≠ []) :
    takeHead (k + 1) instant s =
      beginTransmission instant e (s.withDisplays { s.displays with queue := rest }) := by
  conv_lhs => unfold takeHead
  rw [hf, hq]
  exact if_neg (by rw [List.isEmpty_iff]; exact hp)

theorem takeHead_of_empty (hf : s.displays.inFlight = none) (hq : s.displays.queue = e :: rest)
    (hp : (look s.displays.codes (codeSlot e.display e.code)).pairs = []) :
    takeHead (k + 1) instant s =
      takeHead k instant (emptyCode e (s.withDisplays { s.displays with queue := rest })) := by
  conv_lhs => unfold takeHead
  rw [hf, hq]
  exact if_pos (List.isEmpty_iff.mpr hp)

theorem runEmitter_of_stopped (h : s.displays.inFlight ≠ none ∨ s.displays.queue = []) :
    runEmitter instant s = reach instant s :=
  takeHead_of_stopped (s := reach instant s) h

theorem emit_of_stopped (h : s.displays.inFlight ≠ none ∨ s.displays.queue = []) : emit s = s := by
  refine if_neg fun hm => ?_
  obtain ⟨hf, hq⟩ := mayTake_iff.mp hm
  exact h.elim (fun h => h hf) (fun h => hq h)

theorem freeInstant_bounds (h : s.displays.now ≤ 625) : s.displays.now ≤ freeInstant s ∧ freeInstant s ≤ 625 := by
  unfold freeInstant frameCycles
  have hlt := Nat.mod_lt (Config.instant s.draws) (show 625 + 1 - s.displays.now > 0 by omega)
  omega

end Take

/-! ### Completions -/

/-- The record that a completion leaves, for the display's preset (Table 8-2, R144 to R146). -/
def completedRecord (c : IrCode) (p : Preset) (r : DisplayRecord) : DisplayRecord :=
  match c with
  | .powerOn =>
    if r.state = .warming ∧ r.phase = some .sending then { r with phase := some .timing, timer := p.warmUp * 1000 }
    else r
  | .powerOff =>
    if r.phase = some .stopping then
      { r with state := .cooling, phase := none, selected := none, timer := p.coolDown * 1000 }
    else r
  | .input n => if r.state = .on then { r with selected := some n } else r

section Completed

variable {c : IrCode} {p : Preset} {r : DisplayRecord}

theorem completedRecord_input (n : InputNo) (h : r.state = .on) :
    completedRecord (.input n) p r = { r with selected := some n } := if_pos h

theorem completedRecord_powerOn (h : r.state = .warming) (hp : r.phase = some .sending) :
    completedRecord .powerOn p r = { r with phase := some .timing, timer := p.warmUp * 1000 } := if_pos ⟨h, hp⟩

theorem completedRecord_powerOff (hp : r.phase = some .stopping) :
    completedRecord .powerOff p r =
      { r with state := .cooling, phase := none, selected := none, timer := p.coolDown * 1000 } := if_pos hp

/-- Any other completion changes nothing. -/
theorem completedRecord_rests (h1 : c = .powerOn → ¬ (r.state = .warming ∧ r.phase = some .sending))
    (h2 : c = .powerOff → r.phase ≠ some .stopping) (h3 : ∀ n, c = .input n → r.state ≠ .on) :
    completedRecord c p r = r := by
  cases c with
  | powerOn => exact if_neg (h1 rfl)
  | powerOff => exact if_neg (h2 rfl)
  | input n => exact if_neg (h3 n rfl)

end Completed

theorem setRecord_same (d : DisplayNo) (s : State) : setRecord d (displayRecord s d) s = s :=
  withDisplay_same rfl

/-- A completion writes its display's record, when no timer that it starts is at 0. -/
theorem completion_eq {e : IrEntry} {s : State}
    (hwarm : e.code = .powerOn → 0 < (look s.displays.presets e.display).warmUp)
    (hcool : e.code = .powerOff → 0 < (look s.displays.presets e.display).coolDown) :
    completion e s = setRecord e.display
      (completedRecord e.code (look s.displays.presets e.display) (displayRecord s e.display)) s := by
  unfold completion
  dsimp only
  split
  · next hc hs hp =>
    have := hwarm hc
    rw [hc, completedRecord_powerOn hs hp]
    unfold powerOnComplete; dsimp only; rw [if_neg (by omega)]
  · next hc hp =>
    have := hcool hc
    rw [hc, completedRecord_powerOff hp]
    unfold powerOffComplete; dsimp only; rw [if_neg (by omega)]
  · next hc hs => rw [hc, completedRecord_input _ hs]
  · next hinput hoff hon =>
    rw [completedRecord_rests (fun hc h => hon hc h.1 h.2) (fun hc hp => hoff hc hp) (fun n hc hs => hinput n hc hs)]
    exact (setRecord_same e.display s).symm

/-- A POWER_ON that completes after the display was stopped changes nothing. -/
theorem completion_of_stopping {e : IrEntry} {s : State} (hc : e.code = .powerOn)
    (hp : (displayRecord s e.display).phase = some .stopping) : completion e s = s := by
  unfold completion; dsimp only
  rw [hc, hp]
  cases (displayRecord s e.display).state <;> rfl

/-! ### The pin -/

theorem frameLevel_at (period high : Nat) (before behind : List (Nat × Nat)) (mark space offset : Nat)
    (h : offset < 10 * (mark + space)) :
    frameLevel period high (before ++ (mark, space) :: behind)
        (10 * (before.map (fun y => y.1 + y.2)).sum + offset) =
      (decide (offset < 10 * mark) && decide (offset % period < highPart period high)) := by
  induction before with
  | nil =>
    simp only [List.nil_append, List.map_nil, List.sum_nil, Nat.mul_zero, Nat.zero_add, frameLevel]
    by_cases hm : offset < 10 * mark
    · rw [if_pos hm, decide_eq_true hm, Bool.true_and]
    · rw [if_neg hm, if_pos h, decide_eq_false hm, Bool.false_and]
  | cons x before ih =>
    obtain ⟨m, sp⟩ := x
    simp only [List.cons_append, List.map_cons, List.sum_cons, frameLevel]
    rw [if_neg (by omega), if_neg (by omega), ← ih]
    congr 1
    omega

theorem pairsTime_append (before behind : List (Nat × Nat)) (x : Nat × Nat) :
    pairsTime (before ++ x :: behind) = (before.map (fun y => y.1 + y.2)).sum + (x.1 + x.2) + pairsTime behind := by
  unfold pairsTime
  rw [List.map_append, List.sum_append, List.map_cons, List.sum_cons, ← Nat.add_assoc]

/-- Within the transmission, the pin of its display is at the level of the pair that the instant falls into (R150,
R151). -/
theorem pinHigh_at {s : State} {f : InFlight} {c : CodeList} {before behind : List (Nat × Nat)}
    {mark space round offset instant : Nat} (hf : s.displays.inFlight = some f)
    (hc : c = look s.displays.codes (codeSlot f.entry.display f.entry.code))
    (hpairs : c.pairs = before ++ (mark, space) :: behind) (hlt : instant < f.ends)
    (hle : f.ends - instant ≤ 20 * transmissionTime c)
    (hat : (20 * transmissionTime c - (f.ends - instant)) / 2 =
      round * (10 * (pairsTime c.pairs + c.gap * 1000)) +
        (10 * (before.map (fun y => y.1 + y.2)).sum + offset))
    (ho : offset < 10 * (mark + space)) :
    pinHigh s f.entry.display instant =
      (decide (offset < 10 * mark) && decide (offset % f.period < highPart f.period f.high)) := by
  have hturn : 10 * (before.map (fun y => y.1 + y.2)).sum + offset < 10 * (pairsTime c.pairs + c.gap * 1000) := by
    have hsum := pairsTime_append before behind (mark, space)
    rw [← hpairs] at hsum
    omega
  have hshort : (20 * transmissionTime c - (f.ends - instant)) / 2 < 10 * transmissionTime c := by omega
  unfold pinHigh; rw [hf]; dsimp only
  rw [← hc, decide_eq_true rfl, decide_eq_true hlt, decide_eq_true hle, Bool.true_and, Bool.true_and, Bool.true_and]
  unfold transmissionLevel; dsimp only
  rw [decide_eq_true hshort, Bool.true_and, hat, Nat.mul_comm round, Nat.mul_add_mod, Nat.mod_eq_of_lt hturn, hpairs,
    frameLevel_at _ _ _ _ _ _ _ ho]

/-! ### The rows -/

/-- The queue's only entry has been taken at an instant. -/
def lastTaken (instant : Nat) (s : State) : State :=
  s.withDisplays { s.displays with queue := [], now := max s.displays.now instant }

/-- The record of an empty code, and the DISPLAY source that it sets (R152). -/
def nocode (e : IrEntry) (s : State) : State :=
  (record (.displayNocode (codeSlot e.display e.code)) none s).withNotices
    (raiseDisplay (record (.displayNocode (codeSlot e.display e.code)) none s).notices)

theorem emptyCode_eq (e : IrEntry) (s : State) : emptyCode e s = completion e (nocode e s) := rfl

theorem nocode_displays (e : IrEntry) (s : State) : (nocode e s).displays = s.displays := rfl

theorem nocode_pending {e : IrEntry} {s : State}
    (h : s.notices.pending = true ∨ s.notices.summary.display = false ∧ s.notices.mask.display = true) :
    (nocode e s).notices.pending = true := by
  have hpending : (record (.displayNocode (codeSlot e.display e.code)) none s).notices =
      noticeAppend s.log.unread s.notices := rfl
  unfold nocode raiseDisplay
  rw [withNotices_notices, hpending]
  unfold noticeAppend
  rcases h with h | ⟨h1, h2⟩
  · simp [h]
  · simp [h1, h2]

/-- An empty code with nothing behind it: its record, the DISPLAY source, and its completion (R152). -/
theorem start_emptyCode {s : State} {instant : Nat} {e : IrEntry} (hf : s.displays.inFlight = none)
    (hq : s.displays.queue = [e]) (hp : (look s.displays.codes (codeSlot e.display e.code)).pairs = [])
    (hwarm : e.code = .powerOn → 0 < (look s.displays.presets e.display).warmUp)
    (hcool : e.code = .powerOff → 0 < (look s.displays.presets e.display).coolDown) :
    runEmitter instant s = setRecord e.display
      (completedRecord e.code (look s.displays.presets e.display) (displayRecord s e.display))
      (nocode e (lastTaken instant s)) := by
  have hrun : runEmitter instant s = takeHead 16 instant (emptyCode e (lastTaken instant s)) := by
    unfold runEmitter
    rw [show s.displays.queue.length + 16 = 16 + 1 by rw [hq]; rfl]
    exact takeHead_of_empty (s := reach instant s) hf hq hp
  have hdisplays : (nocode e (lastTaken instant s)).displays =
      { s.displays with queue := [], now := max s.displays.now instant } := nocode_displays e _
  have hrecord : displayRecord (nocode e (lastTaken instant s)) e.display = displayRecord s e.display := by
    unfold displayRecord; rw [hdisplays]
  have hcompleted := completion_eq (e := e) (s := nocode e (lastTaken instant s)) (by rw [hdisplays]; exact hwarm)
    (by rw [hdisplays]; exact hcool)
  rw [hrecord, hdisplays] at hcompleted
  rw [hrun, emptyCode_eq, hcompleted]
  refine takeHead_of_stopped (Or.inr ?_)
  unfold setRecord; rw [withDisplays_displays, hdisplays]

/-- The end of a transmission with an empty queue: one record written (R144 to R146, R149). -/
theorem finish_alone {s : State} {f : InFlight} (hf : s.displays.inFlight = some f) (hq : s.displays.queue = [])
    (hwarm : f.entry.code = .powerOn → 0 < (look s.displays.presets f.entry.display).warmUp)
    (hcool : f.entry.code = .powerOff → 0 < (look s.displays.presets f.entry.display).coolDown) :
    finishTransmission s = setRecord f.entry.display
      (completedRecord f.entry.code (look s.displays.presets f.entry.display) (displayRecord s f.entry.display))
      (s.withDisplays { s.displays with inFlight := none, now := max s.displays.now f.ends }) := by
  have hdone : completion f.entry (s.withDisplays { s.displays with inFlight := none }) =
      setRecord f.entry.display
        (completedRecord f.entry.code (look s.displays.presets f.entry.display) (displayRecord s f.entry.display))
        (s.withDisplays { s.displays with inFlight := none }) := completion_eq hwarm hcool
  unfold finishTransmission; rw [hf]; dsimp only
  rw [hdone]
  refine (runEmitter_of_stopped ?_).trans ?_
  · exact Or.inr hq
  · rfl

theorem exec_irStart {s : State} {instant : Nat} (h1 : s.displays.now ≤ instant) (h2 : instant ≤ 625)
    (hm : mayTake s = true) : exec (.irTransmissionStart instant) s = .next (runEmitter instant s) :=
  congrArg Host.Outcome.next (if_pos ⟨h1, h2, hm⟩)

theorem emit_of_mayTake {s : State} (hm : mayTake s = true) :
    emit s = runEmitter (freeInstant s) (s.withDraws (s.draws + 1)) := if_pos hm

/-- Settles O42: the start by the head's code list, the completion by `completedRecord`, the pin by `pinHigh_at`. -/
theorem transmissionsRunAndComplete : Obligations.TransmissionsRunAndComplete := by
  refine ⟨fun s instant e rest c p h1 h2 hf hq hc hp => ⟨fun hne x hx => ?_, fun hnil hrest hwarm hcool => ?_⟩,
    fun s hnow hf hq => ?_, fun s instant h => ⟨?_, emit_of_stopped h⟩, fun s f r hf hq hr => ⟨fun hlate => ?_,
      fun hends => ?_⟩, fun s d instant h => ?_,
    fun s f c before behind mark space round offset instant hf hc hpairs _ hlt hle hat ho => ?_⟩
  · have hm : mayTake s = true := mayTake_iff.mpr ⟨hf, by rw [hq]; exact List.cons_ne_nil e rest⟩
    have hrun : ∀ u : State, u.displays = s.displays → runEmitter instant u = u.withDisplays x := by
      intro u hu
      unfold runEmitter
      rw [show u.displays.queue.length + 16 = (u.displays.queue.length + 15) + 1 by rfl]
      have hpairs : (look (reach instant u).displays.codes (codeSlot e.display e.code)).pairs ≠ [] := by
        rw [show (reach instant u).displays.codes = s.displays.codes by rw [← hu]; rfl, ← hc]; exact hne
      rw [takeHead_of_pairs (s := reach instant u) (by rw [← hu] at hf; exact hf) (by rw [← hu] at hq; exact hq) hpairs]
      subst hx hc hp
      unfold beginTransmission reach
      simp only [withDisplays_displays, hu, Nat.max_eq_right h1]; rfl
    refine ⟨(exec_irStart h1 h2 hm).trans (congrArg Host.Outcome.next (hrun s rfl)), fun hat => ?_⟩
    have hfree : freeInstant s = instant := by
      obtain ⟨h3, h4⟩ := freeInstant_bounds (s := s) (by omega)
      omega
    rw [emit_of_mayTake hm, hfree, hrun (s.withDraws (s.draws + 1)) rfl]; rfl
  · subst hrest hc hp
    have hm : mayTake s = true := mayTake_iff.mpr ⟨hf, by rw [hq]; exact List.cons_ne_nil e []⟩
    have hstart := start_emptyCode (instant := instant) hf hq hnil hwarm hcool
    refine ⟨_, exec_irStart h1 h2 hm, ?_⟩
    rw [hstart]
    have hnew := newestIs_record (.displayNocode (codeSlot e.display e.code)) none (lastTaken instant s)
    refine ⟨hnew, rfl, nocode_pending (s := lastTaken instant s), rfl, hf, fun r hr => ?_, fun d hd => ?_, rfl⟩
    · have hlook : look (setRecord e.display (completedRecord e.code (look s.displays.presets e.display)
          (displayRecord s e.display)) (nocode e (lastTaken instant s))).displays.records e.display =
          completedRecord e.code (look s.displays.presets e.display) r := by
        rw [hr]; exact look_upd_self _ _ _
      rw [hlook]
      refine ⟨fun n hc hs => ?_, fun hc hs hp => ?_, fun hc hp => ?_⟩
      · rw [hc, completedRecord_input n hs]
      · rw [hc, completedRecord_powerOn hs hp]
      · rw [hc, completedRecord_powerOff hp]
    · exact (look_upd _ _ _ _).trans (if_neg (Ne.symm hd))
  · have hm : mayTake s = true := mayTake_iff.mpr ⟨hf, hq⟩
    obtain ⟨h3, h4⟩ := freeInstant_bounds hnow
    refine ⟨freeInstant s, h3, h4, ?_⟩
    rw [emit_of_mayTake hm]
    exact exec_irStart h3 h4 hm
  · refine congrArg Host.Outcome.next (if_neg ?_)
    rintro ⟨-, -, hm⟩
    obtain ⟨hf, hq⟩ := mayTake_iff.mp hm
    exact h.elim (fun h => h hf) (fun h => hq h)
  · refine congrArg Host.Outcome.next (if_neg ?_)
    rw [hf]; unfold frameCycles; simpa using hlate
  · have hdone : ∀ {w : DisplayRecord},
        (f.entry.code = .powerOn → 0 < (look s.displays.presets f.entry.display).warmUp) →
        (f.entry.code = .powerOff → 0 < (look s.displays.presets f.entry.display).coolDown) →
        completedRecord f.entry.code (look s.displays.presets f.entry.display) r = w →
        exec .irTransmissionComplete s = .next (setRecord f.entry.display w
          (s.withDisplays { s.displays with inFlight := none, now := max s.displays.now f.ends })) := by
      intro w hwarm hcool hw
      refine congrArg Host.Outcome.next ((if_pos ?_).trans ?_)
      · rw [hf]; exact decide_eq_true hends
      · rw [finish_alone hf hq hwarm hcool, ← hw, hr]; rfl
    refine ⟨fun n hc hs => hdone (by rw [hc]; nofun) (by rw [hc]; nofun) (by rw [hc, completedRecord_input n hs]),
      fun hc hs hp hw => hdone (fun _ => hw) (by rw [hc]; nofun) (by rw [hc, completedRecord_powerOn hs hp]),
      fun hc hp => ?_,
      fun hc hp hw => hdone (by rw [hc]; nofun) (fun _ => hw) (by rw [hc, completedRecord_powerOff hp])⟩
    refine congrArg Host.Outcome.next ((if_pos ?_).trans ?_)
    · rw [hf]; exact decide_eq_true hends
    · unfold finishTransmission; rw [hf]; dsimp only
      rw [completion_of_stopping (s := s.withDisplays { s.displays with inFlight := none }) hc
        ((congrArg DisplayRecord.phase hr.symm).trans hp)]
      refine (runEmitter_of_stopped ?_).trans ?_
      · exact Or.inr hq
      · rfl
  · unfold pinHigh
    rcases h with h | ⟨f, h, hne⟩
    · rw [h]
    · rw [h]; simp [hne]
  · exact pinHigh_at hf hc hpairs hlt hle (hat.trans (Nat.add_assoc _ _ _)) ho

end Sys2Proof.Machine
end

section
/-!
PROOFS. WHAT A CLOCK ROW TAKES FIRST (notes/assumptions/6.md). The lock changes, the expiries, the minute boundary and
the emitter's part: as rows, and what each of them leaves owed.
-/

namespace Sys2Proof.Machine

/-- The links and what is owed are the same. -/
structure OwedKept (s t : State) : Prop where
  links : t.links = s.links
  due : t.due = s.due

theorem OwedKept.trans {s t u : State} (h : OwedKept s t) (k : OwedKept t u) : OwedKept s u :=
  ⟨k.links.trans h.links, k.due.trans h.due⟩

theorem emitterClosed_owedKept : EmitterClosed OwedKept where
  refl _ := ⟨rfl, rfl⟩
  trans h k := h.trans k
  append _ _ _ _ := ⟨rfl, rfl⟩
  displays _ _ := ⟨rfl, rfl⟩
  draws _ _ := ⟨rfl, rfl⟩
  raise _ := ⟨rfl, rfl⟩

theorem meetingClosed_owedKept : MeetingClosed OwedKept where
  refl _ := ⟨rfl, rfl⟩
  trans h k := h.trans k
  append _ _ _ _ := ⟨rfl, rfl⟩
  floor _ _ := ⟨rfl, rfl⟩
  gate _ _ := ⟨rfl, rfl⟩
  refuse _ _ := ⟨rfl, rfl⟩
  bank _ _ := ⟨rfl, rfl⟩
  messages _ := ⟨rfl, rfl⟩

theorem placingClosed_owedKept : PlacingClosed OwedKept :=
  meetingClosed_owedKept.placingClosed emitterClosed_owedKept.rel_requestOn emitterClosed_owedKept.rel_requestOff
    fun _ _ => ⟨rfl, rfl⟩

/-! ### The minute boundary -/

theorem takeBoundary_of_none {s : State} (h : s.due.boundary = none) : takeBoundary s = s := by
  unfold takeBoundary; rw [h]

theorem takeBoundary_owed (s : State) : (takeBoundary s).links = s.links ∧
    (takeBoundary s).due = { s.due with boundary := none } := by
  cases hb : s.due.boundary with
  | none =>
    rw [takeBoundary_of_none hb]
    exact ⟨rfl, by rw [← hb]⟩
  | some m =>
    unfold takeBoundary; rw [hb]; dsimp only
    split
    · have h := placingClosed_owedKept.rel_placeBoundary m (s.withDue { s.due with boundary := none })
      exact ⟨h.links, h.due⟩
    · exact ⟨rfl, rfl⟩

/-! ### The lock changes -/

theorem linkState_setLink (l : Links) (link other : Link) (x : LinkState) :
    linkState (setLink l link x) other = if other = link then x else linkState l other := by
  cases link <;> cases other <;> rfl

theorem releaseSlot_links (s : State) : (releaseSlot s).links = s.links := by
  obtain ⟨p, pending, heq, -⟩ := releaseSlot_eq s
  rw [heq]; rfl

theorem changeLock_links (link : Link) (s : State) : (changeLock link s).links =
    setLink s.links link (lockTo (!(linkState s.links link).locked) (linkState s.links link)) := by
  have release : ∀ u : State,
      (if link = .trunk ∧ (linkState s.links link).locked = true then releaseSlot u else u).links = u.links := by
    intro u; split
    · exact releaseSlot_links u
    · rfl
  exact release _

theorem settleLink_of_no {link : Link} {s : State} (h : (linkState s.links link).change = false) :
    settleLink link s = s := if_neg (by rw [h]; nofun)

theorem settleLink_state (link other : Link) (s : State) : linkState (settleLink link s).links other =
    if other = link ∧ (linkState s.links link).change = true then
      lockTo (!(linkState s.links link).locked) (linkState s.links link)
    else linkState s.links other := by
  unfold settleLink
  by_cases hc : (linkState s.links link).change = true
  · rw [if_pos hc, changeLock_links, linkState_setLink]
    by_cases ho : other = link
    · rw [if_pos ho, if_pos ⟨ho, hc⟩]
    · rw [if_neg ho, if_neg (fun h => ho h.1)]
  · rw [if_neg hc, if_neg (fun h => hc h.2)]

/-- No change is owed behind its taking. -/
theorem settleLink_change (link : Link) (s : State) : (linkState (settleLink link s).links link).change = false := by
  rw [settleLink_state]
  by_cases hc : (linkState s.links link).change = true
  · rw [if_pos ⟨rfl, hc⟩]; rfl
  · rw [if_neg (fun h => hc h.2)]; simpa using hc

theorem settleLink_keeps {link other : Link} {s : State} (h : (linkState s.links other).change = false) :
    (linkState (settleLink link s).links other).change = false := by
  by_cases ho : other = link
  · rw [ho]; exact settleLink_change link s
  · rw [settleLink_state, if_neg (fun hc => ho hc.1)]; exact h

/-- No link owes a change. -/
def LinksSettled (s : State) : Prop := ∀ link, (linkState s.links link).change = false

theorem linksSettled_settleLinks (s : State) : LinksSettled (settleLinks s) := by
  intro link
  cases link with
  | chainA => exact settleLink_keeps (settleLink_keeps (settleLink_change .chainA s))
  | chainB => exact settleLink_keeps (settleLink_change .chainB _)
  | trunk => exact settleLink_change .trunk _

theorem settleLinks_of_settled {s : State} (h : LinksSettled s) : settleLinks s = s := by
  unfold settleLinks
  rw [settleLink_of_no (h .chainA), settleLink_of_no (h .chainB), settleLink_of_no (h .trunk)]

theorem changeLock_due (link : Link) (s : State) : (changeLock link s).due = s.due := by
  have release : ∀ u : State,
      (if link = .trunk ∧ (linkState s.links link).locked = true then releaseSlot u else u).due = u.due := by
    intro u; split
    · obtain ⟨p, pending, heq, -⟩ := releaseSlot_eq u
      rw [heq]; rfl
    · rfl
  exact release _

theorem settleLink_due (link : Link) (s : State) : (settleLink link s).due = s.due := by
  unfold settleLink; split
  · exact changeLock_due link s
  · rfl

theorem settleLinks_due (s : State) : (settleLinks s).due = s.due :=
  (settleLink_due _ _).trans ((settleLink_due _ _).trans (settleLink_due _ s))

/-- The two rows of a link take the change that it owes, whichever it is (R7). -/
theorem afterRows_lock (link : Link) (l : List Instr) (s : State) :
    Statements.afterRows (.chainLock link :: .chainUnlock link :: l) s =
      Statements.afterRows l (settleLink link s) := by
  have rows : ∀ u, Statements.afterRows (.chainLock link :: .chainUnlock link :: l) u =
      Statements.afterRows l
        (if (linkState (if (linkState u.links link).locked then u else settleLink link u).links link).locked then
          settleLink link (if (linkState u.links link).locked then u else settleLink link u)
        else if (linkState u.links link).locked then u else settleLink link u) := fun _ => rfl
  rw [rows]
  by_cases hl : (linkState s.links link).locked = true
  · simp only [if_pos hl]
  · simp only [if_neg hl, settleLink_of_no (settleLink_change link s), ite_self]

theorem afterRows_lockRows (s : State) : Statements.afterRows Statements.lockRows s = settleLinks s := by
  unfold Statements.lockRows
  rw [afterRows_lock, afterRows_lock, afterRows_lock]; rfl

/-! ### The expiries -/

/-- Rows that are a state function each. -/
theorem afterRows_flatMap {α : Type} {rows : α → List Instr} {step : State → α → State}
    (h : ∀ a m u, Statements.afterRows (rows a ++ m) u = Statements.afterRows m (step u a)) (l : List α)
    (m : List Instr) (s : State) :
    Statements.afterRows (l.flatMap rows ++ m) s = Statements.afterRows m (l.foldl step s) := by
  induction l generalizing s with
  | nil => rfl
  | cons a l ih => rw [List.flatMap_cons, List.append_assoc, h, ih, List.foldl_cons]

theorem expireRefused_due (n : Seat) (s : State) :
    (expireRefused n s).links = s.links ∧ (expireRefused n s).due.messages = s.due.messages ∧
      (expireRefused n s).due.displays = s.due.displays := by
  unfold expireRefused; split <;> exact ⟨rfl, rfl, rfl⟩

theorem expireMessage_due (n : Seat) (s : State) :
    (expireMessage n s).links = s.links ∧ (expireMessage n s).due.displays = s.due.displays := by
  unfold expireMessage; split
  · split <;> exact ⟨rfl, rfl⟩
  · exact ⟨rfl, rfl⟩

theorem expired_eq (s : State) : Statements.expired s = settleExpiries s := by
  have hrefused : ∀ (l : List Seat) (u : State),
      (l.foldl (fun t n => expireRefused n t) u).due.messages = u.due.messages ∧
        (l.foldl (fun t n => expireRefused n t) u).due.displays = u.due.displays := by
    intro l
    induction l with
    | nil => exact fun _ => ⟨rfl, rfl⟩
    | cons n l ih =>
      intro u
      obtain ⟨-, h1, h2⟩ := expireRefused_due n u
      exact ⟨(ih _).1.trans h1, (ih _).2.trans h2⟩
  have hmessages : ∀ (l : List Seat) (u : State),
      (l.foldl (fun t n => expireMessage n t) u).due.displays = u.due.displays := by
    intro l
    induction l with
    | nil => exact fun _ => rfl
    | cons n l ih => exact fun u => (ih _).trans (expireMessage_due n u).2
  have hrows : Statements.afterRows (Statements.expiryRows s) s =
      s.due.displays.foldl (fun t d => expireCool d (expireWarm d t))
        (s.due.messages.foldl (fun t n => expireMessage n t)
          (s.due.refused.foldl (fun t n => expireRefused n t) s)) := by
    unfold Statements.expiryRows
    rw [List.map_eq_flatMap, List.map_eq_flatMap, List.append_assoc,
      afterRows_flatMap (step := fun t n => expireRefused n t) (fun _ _ _ => rfl),
      afterRows_flatMap (step := fun t n => expireMessage n t) (fun _ _ _ => rfl),
      ← List.append_nil (List.flatMap _ _),
      afterRows_flatMap (step := fun t d => expireCool d (expireWarm d t)) (fun _ _ _ => rfl)]
    rfl
  unfold Statements.expired settleExpiries; dsimp only
  rw [hrows, (hrefused _ s).1, hmessages, (hrefused _ s).2]

theorem expireWarm_links (d : DisplayNo) (s : State) : (expireWarm d s).links = s.links := by
  unfold expireWarm; split
  · exact (emitterClosed_owedKept.rel_emit _).links.trans
      (emitterClosed_owedKept.rel_warmExpired d (dropDisplay d s)).links
  · rfl

theorem expireCool_links (d : DisplayNo) (s : State) : (expireCool d s).links = s.links := by
  unfold expireCool; split
  · exact (emitterClosed_owedKept.rel_emit _).links.trans
      (emitterClosed_owedKept.rel_coolExpired d (dropDisplay d s)).links
  · rfl

theorem foldl_links {α : Type} {step : State → α → State} (h : ∀ s a, (step s a).links = s.links) (l : List α)
    (s : State) : (l.foldl step s).links = s.links := by
  induction l generalizing s with
  | nil => rfl
  | cons a l ih => exact (ih _).trans (h s a)

theorem settleExpiries_links (s : State) : (settleExpiries s).links = s.links :=
  (foldl_links (fun t d => (expireCool_links d _).trans (expireWarm_links d t)) _ _).trans
    ((foldl_links (fun t n => (expireMessage_due n t).1) _ _).trans
      (foldl_links (fun t n => (expireRefused_due n t).1) _ s))

/-- No expiry is due. -/
def NoExpiryDue (s : State) : Prop := s.due.refused = [] ∧ s.due.messages = [] ∧ s.due.displays = []

theorem noExpiryDue_settleExpiries (s : State) : NoExpiryDue (settleExpiries s) := ⟨rfl, rfl, rfl⟩

theorem settleExpiries_of_noneDue {s : State} (h : NoExpiryDue s) : settleExpiries s = s := by
  obtain ⟨h1, h2, h3⟩ := h
  have hdue : { s.due with refused := [], messages := [], displays := [] } = s.due := by
    cases hd : s.due with
    | mk => rw [hd] at h1 h2 h3; dsimp only at h1 h2 h3; rw [h1, h2, h3]
  unfold settleExpiries; dsimp only
  rw [h1, List.foldl_nil, h2, List.foldl_nil, h3, List.foldl_nil, hdue]; rfl

/-! ### The emitter's part and the step of the quiet count -/

theorem finishAll_of_done {k : Nat} {s : State} (h : endsThisFrame s = false) : finishAll k s = s := by
  cases k with
  | zero => rfl
  | succ k => exact if_neg (by rw [h]; nofun)

theorem settleEmitter_of_done {s : State} (h : emit s = s) (hend : endsThisFrame s = false) : settleEmitter s = s := by
  unfold settleEmitter; rw [h]; exact finishAll_of_done hend

theorem settleQuiet_owed (s : State) :
    (settleQuiet s).links = s.links ∧ (settleQuiet s).due = { s.due with quiet := false } :=
  ⟨by rw [settleQuiet_frame]; rfl, settleQuiet_due s⟩

/-- What a frame finds nothing owed of: the lock changes, the expiries and the minute boundary. -/
structure NothingOwed (s : State) : Prop where
  links : LinksSettled s
  expiries : NoExpiryDue s
  boundary : s.due.boundary = none

theorem nothingOwed_settleFrame (s : State) : NothingOwed (settleFrame s) := by
  unfold settleFrame
  obtain ⟨hl, hd⟩ := settleQuiet_owed (settleEmitter (takeBoundary (settleExpiries (settleLinks s))))
  have he := emitterClosed_owedKept.rel_settleEmitter (takeBoundary (settleExpiries (settleLinks s)))
  obtain ⟨hbl, hbd⟩ := takeBoundary_owed (settleExpiries (settleLinks s))
  rw [he.links, hbl, settleExpiries_links] at hl
  rw [he.due, hbd] at hd
  refine ⟨fun link => ?_, ?_, ?_⟩
  · rw [hl]; exact linksSettled_settleLinks s link
  · unfold NoExpiryDue; rw [hd]; exact noExpiryDue_settleExpiries (settleLinks s)
  · rw [hd]

theorem nothingOwed_of_frameSettled {s : State} (h : frameSettled s) : NothingOwed s := by
  have := nothingOwed_settleFrame s
  rwa [show settleFrame s = s from h] at this

end Sys2Proof.Machine
end

section
/-!
PROOFS. THE TIMERS' MATCHES (R73, R76 to R79, R84). A count and its checks are spelt for the entry that they concern, by
whether the warning and the limit are due.
-/

namespace Sys2Proof.Machine

/-! ### One seat's timer -/

theorem find?_modifyTimer (n m : Seat) (f : Timer → Timer) (l : List Entry) :
    (modifyTimer n f l).find? (fun e => decide (e.seat = m)) =
      (l.find? (fun e => decide (e.seat = m))).map
        (fun e => if e.seat = n then { e with timer := f e.timer } else e) := by
  unfold modifyTimer
  rw [List.find?_map]
  congr 2
  funext e
  simp only [Function.comp_apply]
  split <;> rfl

theorem openTimer_modifyOpenTimer (n : Seat) (f : Timer → Timer) (s : State) :
    openTimer (modifyOpenTimer n f s).floor n = (openTimer s.floor n).map f := by
  unfold openTimer modifyOpenTimer
  rw [withFloor_floor, find?_modifyTimer]
  cases h : s.floor.openList.find? (fun e => decide (e.seat = n)) with
  | none => rfl
  | some e =>
    have hseat : e.seat = n := by simpa using List.find?_some h
    simp [hseat]

section Check

variable {n : Seat} {s : State} {t : Timer}

/-- The seat's entry with its warning given (R77). -/
def markWarned (n : Seat) (s : State) : State := modifyOpenTimer n (fun x => { x with warned := true }) s

theorem checkWarning_of_due (ht : openTimer s.floor n = some t) (h : warnDue t = true) :
    checkWarning n s =
      record (.warned (secondsUp (t.limit.getD 0 - t.elapsed))) (some n) (markWarned n s) := by
  unfold checkWarning; rw [ht]; exact if_pos h

theorem checkWarning_of_not (ht : openTimer s.floor n = some t) (h : warnDue t = false) : checkWarning n s = s := by
  unfold checkWarning; rw [ht]; exact if_neg (by rw [h]; nofun)

theorem checkLimit_of_not (ht : openTimer s.floor n = some t) (h : limitDue t = false) : checkLimit n s = s := by
  unfold checkLimit limitClose limitNotify; rw [ht]; dsimp only; rw [h]
  cases s.floor.setup.action <;> rfl

theorem hasEntry_of_openTimer (ht : openTimer s.floor n = some t) : hasEntry s.floor.openList n = true := by
  obtain ⟨e, he, -⟩ := Option.map_eq_some_iff.mp ht
  exact hasEntry_iff.mpr (List.mem_map.mpr ⟨e, List.mem_of_find?_eq_some he, by simpa using List.find?_some he⟩)

theorem checkLimit_of_close (ht : openTimer s.floor n = some t) (h : limitDue t = true)
    (ha : s.floor.setup.action = .close) : checkLimit n s = withClosed .limit n s := by
  unfold checkLimit limitClose; rw [ha, ht]
  exact (if_pos h).trans (closeOpen_eq (hasEntry_of_openTimer ht))

theorem checkLimit_of_notify (ht : openTimer s.floor n = some t) (h : limitDue t = true)
    (ha : s.floor.setup.action = .notify) : checkLimit n s =
      record (.overtime (t.limit.getD 0 / 1000)) (some n)
        (modifyOpenTimer n (fun x => { x with overtime := true }) s) := by
  unfold checkLimit limitNotify; rw [ha, ht]; exact if_pos h

theorem openTimer_markWarned (ht : openTimer s.floor n = some t) (e : LogEvent) :
    openTimer (record e (some n) (markWarned n s)).floor n = some { t with warned := true } := by
  rw [record_floor]; unfold markWarned; rw [openTimer_modifyOpenTimer, ht]; rfl

theorem limitDue_warned (t : Timer) : limitDue { t with warned := true } = limitDue t := rfl

end Check

/-! ### The count of one entry -/

section Count

variable {s : State} {n : Seat} {a b : List Entry} {e : Entry}

/-- The seat's entry is this one of the Open List, and no other. -/
structure OnlyEntry (s : State) (n : Seat) (a : List Entry) (e : Entry) (b : List Entry) : Prop where
  list : s.floor.openList = a ++ e :: b
  seat : e.seat = n
  before : ∀ x ∈ a, x.seat ≠ n
  behind : ∀ x ∈ b, x.seat ≠ n

theorem OnlyEntry.timer_eq (h : OnlyEntry s n a e b) : openTimer s.floor n = some e.timer := by
  unfold openTimer
  rw [h.list, List.find?_append, List.find?_eq_none.mpr (by simpa using h.before), Option.none_or,
    List.find?_cons_of_pos (p := fun x : Entry => decide (x.seat = n)) (decide_eq_true h.seat)]; rfl

/-- An owed count as the statements write it (R73). -/
def countedEntry (n : Seat) (k : Nat) (s : State) : State :=
  modifyOpenTimer n (fun x => { x with elapsed := k, owed := false }) s

theorem OnlyEntry.counted (h : OnlyEntry s n a e b) {k : Nat}
    (hk : k = if e.timer.elapsed < 5999999 then e.timer.elapsed + 1 else e.timer.elapsed) :
    modifyOpenTimer n countTimer s = countedEntry n k s := by
  have hlist : modifyTimer n countTimer s.floor.openList =
      modifyTimer n (fun x => { x with elapsed := k, owed := false }) s.floor.openList := by
    refine List.map_congr_left fun x hx => ?_
    rw [h.list, List.mem_append, List.mem_cons] at hx
    by_cases hseat : x.seat = n
    · obtain hx | rfl | hx := hx
      · exact absurd hseat (h.before x hx)
      · rw [if_pos hseat, if_pos hseat, hk]; rfl
      · exact absurd hseat (h.behind x hx)
    · rw [if_neg hseat, if_neg hseat]
  unfold countedEntry modifyOpenTimer; rw [hlist]

theorem OnlyEntry.takeCount_of_owed (h : OnlyEntry s n a e b) {k : Nat}
    (hk : k = if e.timer.elapsed < 5999999 then e.timer.elapsed + 1 else e.timer.elapsed)
    (ho : e.timer.owed = true) : takeCount n s = afterFloor (checkTimer n (countedEntry n k s)) := by
  unfold takeCount; rw [h.timer_eq, ← h.counted hk]; exact if_pos ho

theorem OnlyEntry.takeCount_of_not (h : OnlyEntry s n a e b) (ho : e.timer.owed = false) : takeCount n s = s := by
  unfold takeCount; rw [h.timer_eq]; exact if_neg (by rw [ho]; nofun)

theorem OnlyEntry.countedTimer (h : OnlyEntry s n a e b) {k : Nat}
    (hk : k = if e.timer.elapsed < 5999999 then e.timer.elapsed + 1 else e.timer.elapsed) :
    openTimer (countedEntry n k s).floor n = some (countTimer e.timer) := by
  rw [← h.counted hk, openTimer_modifyOpenTimer, h.timer_eq]; rfl

/-- The seat's match is the next to be taken, when no older entry owes one (R76). -/
theorem OnlyEntry.is_next (h : OnlyEntry s n a e b) (hold : ∀ x ∈ a, owesMatch x.timer = false)
    (ho : owesMatch e.timer = true) : nextMatch s.floor = some n := by
  unfold nextMatch
  rw [h.list, List.find?_append, List.find?_eq_none.mpr (fun x hx => by rw [hold x hx]; nofun), Option.none_or,
    List.find?_cons_of_pos (p := fun x : Entry => owesMatch x.timer) ho, Option.map_some, h.seat]

/-- The seat's match is not the next, when it owes none or an older entry owes one (R76). -/
theorem OnlyEntry.not_next (h : OnlyEntry s n a e b)
    (hno : owesMatch e.timer = false ∨ ∃ x ∈ a, owesMatch x.timer = true) : nextMatch s.floor ≠ some n := by
  unfold nextMatch
  rw [h.list]
  intro hm
  obtain ⟨x, hx, hseat⟩ := Option.map_eq_some_iff.mp hm
  have hxm : owesMatch x.timer = true := List.find?_some (p := fun y : Entry => owesMatch y.timer) hx
  rw [List.find?_append] at hx
  cases ha : a.find? (fun y => owesMatch y.timer) with
  | some y =>
    rw [ha, Option.some_or] at hx
    cases hx
    exact h.before x (List.mem_of_find?_eq_some ha) hseat
  | none =>
    have hnone := List.find?_eq_none.mp ha
    have he : owesMatch e.timer = false := hno.resolve_right fun ⟨y, hy, hyo⟩ => hnone y hy hyo
    rw [ha, Option.none_or, List.find?_cons_of_neg (p := fun x : Entry => owesMatch x.timer) (by rw [he]; nofun)] at hx
    exact h.behind x (List.mem_of_find?_eq_some hx) hseat

theorem OnlyEntry.matches_eq (h : OnlyEntry s n a e b) (kind : Timer → Bool) :
    matchesNext n kind s = (decide (nextMatch s.floor = some n) && kind (countTimer e.timer)) := by
  unfold matchesNext; rw [h.timer_eq]; rfl

/-! ### The rows -/

theorem warnDue_of_reached {w : Nat} (hr : e.timer.running = true) (hw : e.timer.warned = false)
    (hp : e.timer.warn = some w) {k : Nat}
    (hk : k = if e.timer.elapsed < 5999999 then e.timer.elapsed + 1 else e.timer.elapsed) (hle : w ≤ k) :
    warnDue (countTimer e.timer) = true := by
  unfold warnDue countTimer; dsimp only
  rw [hr, hw, hp, ← hk]; simpa [reached] using hle

theorem warnDue_of_not {k : Nat}
    (hk : k = if e.timer.elapsed < 5999999 then e.timer.elapsed + 1 else e.timer.elapsed)
    (h : e.timer.warned = true ∨ e.timer.warn = none ∨ ∃ w, e.timer.warn = some w ∧ k < w) :
    warnDue (countTimer e.timer) = false := by
  unfold warnDue countTimer; dsimp only
  rw [← hk]
  rcases h with h | h | ⟨w, h, hlt⟩
  · rw [h]; simp
  · rw [h]; simp [reached]
  · rw [h]; simp [reached, hlt]

theorem limitDue_of_reached {l : Nat} (hr : e.timer.running = true) (ho : e.timer.overtime = false)
    (hp : e.timer.limit = some l) {k : Nat}
    (hk : k = if e.timer.elapsed < 5999999 then e.timer.elapsed + 1 else e.timer.elapsed) (hle : l ≤ k) :
    limitDue (countTimer e.timer) = true := by
  unfold limitDue countTimer; dsimp only
  rw [hr, ho, hp, ← hk]; simpa [reached] using hle

theorem limitDue_of_not {k : Nat}
    (hk : k = if e.timer.elapsed < 5999999 then e.timer.elapsed + 1 else e.timer.elapsed)
    (h : e.timer.overtime = true ∨ e.timer.limit = none ∨ ∃ l, e.timer.limit = some l ∧ k < l) :
    limitDue (countTimer e.timer) = false := by
  unfold limitDue countTimer; dsimp only
  rw [← hk]
  rcases h with h | h | ⟨l, h, hlt⟩
  · rw [h]; simp
  · rw [h]; simp [reached]
  · rw [h]; simp [reached, hlt]

theorem owesMatch_of_due (ho : e.timer.owed = true)
    (h : warnDue (countTimer e.timer) = true ∨ limitDue (countTimer e.timer) = true) : owesMatch e.timer = true := by
  unfold owesMatch
  rw [ho, Bool.true_and, Bool.or_eq_true]; exact h

theorem owesMatch_of_idle (h : e.timer.owed = false ∨ e.timer.running = false) : owesMatch e.timer = false := by
  unfold owesMatch
  rcases h with h | h
  · rw [h, Bool.false_and]
  · simp [warnDue, limitDue, countTimer, h]

theorem exec_warning_of_match (h : matchesNext n warnDue s = true) :
    exec (.speakingWarning n) s = .next (takeCount n s) := congrArg Host.Outcome.next (if_pos h)

theorem exec_warning_of_none (h : matchesNext n warnDue s = false) : exec (.speakingWarning n) s = .next s :=
  congrArg Host.Outcome.next (if_neg (by rw [h]; nofun))

theorem exec_close_of_match (ha : s.floor.setup.action = .close) (h : matchesNext n limitDue s = true) :
    exec (.speakingLimitClose n) s = .next (takeCount n s) := congrArg Host.Outcome.next (if_pos ⟨ha, h⟩)

theorem exec_close_of_none (h : s.floor.setup.action = .notify ∨ matchesNext n limitDue s = false) :
    exec (.speakingLimitClose n) s = .next s := by
  refine congrArg Host.Outcome.next (if_neg ?_)
  rintro ⟨h1, h2⟩
  exact h.elim (fun h => by rw [h] at h1; cases h1) (fun h => by rw [h] at h2; cases h2)

theorem exec_notify_of_match (ha : s.floor.setup.action = .notify) (h : matchesNext n limitDue s = true) :
    exec (.speakingLimitNotify n) s = .next (takeCount n s) := congrArg Host.Outcome.next (if_pos ⟨ha, h⟩)

theorem exec_notify_of_none (h : s.floor.setup.action = .close ∨ matchesNext n limitDue s = false) :
    exec (.speakingLimitNotify n) s = .next s := by
  refine congrArg Host.Outcome.next (if_neg ?_)
  rintro ⟨h1, h2⟩
  exact h.elim (fun h => by rw [h] at h1; cases h1) (fun h => by rw [h] at h2; cases h2)

/-- No row finds a match. -/
theorem no_match (hw : matchesNext n warnDue s = false) (hl : matchesNext n limitDue s = false) :
    exec (.speakingWarning n) s = .next s ∧ exec (.speakingLimitClose n) s = .next s ∧
      exec (.speakingLimitNotify n) s = .next s :=
  ⟨exec_warning_of_none hw, exec_close_of_none (Or.inr hl), exec_notify_of_none (Or.inr hl)⟩

end Count

/-! ### A check by what is due -/

section Checked

variable {n : Seat} {s : State} {t : Timer}

/-- The state behind a warning (R77). -/
def warnedState (n : Seat) (t : Timer) (s : State) : State :=
  record (.warned (secondsUp (t.limit.getD 0 - t.elapsed))) (some n) (markWarned n s)

/-- The state behind a limit match under NOTIFY (R79). -/
def overtimeState (n : Seat) (t : Timer) (s : State) : State :=
  record (.overtime (t.limit.getD 0 / 1000)) (some n) (modifyOpenTimer n (fun x => { x with overtime := true }) s)

theorem checkTimer_of_neither (ht : openTimer s.floor n = some t) (hw : warnDue t = false) (hl : limitDue t = false) :
    checkTimer n s = s := by
  unfold checkTimer; rw [checkWarning_of_not ht hw, checkLimit_of_not ht hl]

theorem checkTimer_of_warning (ht : openTimer s.floor n = some t) (hw : warnDue t = true) (hl : limitDue t = false) :
    checkTimer n s = warnedState n t s := by
  unfold checkTimer
  rw [checkWarning_of_due ht hw]
  exact checkLimit_of_not (openTimer_markWarned ht _) ((limitDue_warned t).trans hl)

theorem checkTimer_of_both (ht : openTimer s.floor n = some t) (hw : warnDue t = true) (hl : limitDue t = true) :
    (s.floor.setup.action = .close → checkTimer n s = withClosed .limit n (warnedState n t s)) ∧
      (s.floor.setup.action = .notify → checkTimer n s = overtimeState n t (warnedState n t s)) := by
  unfold checkTimer
  rw [checkWarning_of_due ht hw]
  have ht' := openTimer_markWarned ht (.warned (secondsUp (t.limit.getD 0 - t.elapsed)))
  exact ⟨fun ha => checkLimit_of_close ht' ((limitDue_warned t).trans hl) ha,
    fun ha => (checkLimit_of_notify ht' ((limitDue_warned t).trans hl) ha).trans rfl⟩

theorem checkTimer_of_limit (ht : openTimer s.floor n = some t) (hw : warnDue t = false) (hl : limitDue t = true) :
    (s.floor.setup.action = .close → checkTimer n s = withClosed .limit n s) ∧
      (s.floor.setup.action = .notify → checkTimer n s = overtimeState n t s) := by
  unfold checkTimer
  rw [checkWarning_of_not ht hw]
  exact ⟨checkLimit_of_close ht hl, checkLimit_of_notify ht hl⟩

theorem warnedState_eq {l k : Nat} (hl : t.limit = some l) (hk : (countTimer t).elapsed = k) :
    warnedState n (countTimer t) s = record (.warned ((l - k + 999) / 1000)) (some n) (markWarned n s) := by
  have hlimit : (countTimer t).limit.getD 0 = l := by
    show t.limit.getD 0 = l
    rw [hl]; rfl
  unfold warnedState secondsUp; rw [hlimit, hk]

theorem overtimeState_eq {l : Nat} (hl : t.limit = some l) :
    overtimeState n (countTimer t) s =
      record (.overtime (l / 1000)) (some n) (modifyOpenTimer n (fun x => { x with overtime := true }) s) := by
  have hlimit : (countTimer t).limit.getD 0 = l := by
    show t.limit.getD 0 = l
    rw [hl]; rfl
  unfold overtimeState; rw [hlimit]

end Checked

/-! ### The superframe start -/

/-- With nothing else owed, the superframe start takes the counts and then owes its own (R73, R84). -/
theorem settleStart_of_settled {s : State} (h : frameSettled (s.withDue { s.due with quiet := false }))
    (htake : mayTake s = false) (hend : endsThisFrame s = false) : settleStart s = settleQuiet (takeCounts s) := by
  obtain ⟨hlinks, hexpiries, hboundary⟩ := nothingOwed_of_frameSettled h
  have hframe := floorFrame_takeCounts s
  have hsame : (takeCounts s).displays = s.displays := hframe.displays
  unfold settleStart
  rw [takeBoundary_of_none (by rw [hframe.due]; exact hboundary),
    settleLinks_of_settled (fun link => by rw [hframe.links]; exact hlinks link),
    settleExpiries_of_noneDue (by unfold NoExpiryDue; rw [hframe.due]; exact hexpiries),
    settleEmitter_of_done]
  · refine emit_of_stopped ?_
    rw [hsame]
    by_contra hno
    rw [not_or, not_not] at hno
    rw [mayTake_iff.mpr hno] at htake; cases htake
  · unfold endsThisFrame; rw [hsame]; exact hend

theorem tickClock_frame (s : State) :
    (tickClock s).floor = s.floor ∧ (tickClock s).log = s.log ∧ (tickClock s).notices = s.notices ∧
      (tickClock s).seats = s.seats := by
  unfold tickClock; dsimp only; split <;> exact ⟨rfl, rfl, rfl, rfl⟩

theorem settleQuiet_rest (s : State) :
    (settleQuiet s).floor = s.floor ∧ (settleQuiet s).log = s.log ∧ (settleQuiet s).seats = s.seats := by
  rw [settleQuiet_frame]; exact ⟨rfl, rfl, rfl⟩

theorem superframeStart_parts (s : State) :
    (superframeStart false s).log = (settleStart s).log ∧ (superframeStart false s).notices = (settleStart s).notices ∧
      (superframeStart false s).seats = (settleStart s).seats ∧
      (superframeStart false s).floor = (oweCounts (settleStart s)).floor := by
  have heq : superframeStart false s =
      copyThreshold (capture (oweCounts (tickClock (nextSuperframe (reachBoundary (settleStart s)))))) := rfl
  rw [heq]
  generalize settleStart s = u
  obtain ⟨hf, hl, hn, hs⟩ := tickClock_frame (nextSuperframe (reachBoundary u))
  generalize tickClock (nextSuperframe (reachBoundary u)) = v at *
  refine ⟨(show _ = v.log from rfl).trans (hl.trans rfl), (show _ = v.notices from rfl).trans (hn.trans rfl),
    (show _ = v.seats from rfl).trans (hs.trans rfl), ?_⟩
  show (oweCounts v).floor = _
  unfold oweCounts
  rw [withFloor_floor, withFloor_floor, hf]; rfl

/-- Settles O30: one entry's rows by what is due at its count, and the superframe start with nothing else owed. -/
theorem speakingMatches : Obligations.SpeakingMatches := by
  refine ⟨fun s n a b e hlist hseat hbefore => ?_, fun s n hno => ?_, fun s h htake hend => ?_⟩
  · dsimp only
    intro hbehind
    have h : OnlyEntry s n a e b := ⟨hlist, hseat, hbefore, hbehind⟩
    obtain ⟨k, hk⟩ : ∃ k, k = if e.timer.elapsed < 5999999 then e.timer.elapsed + 1 else e.timer.elapsed := ⟨_, rfl⟩
    rw [← hk]
    have htimer := h.countedTimer hk
    have hc : modifyOpenTimer n (fun x => { x with elapsed := k, owed := false }) s = countedEntry n k s := rfl
    have helapsed : (countTimer e.timer).elapsed = k := by rw [hk]; rfl
    have hlim : (countTimer e.timer).limit = e.timer.limit := rfl
    have matched : ∀ kind, e.timer.owed = true → (∀ x ∈ a, owesMatch x.timer = false) →
        (warnDue (countTimer e.timer) = true ∨ limitDue (countTimer e.timer) = true) →
        kind (countTimer e.timer) = true → matchesNext n kind s = true := by
      intro kind ho hold hdue hkind
      rw [h.matches_eq, decide_eq_true (h.is_next hold (owesMatch_of_due ho hdue)), hkind]; rfl
    have unmatched : ∀ kind, kind (countTimer e.timer) = false → matchesNext n kind s = false := by
      intro kind hkind
      rw [h.matches_eq, hkind, Bool.and_false]
    refine ⟨h.takeCount_of_not, fun ho hno => ?_, fun ho hr hold => ⟨fun w l hwd hw hl hle hlim => ?_,
      fun w l hwd hw hl hle hod hle' u hu => ?_, fun l hwd hl hod hle => ?_⟩, fun hw => ?_, fun hl => ?_, fun hno => ?_⟩
    · unfold owesMatch at hno
      rw [ho, Bool.true_and, Bool.or_eq_false_iff] at hno
      rw [h.takeCount_of_owed hk ho, checkTimer_of_neither htimer hno.1 hno.2]; rfl
    · have hwarn := warnDue_of_reached hr hwd hw hk hle
      have hlimit := limitDue_of_not hk (hlim.imp_right fun hlt => Or.inr ⟨l, hl, hlt⟩)
      rw [exec_warning_of_match (matched _ ho hold (Or.inl hwarn) hwarn), h.takeCount_of_owed hk ho,
        checkTimer_of_warning htimer hwarn hlimit, warnedState_eq hl helapsed]; rfl
    · have hwarn := warnDue_of_reached hr hwd hw hk hle
      have hlimit := limitDue_of_reached hr hod hl hk hle'
      have hu' : warnedState n (countTimer e.timer) (countedEntry n k s) = u := by
        rw [warnedState_eq hl helapsed, hu, Nat.sub_eq_zero_of_le hle']; rfl
      obtain ⟨hclose, hnotify⟩ := checkTimer_of_both htimer hwarn hlimit
      rw [hu', overtimeState_eq hl] at hnotify
      rw [hu'] at hclose
      have hrow := exec_warning_of_match (matched _ ho hold (Or.inl hwarn) hwarn)
      have hmatch := matched limitDue ho hold (Or.inr hlimit) hlimit
      rw [h.takeCount_of_owed hk ho] at hrow
      refine ⟨fun ha => ⟨?_, ?_, exec_notify_of_none (Or.inl ha)⟩, fun ha => ⟨?_, ?_, exec_close_of_none (Or.inl ha)⟩⟩
      · rw [hrow, hclose ha]
      · rw [exec_close_of_match ha hmatch, h.takeCount_of_owed hk ho, hclose ha]
      · rw [hrow, hnotify ha]
      · rw [exec_notify_of_match ha hmatch, h.takeCount_of_owed hk ho, hnotify ha]
    · have hwarn := warnDue_of_not hk (hwd.imp_right Or.inl)
      have hlimit := limitDue_of_reached hr hod hl hk hle
      obtain ⟨hclose, hnotify⟩ := checkTimer_of_limit htimer hwarn hlimit
      rw [overtimeState_eq hl] at hnotify
      have hmatch := matched limitDue ho hold (Or.inr hlimit) hlimit
      refine ⟨exec_warning_of_none (unmatched _ hwarn), fun ha => ⟨?_, exec_notify_of_none (Or.inl ha)⟩,
        fun ha => ⟨?_, exec_close_of_none (Or.inl ha)⟩⟩
      · rw [exec_close_of_match ha hmatch, h.takeCount_of_owed hk ho, hclose ha]; rfl
      · rw [exec_notify_of_match ha hmatch, h.takeCount_of_owed hk ho, hnotify ha]; rfl
    · exact exec_warning_of_none (unmatched _ (warnDue_of_not hk hw))
    · have hl := unmatched _ (limitDue_of_not hk hl)
      exact ⟨exec_close_of_none (Or.inr hl), exec_notify_of_none (Or.inr hl)⟩
    · have none : ∀ kind, (e.timer.running = false → kind (countTimer e.timer) = false) →
          matchesNext n kind s = false := by
        intro kind hkind
        rcases hno with ho | hr | hold
        · rw [h.matches_eq, decide_eq_false (h.not_next (Or.inl (owesMatch_of_idle (Or.inl ho)))), Bool.false_and]
        · exact unmatched kind (hkind hr)
        · rw [h.matches_eq, decide_eq_false (h.not_next (Or.inr hold)), Bool.false_and]
      exact no_match (none _ fun hr => by simp [warnDue, countTimer, hr])
        (none _ fun hr => by simp [limitDue, countTimer, hr])
  · have none : ∀ kind, matchesNext n kind s = false := by
      intro kind
      have : openTimer s.floor n = none := by
        cases ht : openTimer s.floor n with
        | none => rfl
        | some t => rw [hasEntry_of_openTimer ht] at hno; cases hno
      unfold matchesNext; rw [this]; simp
    exact no_match (none _) (none _)
  · refine ⟨_, rfl, ?_⟩
    obtain ⟨h1, h2, h3, h4⟩ := superframeStart_parts s
    obtain ⟨q1, q2, q3⟩ := settleQuiet_rest (takeCounts s)
    rw [settleStart_of_settled h htake hend] at h1 h2 h3 h4
    refine ⟨h1.trans q2, h2, h3.trans q3, h4.trans ?_⟩
    unfold oweCounts; rw [withFloor_floor, withFloor_floor, q1]

end Sys2Proof.Machine
end

section
/-!
PROOFS. THE OUTGOING FRAME: its trunk part, the peaks and the notices, from the stages of `sendFrame` (R4, R5, R94 to
R98, R195).
-/

namespace Sys2Proof.Machine

@[simp] theorem look_ofFn {α : Type} {k : Nat} (f : Fin k → α) (i : Fin k) : look (Vector.ofFn f) i = f i := by
  simp [look]

/-! ### The stages -/

/-- The notices after one computation. -/
def clipNotices (s : State) : Notices := if floorClips s || farClips s then raiseClip s.notices else s.notices

theorem compute_eq (s : State) : compute s =
    ((s.withMixer
        { s.mixer with clipFloor := countClip s.mixer.clipFloor (floorClips s)
                       clipFar := countClip s.mixer.clipFar (farClips s) }).withNotices (clipNotices s)).withGate
      { s.gate with forming := Vector.ofFn (fun i => max (look s.gate.forming i) (level (gateSample s i))) } := by
  unfold compute countClips clipNotices; dsimp only
  split <;> rfl

/-- An order of the Screen Composer moves nothing but shown images (R131). -/
theorem composeOrder_state (link : Link) (s : State) :
    ∃ shown, (composeOrder link s).2 = s.withScreens { s.screens with shown := shown } := by
  unfold composeOrder; dsimp only
  split
  · split
    · split
      · exact ⟨_, rfl⟩
      · exact ⟨s.screens.shown, rfl⟩
    · exact ⟨s.screens.shown, rfl⟩
  · exact ⟨s.screens.shown, rfl⟩

/-! ### The upstream slot of one frame -/

section slot
variable {s : State}

theorem takeSlot_of_unlocked (h : s.links.trunk.locked = false) : takeSlot s = (.empty, s) :=
  if_neg (by rw [h]; nofun)

theorem takeSlot_of_locked (h : s.links.trunk.locked = true) : takeSlot s =
    ((sendNotice (sendAnswer s)).port.slot.getD .empty,
      (sendNotice (sendAnswer s)).withPort { (sendNotice (sendAnswer s)).port with slot := none }) := if_pos h

theorem sendAnswer_of_filled {c : UpCell} (h : s.port.slot = some c) : sendAnswer s = s := by
  unfold sendAnswer; rw [h]

theorem sendAnswer_of_noAnswer (h : s.port.answers = []) : sendAnswer s = s := by
  unfold sendAnswer; rw [h]
  cases s.port.slot <;> rfl

theorem sendAnswer_of_answer {a : Answer} {rest : List Answer} (hl : s.links.trunk.locked = true)
    (h : s.port.slot = none) (ha : s.port.answers = a :: rest) :
    sendAnswer s = fillSlot (.answer a) (s.withPort { s.port with answers := rest }) := by
  unfold sendAnswer; rw [h, ha]; exact if_pos hl

theorem sendNotice_of_filled {c : UpCell} (h : s.port.slot = some c) : sendNotice s = s := by
  unfold sendNotice; rw [h]

theorem sendNotice_of_flag (hl : s.links.trunk.locked = true) (h : s.port.slot = none) (ha : s.port.answers = [])
    (hf : s.notices.pending = true) :
    sendNotice s = fillSlot (.notice (noticeNow s)) (s.withNotices { s.notices with pending := false }) := by
  unfold sendNotice; rw [h, ha]; exact if_pos (by rw [hl, hf]; rfl)

theorem sendNotice_of_noFlag (h : s.port.slot = none) (ha : s.port.answers = []) (hf : s.notices.pending = false) :
    sendNotice s = s := by
  unfold sendNotice; rw [h, ha]; exact if_neg (by rw [hf, Bool.and_false]; nofun)

theorem takeSlot_of_filled {c : UpCell} (hl : s.links.trunk.locked = true) (h : s.port.slot = some c) :
    takeSlot s = (c, s.withPort { s.port with slot := none }) := by
  rw [takeSlot_of_locked hl, sendAnswer_of_filled h, sendNotice_of_filled h, h]; rfl

theorem takeSlot_of_answer {a : Answer} {rest : List Answer} (hl : s.links.trunk.locked = true)
    (h : s.port.slot = none) (ha : s.port.answers = a :: rest) :
    takeSlot s = (.answer a, s.withPort { s.port with answers := rest }) := by
  have hport : ({ s.port with answers := rest, slot := none } : Port) = { s.port with answers := rest } := by
    rw [← h]
  rw [takeSlot_of_locked hl, sendAnswer_of_answer hl h ha, sendNotice_of_filled rfl, ← hport]; rfl

theorem takeSlot_of_flag (hl : s.links.trunk.locked = true) (h : s.port.slot = none) (ha : s.port.answers = [])
    (hf : s.notices.pending = true) :
    takeSlot s = (.notice (noticeNow s), s.withNotices { s.notices with pending := false }) := by
  have hport : ({ s.port with slot := none } : Port) = s.port := by rw [← h]
  rw [takeSlot_of_locked hl, sendAnswer_of_noAnswer ha, sendNotice_of_flag hl h ha hf]
  exact congrArg
    (fun p => (UpCell.notice (noticeNow s), (s.withNotices { s.notices with pending := false }).withPort p)) hport

theorem takeSlot_of_nothing (hl : s.links.trunk.locked = true) (h : s.port.slot = none) (ha : s.port.answers = [])
    (hf : s.notices.pending = false) : takeSlot s = (.empty, s) := by
  have hport : ({ s.port with slot := none } : Port) = s.port := by rw [← h]
  rw [takeSlot_of_locked hl, sendAnswer_of_noAnswer ha, sendNotice_of_noFlag h ha hf, h, hport]; rfl

theorem sendAnswer_frame (s : State) : sendAnswer s = s.withPort (sendAnswer s).port := by
  unfold sendAnswer
  split
  · split <;> rfl
  · rfl

theorem sendNotice_frame (s : State) :
    sendNotice s = (s.withPort (sendNotice s).port).withNotices (sendNotice s).notices := by
  unfold sendNotice
  split
  · split <;> rfl
  · rfl

/-- Only the Command Port and the notices move. -/
theorem takeSlot_frame (s : State) :
    ∃ p x, (takeSlot s).2 = (s.withPort p).withNotices x := by
  cases hl : s.links.trunk.locked with
  | false => rw [takeSlot_of_unlocked hl]; exact ⟨s.port, s.notices, rfl⟩
  | true =>
    rw [takeSlot_of_locked hl, sendNotice_frame, sendAnswer_frame]
    exact ⟨_, _, rfl⟩

end slot

/-! ### The frame -/

/-- The fragments of both chains delivered. -/
def delivered (c : State) : State := (composeOrder .chainB (composeOrder .chainA c).2).2

theorem delivered_frame (c : State) : ∃ shown, delivered c = c.withScreens { c.screens with shown := shown } := by
  unfold delivered
  obtain ⟨sa, ha⟩ := composeOrder_state .chainA c
  rw [ha]
  obtain ⟨sb, hb⟩ := composeOrder_state .chainB (c.withScreens { c.screens with shown := sa })
  rw [hb]
  exact ⟨sb, rfl⟩

/-- A chain's part of the frame. -/
def chainPart (link : Link) (s c : State) : ChainFrame :=
  { index := s.time.frame, samples := chainSamples link s, order := (composeOrder link c).1 }

/-- The trunk's part of the frame. -/
def trunkPart (s c : State) : TrunkFrame :=
  { index := s.time.frame, floorBus := floorBus s, farSend := farSend s, cell := (takeSlot (delivered c)).1 }

/-- What a frame carries and what it leaves, `c` being the state after its computation. -/
structure FrameSent (s c t : State) : Prop where
  trunk : t.sent.trunk = some (trunkPart s c)
  chainA : t.sent.chainA = some (chainPart .chainA s c)
  chainB : t.sent.chainB = some (chainPart .chainB s (composeOrder .chainA c).2)
  time : t.time = { s.time with frame := s.time.frame + 1 }
  port : t.port = (takeSlot (delivered c)).2.port
  notices : t.notices = (takeSlot (delivered c)).2.notices
  mixer : t.mixer = c.mixer
  gate : t.gate = c.gate
  screens : t.screens = (delivered c).screens
  floor : t.floor = c.floor
  log : t.log = c.log
  seats : t.seats = c.seats

/-- The frame of `s`, `c` being the state after its computation. -/
def sentAfter (s c : State) : State :=
  ((takeSlot (delivered c)).2.withSent
    { chainA := some { index := c.time.frame, samples := chainSamples .chainA s, order := (composeOrder .chainA c).1 }
      chainB := some { index := (composeOrder .chainA c).2.time.frame
                       samples := chainSamples .chainB s
                       order := (composeOrder .chainB (composeOrder .chainA c).2).1 }
      trunk := some (trunkPart s c) }).withTime { s.time with frame := s.time.frame + 1 }

theorem sendFrame_eq (s : State) : sendFrame s = sentAfter s (compute s) := by
  unfold sendFrame composeChain sentAfter trunkPart delivered; rfl

theorem sentAfter_sent {s c : State} (htime : c.time = s.time) : FrameSent s c (sentAfter s c) := by
  obtain ⟨sa, ha⟩ := composeOrder_state .chainA c
  have htimeA : (composeOrder .chainA c).2.time = s.time := by rw [ha]; exact htime
  obtain ⟨shown, hv⟩ := delivered_frame c
  obtain ⟨p, x, hu⟩ := takeSlot_frame (delivered c)
  refine ⟨rfl, ?_, ?_, rfl, rfl, rfl, ?_, ?_, ?_, ?_, ?_, ?_⟩
  · unfold sentAfter; rw [htime]; rfl
  · unfold sentAfter; rw [htimeA]; rfl
  · unfold sentAfter; rw [hu, hv]; rfl
  · unfold sentAfter; rw [hu, hv]; rfl
  · unfold sentAfter; rw [hu]; rfl
  · unfold sentAfter; rw [hu, hv]; rfl
  · unfold sentAfter; rw [hu, hv]; rfl
  · unfold sentAfter; rw [hu, hv]; rfl

theorem sendFrame_sent (s : State) : FrameSent s (compute s) (sendFrame s) := by
  rw [sendFrame_eq]
  exact sentAfter_sent (by rw [compute_eq]; rfl)

end Sys2Proof.Machine
end

section
/-!
PROOFS. THE OUTGOING FRAME OF THE TRUNK: O54 and O21 (R94 to R98, R106, R195).
-/

namespace Sys2Proof.Machine

/-! ### The far contribution -/

/-- R is the rounded quotient of the product by 2^14 exactly when the product and 2^13 lie in its interval (R96). -/
theorem farPart_eq_iff {s : State} {r : Int} :
    farPart s = r ↔ r * 16384 ≤ farSample s * ((look s.mixer.capGains (64 : Fin 65) : Nat) : Int) + 8192 ∧
      farSample s * ((look s.mixer.capGains (64 : Fin 65) : Nat) : Int) + 8192 < (r + 1) * 16384 :=
  roundHalfUp_eq_iff (by decide)

/-- The frame of a state that owes nothing. -/
theorem exec_outgoingFrame {before s : State} (h : s = settleFrame before) :
    exec .outgoingFrame before = .next (sendFrame (passFrame s)) := by
  rw [h]; rfl

theorem floorBus_of_alert {s : State} (h : s.floor.phase = .alert) : floorBus s = announceSample s := if_pos h

theorem floorBus_of_mixing {s : State} (h : s.floor.phase ≠ .alert) :
    floorBus s = saturate (roomMix s + farPart s) := if_neg h

theorem farSend_of_alert {s : State} (h : s.floor.phase = .alert) : farSend s = 0 := if_pos h

theorem farSend_of_mixing {s : State} (h : s.floor.phase ≠ .alert) : farSend s = saturate (roomMix s) := if_neg h

/-- A product with a gain code stays within the products of the sample's bounds. -/
theorem mul_gain_bounds {y : Int} {g : Nat} (hlow : -524288 ≤ y) (hhigh : y ≤ 524287) (hg : g ≤ 65535) :
    -524288 * 65535 ≤ y * (g : Int) ∧ y * (g : Int) ≤ 524287 * 65535 := by
  have hgain : (0 : Int) ≤ g ∧ (g : Int) ≤ 65535 := ⟨by omega, by omega⟩
  constructor <;> nlinarith

/-- Settles O54: R by the interval of its quotient, its bounds from those of the product, and the buses of a frame by
the phase. -/
theorem farContributionBounds : Obligations.FarContributionBounds := by
  refine ⟨fun s y g hy hg => ?_, fun before s h hphase => ?_⟩
  · obtain ⟨hbelow, habove⟩ := farPart_eq_iff.mp (rfl : farPart s = farPart s)
    rw [← hy, ← hg] at hbelow habove
    refine ⟨hbelow, habove, fun hlow hhigh hgain => ?_, fun h1 h2 => ?_, fun h1 h2 => ?_⟩
    · obtain ⟨hl, hh⟩ := mul_gain_bounds hlow hhigh hgain
      omega
    · rw [h1, h2] at hbelow habove; omega
    · rw [h1, h2] at hbelow habove; omega
  · exact ⟨_, _, exec_outgoingFrame h, (sendFrame_sent _).trunk, floorBus_of_mixing (s := passFrame s) hphase,
      farSend_of_mixing (s := passFrame s) hphase⟩

/-! ### Clips and peaks -/

theorem countClip_eq (n : Nat) (p : Prop) [Decidable p] :
    countClip n (decide p) = if p ∧ n < 65535 then n + 1 else n := by
  simp [countClip]

theorem clips_of_mixing {s : State} (h : s.floor.phase ≠ .alert) :
    floorClips s = decide (floorBus s ≠ roomMix s + farPart s) ∧ farClips s = decide (farSend s ≠ roomMix s) := by
  unfold floorClips farClips
  rw [floorBus_of_mixing h, farSend_of_mixing h, decide_eq_true h, Bool.true_and, Bool.true_and]
  exact ⟨rfl, rfl⟩

theorem clips_of_alert {s : State} (h : s.floor.phase = .alert) : floorClips s = false ∧ farClips s = false := by
  unfold floorClips farClips
  rw [decide_eq_false (not_not_intro h), Bool.false_and, Bool.false_and]
  exact ⟨rfl, rfl⟩

theorem someClip_eq (s : State) : (floorClips s || farClips s) =
    decide (s.floor.phase ≠ .alert ∧ (floorBus s ≠ roomMix s + farPart s ∨ farSend s ≠ roomMix s)) := by
  by_cases h : s.floor.phase = .alert
  · rw [(clips_of_alert h).1, (clips_of_alert h).2]
    exact (decide_eq_false (fun hc => hc.1 h)).symm
  · rw [(clips_of_mixing h).1, (clips_of_mixing h).2, Bool.decide_and, Bool.decide_or, decide_eq_true h,
      Bool.true_and]

/-- The notices after a computation: CLIP, and the flag that its rise makes pending (R98, R194). -/
theorem clipNotices_eq (s : State) : clipNotices s =
    { s.notices with
      summary := { s.notices.summary with clip := s.notices.summary.clip || (floorClips s || farClips s) }
      pending := s.notices.pending || ((floorClips s || farClips s) && !s.notices.summary.clip && s.notices.mask.clip) }
      := by
  unfold clipNotices raiseClip
  cases floorClips s || farClips s
  · simp
  · simp

theorem gateSample_seat (s : State) (n : Seat) : gateSample s ⟨n.val, by omega⟩ = micSample s n := dif_pos n.isLt

/-! ### What the frame owes -/

theorem settleFrame_rows (s : State) : settleFrame s =
    settleQuiet (settleEmitter (Statements.afterRows [.minuteBoundary]
      (Statements.expired (Statements.afterRows Statements.lockRows s)))) := by
  rw [afterRows_lockRows, expired_eq]; rfl

theorem endsThisFrame_of_later {s : State} (h : ∀ f : InFlight, s.displays.inFlight = some f → 625 ≤ f.ends) :
    endsThisFrame s = false := by
  unfold endsThisFrame
  cases hf : s.displays.inFlight with
  | none => rfl
  | some f => exact decide_eq_false (Nat.not_lt.mpr (h f hf))

theorem endsThisFrame_of_flight {s : State} {f : InFlight} (hf : s.displays.inFlight = some f) (h : f.ends < 625) :
    endsThisFrame s = true := by
  unfold endsThisFrame; rw [hf]; exact decide_eq_true h

theorem exec_irTransmissionComplete {s : State} {f : InFlight} (hf : s.displays.inFlight = some f)
    (h : f.ends ≤ 625) : exec .irTransmissionComplete s = .next (finishTransmission s) := by
  have hany : s.displays.inFlight.any (fun f => decide (f.ends ≤ frameCycles)) = true := by
    rw [hf]; exact decide_eq_true h
  exact congrArg Host.Outcome.next (if_pos hany)

/-- One completion within the frame, and none behind it (R149, R150). -/
theorem settleEmitter_of_one {s u : State} {f : InFlight} (hf : s.displays.inFlight = some f) (h : f.ends < 625)
    (hu : exec .irTransmissionComplete s = .next u)
    (hlater : ∀ g : InFlight, u.displays.inFlight = some g → 625 ≤ g.ends) : settleEmitter s = u := by
  have hfinish : finishTransmission s = u :=
    Host.Outcome.next.inj ((exec_irTransmissionComplete hf (Nat.le_of_lt h)).symm.trans hu)
  unfold settleEmitter
  rw [emit_of_stopped (Or.inl (by rw [hf]; nofun)), finishAll, if_pos (endsThisFrame_of_flight hf h), hfinish]
  exact finishAll_of_done (endsThisFrame_of_later hlater)

/-! ### The management cell -/

section cell
variable {c : State}

/-- What the slot of a frame gives, by the trunk, the slot, the answers and the flag (R9, R195). -/
theorem takeSlot_cases (c : State) :
    (c.links.trunk.locked = false →
      (takeSlot c).1 = .empty ∧ (takeSlot c).2.port = c.port ∧ (takeSlot c).2.notices = c.notices) ∧
    (c.links.trunk.locked = true →
      (∀ x, c.port.slot = some x →
        (takeSlot c).1 = x ∧ (takeSlot c).2.port = { c.port with slot := none } ∧
          (takeSlot c).2.notices = c.notices) ∧
      (∀ a rest, c.port.slot = none → c.port.answers = a :: rest →
        (takeSlot c).1 = .answer a ∧ (takeSlot c).2.port = { c.port with answers := rest } ∧
          (takeSlot c).2.notices = c.notices) ∧
      (c.port.slot = none → c.port.answers = [] → c.notices.pending = true →
        (takeSlot c).1 = .notice (noticeNow c) ∧ (takeSlot c).2.port = c.port ∧
          (takeSlot c).2.notices = { c.notices with pending := false }) ∧
      (c.port.slot = none → c.port.answers = [] → c.notices.pending = false →
        (takeSlot c).1 = .empty ∧ (takeSlot c).2.port = c.port ∧ (takeSlot c).2.notices = c.notices)) := by
  refine ⟨fun hl => ?_, fun hl => ⟨fun x h => ?_, fun a rest h ha => ?_, fun h ha hf => ?_, fun h ha hf => ?_⟩⟩
  · rw [takeSlot_of_unlocked hl]; exact ⟨rfl, rfl, rfl⟩
  · rw [takeSlot_of_filled hl h]; exact ⟨rfl, rfl, rfl⟩
  · rw [takeSlot_of_answer hl h ha]; exact ⟨rfl, rfl, rfl⟩
  · rw [takeSlot_of_flag hl h ha hf]; exact ⟨rfl, rfl, rfl⟩
  · rw [takeSlot_of_nothing hl h ha hf]; exact ⟨rfl, rfl, rfl⟩

/-- Whatever the slot takes, the summary stays. -/
theorem takeSlot_summary (c : State) : (takeSlot c).2.notices.summary = c.notices.summary := by
  obtain ⟨hunlocked, hlocked⟩ := takeSlot_cases c
  cases hl : c.links.trunk.locked with
  | false => rw [(hunlocked hl).2.2]
  | true =>
    obtain ⟨hfilled, hanswer, hflag, hnone⟩ := hlocked hl
    cases hs : c.port.slot with
    | some x => rw [(hfilled x hs).2.2]
    | none =>
      cases ha : c.port.answers with
      | cons a rest => rw [(hanswer a rest hs ha).2.2]
      | nil =>
        cases hf : c.notices.pending with
        | true => rw [(hflag hs ha hf).2.2]
        | false => rw [(hnone hs ha hf).2.2]

end cell

/-- The trunk's part, the peaks and the clips of the frame of `p`. -/
theorem FrameSent.trunkSide {p t : State} (sent : FrameSent p (compute p) t) :
    t.mixer = { p.mixer with clipFloor := countClip p.mixer.clipFloor (floorClips p)
                             clipFar := countClip p.mixer.clipFar (farClips p) } ∧
      (∀ i, look t.gate.forming i = max (look p.gate.forming i) (level (gateSample p i))) ∧
      t.floor = p.floor ∧ t.log = p.log ∧ t.seats = p.seats := by
  refine ⟨?_, fun i => ?_, ?_, ?_, ?_⟩
  · rw [sent.mixer, compute_eq]; rfl
  · rw [sent.gate, compute_eq]; exact look_ofFn _ i
  · rw [sent.floor, compute_eq]; rfl
  · rw [sent.log, compute_eq]; rfl
  · rw [sent.seats, compute_eq]; rfl

/-- The state that the slot is taken of: what the slot looks at. -/
theorem delivered_compute (p : State) : (delivered (compute p)).links = p.links ∧
    (delivered (compute p)).port = p.port ∧ (delivered (compute p)).log = p.log ∧
    (delivered (compute p)).notices = clipNotices p := by
  obtain ⟨shown, hv⟩ := delivered_frame (compute p)
  rw [hv, compute_eq]
  exact ⟨rfl, rfl, rfl, rfl⟩

/-- Settles O21: what the frame owes as rows, and the trunk's part from the stages of `sendFrame`. -/
theorem outgoingFrameBuses : Obligations.OutgoingFrameBuses := by
  refine ⟨settleFrame_rows, fun s hstop hlater => ?_, fun s u f hf hends hu hlater => ?_, fun s hstop => ?_,
    fun s h => ?_, fun before s h => ?_⟩
  · exact settleEmitter_of_done (emit_of_stopped hstop) (endsThisFrame_of_later hlater)
  · exact settleEmitter_of_one hf hends hu hlater
  · unfold settleEmitter; rw [emit_of_stopped hstop]
  · exact congrArg (fun u => Host.Outcome.next (sendFrame (passFrame u)))
      (show settleFrame (settleFrame s) = _ from h).symm
  obtain ⟨p, hp⟩ : ∃ p, p = passFrame s := ⟨_, rfl⟩
  obtain ⟨hfloor, hmixer, hgate, hlinks, hport, hnotices, hlog, hseats, htime, haudio⟩ :
      p.floor = s.floor ∧ p.mixer = s.mixer ∧ p.gate = s.gate ∧ p.links = s.links ∧ p.port = s.port ∧
        p.notices = s.notices ∧ p.log = s.log ∧ p.seats = s.seats ∧ p.time = s.time ∧ p.audio = s.audio := by
    rw [hp]; exact ⟨rfl, rfl, rfl, rfl, rfl, rfl, rfl, rfl, rfl, rfl⟩
  have hroom : Statements.roomMix s = roomMix p := by rw [hp]; rfl
  have hfar : Statements.farPart s = farPart p := by rw [hp]; rfl
  have hmic : ∀ n, micSample s n = micSample p n := fun n => by rw [hp]; rfl
  have hannounce : announceSample s = announceSample p := by rw [hp]; rfl
  obtain ⟨t, ht⟩ : ∃ t, t = sendFrame p := ⟨_, rfl⟩
  have sent : FrameSent p (compute p) t := ht ▸ sendFrame_sent p
  obtain ⟨hclips, hpeaks, htfloor, htlog, htseats⟩ := sent.trunkSide
  obtain ⟨hvlinks, hvport, hvlog, hvnotices⟩ := delivered_compute p
  obtain ⟨hunlocked, hlocked⟩ := takeSlot_cases (delivered (compute p))
  have hsummary := takeSlot_summary (delivered (compute p))
  rw [hvlinks, hvport, hvnotices] at hunlocked hlocked
  rw [hvnotices, ← sent.notices, clipNotices_eq] at hsummary
  rw [clipNotices_eq] at hunlocked hlocked
  rw [← sent.port, ← sent.notices] at hunlocked hlocked
  refine ⟨t, trunkPart p (compute p), (exec_outgoingFrame h).trans (by rw [ht, hp]), sent.trunk,
    (show p.time.frame = s.time.frame by rw [htime]), by rw [sent.time, htime], fun hphase => ?_, fun hphase => ?_,
    fun n => ?_, ?_, ?_, ?_, htfloor.trans hfloor, htlog.trans hlog, htseats.trans hseats⟩
  · rw [← hfloor] at hphase
    obtain ⟨hcf, hce⟩ := clips_of_mixing hphase
    rw [hroom, hfar, hclips, hcf, hce, ← hmixer]
    exact ⟨floorBus_of_mixing hphase, farSend_of_mixing hphase, countClip_eq _ _, countClip_eq _ _⟩
  · rw [← hfloor] at hphase
    obtain ⟨hcf, hce⟩ := clips_of_alert hphase
    rw [hannounce, hclips, hcf, hce, ← hmixer]
    exact ⟨floorBus_of_alert hphase, farSend_of_alert hphase, rfl, rfl⟩
  · rw [hpeaks, hgate, hmic, gateSample_seat]; rfl
  · rw [hpeaks, hgate]; rfl
  · rw [hpeaks, hgate]; rfl
  · intro clip hclip flag hflag
    rw [hroom, hfar, ← hfloor] at hclip
    have hsome : (floorClips p || farClips p) = clip := (someClip_eq p).trans hclip.symm
    rw [hsome, hnotices] at hsummary hunlocked hlocked
    rw [← hflag] at hunlocked hlocked hsummary
    rw [← hlinks, ← hport]
    refine ⟨hsummary, fun hl => ?_, fun hl => ?_⟩
    · obtain ⟨h1, h2, h3⟩ := hunlocked hl
      exact ⟨h1, h2, by rw [h3]⟩
    · obtain ⟨hfilled, hanswer, hpending, hnone⟩ := hlocked hl
      refine ⟨fun x hx => ?_, fun a rest hx ha => ?_, fun hx ha hf => ?_, fun hx ha hf => ?_⟩
      · obtain ⟨h1, h2, h3⟩ := hfilled x hx
        exact ⟨h1, h2, by rw [h3]⟩
      · obtain ⟨h1, h2, h3⟩ := hanswer a rest hx ha
        exact ⟨h1, h2, by rw [h3]⟩
      · obtain ⟨h1, h2, h3⟩ := hpending hx ha hf
        refine ⟨h1.trans ?_, h2, by rw [h3]⟩
        unfold noticeNow
        rw [hvlog, hvnotices, clipNotices_eq, hsome, hnotices, hlog, hsummary]
      · obtain ⟨h1, h2, h3⟩ := hnone hx ha hf
        exact ⟨h1, h2, by rw [h3]; exact hf⟩

end Sys2Proof.Machine
end

section
/-!
PROOFS. THE OUTGOING FRAME OF THE SEAT CHAINS: the feeds of O22 and the orders of O23 (R8, R18 to R21, R53, R100 to
R102, R131).
-/

namespace Sys2Proof.Machine

/-! ### The loudspeaker samples -/

theorem chainSamples_of_unlocked {link : Link} {s : State} (h : (linkState s.links link).locked = false)
    (k : Fin 32) : look (chainSamples link s) k = 0 := by
  unfold chainSamples; rw [if_neg (by rw [h]; nofun)]; exact look_replicate 32 0 k

theorem chainSamples_of_locked {link : Link} {s : State} (h : (linkState s.links link).locked = true)
    (k : Fin 32) : look (chainSamples link s) k = seatFeed s (seatAt link k) := by
  unfold chainSamples; rw [if_pos h]; exact look_ofFn _ k

theorem seatFeed_of_absent {s : State} {n : Seat} (h : presenceOf s n = .absent) : seatFeed s n = 0 := if_pos h

theorem seatFeed_of_alert {s : State} {n : Seat} (h : presenceOf s n ≠ .absent) (hp : s.floor.phase = .alert) :
    seatFeed s n = announceSample s := (if_neg h).trans (if_pos hp)

theorem seatFeed_of_opened {s : State} {n : Seat} (hp : s.floor.phase ≠ .alert)
    (hm : micState s.floor n = .opened) : seatFeed s n = 0 := by
  by_cases h : presenceOf s n = .absent
  · exact seatFeed_of_absent h
  · exact (if_neg h).trans ((if_neg hp).trans (if_pos hm))

theorem seatFeed_of_listening {s : State} {n : Seat} (h : presenceOf s n ≠ .absent) (hp : s.floor.phase ≠ .alert)
    (hm : micState s.floor n ≠ .opened) : seatFeed s n = listenFeed (floorBus s) (look s.seats n).volume :=
  (if_neg h).trans ((if_neg hp).trans (if_neg hm))

/-- Settles O22: the feed of each seat by its chain, its presence, the phase and its mic state. -/
theorem outgoingFrameFeeds : Obligations.OutgoingFrameFeeds := by
  intro before s h
  have sent := sendFrame_sent (passFrame s)
  refine ⟨_, _, _, _, exec_outgoingFrame h, sent.chainA, sent.chainB, sent.trunk, rfl, rfl,
    fun link f k hlink => ?_⟩
  have hsamples : f.samples = chainSamples link (passFrame s) := by
    rcases hlink with ⟨rfl, rfl⟩ | ⟨rfl, rfl⟩ <;> rfl
  rw [hsamples]
  refine ⟨fun hl => chainSamples_of_unlocked (s := passFrame s) hl k, fun hl => ?_⟩
  rw [chainSamples_of_locked (s := passFrame s) hl]
  exact ⟨fun h1 => seatFeed_of_absent (s := passFrame s) h1,
    fun h1 h2 => seatFeed_of_alert (s := passFrame s) h1 h2,
    fun h1 h2 => seatFeed_of_opened (s := passFrame s) h1 h2,
    fun h1 h2 h3 => seatFeed_of_listening (s := passFrame s) h1 h2 h3⟩

/-! ### What an order looks at -/

/-- The two states give the same orders, but for what is shown. -/
structure SameView (s c : State) : Prop where
  links : c.links = s.links
  seats : c.seats = s.seats
  floor : c.floor = s.floor
  frame : c.time.frame = s.time.frame
  wanted1 : ∀ n, wantedLine1 c n = wantedLine1 s n
  wanted2 : ∀ n, wantedLine2 c n = wantedLine2 s n
  names : c.screens.names = s.screens.names
  messages : c.screens.messages = s.screens.messages

theorem SameView.trans {s c d : State} (h : SameView s c) (k : SameView c d) : SameView s d where
  links := k.links.trans h.links
  seats := k.seats.trans h.seats
  floor := k.floor.trans h.floor
  frame := k.frame.trans h.frame
  wanted1 n := (k.wanted1 n).trans (h.wanted1 n)
  wanted2 n := (k.wanted2 n).trans (h.wanted2 n)
  names := k.names.trans h.names
  messages := k.messages.trans h.messages

theorem sameView_passFrame (s : State) : SameView s (passFrame s) :=
  ⟨rfl, rfl, rfl, rfl, fun _ => rfl, fun _ => rfl, rfl, rfl⟩

theorem sameView_compute (s : State) : SameView s (compute s) := by
  rw [compute_eq]
  exact ⟨rfl, rfl, rfl, rfl, fun _ => rfl, fun _ => rfl, rfl, rfl⟩

theorem sameView_shown (s : State) (shown : Vector Shown 64) :
    SameView s (s.withScreens { s.screens with shown := shown }) :=
  ⟨rfl, rfl, rfl, rfl, fun _ => rfl, fun _ => rfl, rfl, rfl⟩

theorem sameView_composeOrder (link : Link) (s : State) : SameView s (composeOrder link s).2 := by
  obtain ⟨shown, h⟩ := composeOrder_state link s
  rw [h]; exact sameView_shown s shown

section view
variable {s c : State} {n : Seat}

theorem SameView.presenceOf_eq (h : SameView s c) (n : Seat) : presenceOf c n = presenceOf s n := by
  unfold presenceOf; rw [h.seats]

theorem SameView.ledOf_eq (h : SameView s c) (n : Seat) : ledOf c n = ledOf s n := by
  unfold ledOf; rw [h.presenceOf_eq, h.seats, h.floor]

theorem SameView.muteOf_eq (h : SameView s c) (n : Seat) : muteOf c n = muteOf s n := by
  unfold muteOf; rw [h.presenceOf_eq, h.floor]

theorem SameView.nextFragment_eq (h : SameView s c) (hshown : look c.screens.shown n = look s.screens.shown n) :
    nextFragment c n = nextFragment s n := by
  unfold nextFragment; rw [h.wanted1, h.wanted2, hshown]

end view

/-! ### The order by its cases -/

section order
variable {s : State} {link : Link} {n : Seat}

theorem composeOrder_of_noPart (hn : seatAt link s.time.frame = n)
    (h : (linkState s.links link).locked = false ∨ takesPart (presenceOf s n) = false) :
    composeOrder link s = ({ led := .off, mute := false, fragment := none }, s) := by
  unfold composeOrder; dsimp only; rw [hn]
  by_cases hl : (linkState s.links link).locked = true
  · have hp : takesPart (presenceOf s n) = false := h.resolve_left (by rw [hl]; nofun)
    have hled : ledOf s n = .off := if_neg (by rw [hp]; nofun)
    have hmute : muteOf s n = false := by unfold muteOf; rw [hp]; rfl
    rw [if_pos hl, if_neg (by rw [hp]; nofun), hled, hmute]
  · exact if_neg hl

theorem composeOrder_of_part (hn : seatAt link s.time.frame = n) (hl : (linkState s.links link).locked = true)
    (hp : takesPart (presenceOf s n) = true) :
    (composeOrder link s).1.led = ledOf s n ∧ (composeOrder link s).1.mute = muteOf s n ∧
      (∀ g image, nextFragment s n = some (g, image) →
        (composeOrder link s).1.fragment = some g ∧ (composeOrder link s).2 = setShown n image s) ∧
      (nextFragment s n = none → (composeOrder link s).1.fragment = none ∧ (composeOrder link s).2 = s) := by
  unfold composeOrder; dsimp only; rw [hn, if_pos hl, if_pos hp]
  cases hf : nextFragment s n with
  | none => exact ⟨rfl, rfl, nofun, fun _ => ⟨rfl, rfl⟩⟩
  | some x => exact ⟨rfl, rfl, fun g image hx => by cases hx; exact ⟨rfl, rfl⟩, nofun⟩

theorem look_setShown_self (n : Seat) (x : Shown) (s : State) : look (setShown n x s).screens.shown n = x :=
  look_upd_self ..

/-- A fragment moves the shown image of its own seat only (R131). -/
theorem composeOrder_others {m : Seat} (h : m ≠ seatAt link s.time.frame) :
    look (composeOrder link s).2.screens.shown m = look s.screens.shown m := by
  unfold composeOrder; dsimp only
  split
  · split
    · split
      · exact (look_upd _ _ _ _).trans (if_neg h.symm)
      · rfl
    · rfl
  · rfl

end order

/-- The chains hold different seats (Table 6-1). -/
theorem seatAt_ne (j k : Fin 32) : seatAt .chainA j ≠ seatAt .chainB k := by
  intro h
  have : j.val = k.val + 32 := congrArg Fin.val h
  omega

/-! ### The LED and the mute -/

section led
variable {s : State} {n : Seat}

theorem ledOf_of_alert (hp : takesPart (presenceOf s n) = true) (h : s.floor.phase = .alert) :
    ledOf s n = .alert := (if_pos hp).trans (if_pos h)

theorem ledOf_of_refused (hp : takesPart (presenceOf s n) = true) (h : s.floor.phase ≠ .alert)
    (hr : 0 < (look s.seats n).refused) : ledOf s n = .refused :=
  (if_pos hp).trans ((if_neg h).trans (if_pos hr))

theorem ledOf_of_floor (hp : takesPart (presenceOf s n) = true) (h : s.floor.phase ≠ .alert)
    (hr : (look s.seats n).refused = 0) : ledOf s n = floorLed s.floor n :=
  (if_pos hp).trans ((if_neg h).trans (if_neg (by omega)))

theorem muteOf_of_alert (h : s.floor.phase = .alert) : muteOf s n = false := by
  unfold muteOf; rw [decide_eq_false (not_not_intro h), Bool.and_false]

theorem muteOf_of_mixing (hp : takesPart (presenceOf s n) = true) (h : s.floor.phase ≠ .alert) :
    muteOf s n = decide (micState s.floor n = .opened) := by
  unfold muteOf; rw [hp, decide_eq_true h, Bool.true_and, Bool.and_true]

theorem floorLed_of_opened {f : Floor} {t : Timer} (hm : micState f n = .opened) (ht : openTimer f n = some t) :
    floorLed f n = if t.overtime then .over else if t.warned then .warn else .on := by
  unfold floorLed; rw [hm, ht]

end led

/-- What both chains' orders of the frame of `p` are composed in. -/
theorem FrameSent.orders {p t : State} (sent : FrameSent p (compute p) t) {link : Link} {f : ChainFrame} {n : Seat}
    (hlink : link = .chainA ∧ f = chainPart .chainA p (compute p) ∨
      link = .chainB ∧ f = chainPart .chainB p (composeOrder .chainA (compute p)).2)
    (hn : seatAt link p.time.frame = n) :
    ∃ c, SameView p c ∧ look c.screens.shown n = look p.screens.shown n ∧ f.order = (composeOrder link c).1 ∧
      look t.screens.shown n = look (composeOrder link c).2.screens.shown n := by
  have hview := sameView_compute p
  have hviewA := hview.trans (sameView_composeOrder .chainA (compute p))
  have hshown : (compute p).screens.shown = p.screens.shown := by rw [compute_eq]; rfl
  rcases hlink with ⟨rfl, rfl⟩ | ⟨rfl, rfl⟩
  · refine ⟨compute p, hview, by rw [hshown], rfl, ?_⟩
    rw [sent.screens]
    exact composeOrder_others (by rw [hviewA.frame, ← hn]; exact seatAt_ne _ _)
  · refine ⟨_, hviewA, ?_, rfl, by rw [sent.screens]; rfl⟩
    rw [composeOrder_others (by rw [hview.frame, ← hn]; exact (seatAt_ne _ _).symm), hshown]

/-- Settles O23: each chain's order is composed in a state of the same view, by the cases of `composeOrder`. -/
theorem outgoingFrameOrders : Obligations.OutgoingFrameOrders := by
  intro before s h
  have sent := sendFrame_sent (passFrame s)
  have hview := sameView_passFrame s
  have hall : (delivered (compute (passFrame s))).screens = (sendFrame (passFrame s)).screens := sent.screens.symm
  have hviews := ((hview.trans (sameView_compute (passFrame s))).trans (sameView_composeOrder .chainA _)).trans
    (sameView_composeOrder .chainB _)
  refine ⟨_, _, _, exec_outgoingFrame h, sent.chainA, sent.chainB, ?_, ?_, fun m ha hb => ?_,
    fun link f n hlink hn => ?_⟩
  · rw [← hall]; exact hviews.names
  · rw [← hall]; exact hviews.messages
  · have hviewA := (sameView_compute (passFrame s)).trans (sameView_composeOrder .chainA _)
    rw [← hall]
    refine (composeOrder_others (by rw [hviewA.frame]; exact hb)).trans
      ((composeOrder_others (by rw [(sameView_compute _).frame]; exact ha)).trans ?_)
    rw [compute_eq]; rfl
  obtain ⟨c, hc, hshown, horder, hafter⟩ := sent.orders hlink hn
  have hsc : SameView s c := hview.trans hc
  have hnc : seatAt link c.time.frame = n := by rw [hsc.frame]; exact hn
  have hshown' : look c.screens.shown n = look s.screens.shown n := hshown
  rw [horder, hafter]
  refine ⟨fun hno => ?_, fun hl hp => ?_⟩
  · rw [← hsc.links, ← hsc.presenceOf_eq] at hno
    rw [composeOrder_of_noPart hnc hno]
    exact ⟨rfl, hshown'⟩
  · rw [← hsc.links] at hl
    obtain ⟨hled, hmute, hsome, hnone⟩ := composeOrder_of_part hnc hl (by rw [hsc.presenceOf_eq]; exact hp)
    rw [hsc.ledOf_eq] at hled
    rw [hsc.muteOf_eq] at hmute
    rw [hsc.nextFragment_eq hshown'] at hsome hnone
    rw [hled, hmute]
    refine ⟨fun ha => ⟨ledOf_of_alert hp ha, muteOf_of_alert ha⟩, fun ha => muteOf_of_mixing hp ha,
      fun ha hr => ledOf_of_refused hp ha hr, fun ha hr => ?_, fun g image hg => ?_, fun hg => ?_⟩
    · rw [ledOf_of_floor hp ha hr]
      refine ⟨fun hm => ?_, fun hm => ?_, fun hm => ?_, fun hm => ?_, fun x hm hx => ?_⟩
      · unfold floorLed; rw [hm]
      · unfold floorLed; rw [hm]
      · unfold floorLed; rw [hm]
      · unfold floorLed; rw [hm]
      · rw [floorLed_of_opened hm hx]
        exact ⟨fun h1 => by rw [h1]; rfl, fun h1 h2 => by rw [h1, h2]; rfl, fun h1 h2 => by rw [h1, h2]; rfl⟩
    · obtain ⟨h1, h2⟩ := hsome g image hg
      exact ⟨h1, by rw [h2]; exact look_setShown_self n image c⟩
    · obtain ⟨h1, h2⟩ := hnone hg
      exact ⟨h1, by rw [h2]; exact hshown'⟩

end Sys2Proof.Machine
end

section
/-!
PROOFS. THE SUPERFRAME START: O26 (R73, R86, R89, R111, R156).
-/

namespace Sys2Proof.Machine

/-! ### What the start owes -/

theorem settleStart_rows (s : State) : settleStart s =
    settleQuiet (settleEmitter (Statements.expired (Statements.afterRows Statements.lockRows
      (Statements.afterRows [.minuteBoundary] (takeCounts s))))) := by
  rw [afterRows_lockRows, expired_eq]; rfl

theorem expireRefused_boundary (n : Seat) (s : State) : (expireRefused n s).due.boundary = s.due.boundary := by
  unfold expireRefused; split <;> rfl

theorem expireMessage_boundary (n : Seat) (s : State) : (expireMessage n s).due.boundary = s.due.boundary := by
  unfold expireMessage; split
  · split <;> rfl
  · rfl

theorem expireWarm_boundary (d : DisplayNo) (s : State) : (expireWarm d s).due.boundary = s.due.boundary := by
  unfold expireWarm; split
  · rw [(emitterClosed_owedKept.rel_emit _).due, (emitterClosed_owedKept.rel_warmExpired d (dropDisplay d s)).due]
    rfl
  · rfl

theorem expireCool_boundary (d : DisplayNo) (s : State) : (expireCool d s).due.boundary = s.due.boundary := by
  unfold expireCool; split
  · rw [(emitterClosed_owedKept.rel_emit _).due, (emitterClosed_owedKept.rel_coolExpired d (dropDisplay d s)).due]
    rfl
  · rfl

theorem foldl_boundary {α : Type} {step : State → α → State}
    (h : ∀ s a, (step s a).due.boundary = s.due.boundary) (l : List α) (s : State) :
    (l.foldl step s).due.boundary = s.due.boundary := by
  induction l generalizing s with
  | nil => rfl
  | cons a l ih => exact (ih _).trans (h s a)

theorem settleExpiries_boundary (s : State) : (settleExpiries s).due.boundary = s.due.boundary :=
  (foldl_boundary (fun t d => (expireCool_boundary d _).trans (expireWarm_boundary d t)) _ _).trans
    ((foldl_boundary (fun t n => expireMessage_boundary n t) _ _).trans
      (foldl_boundary (fun t n => expireRefused_boundary n t) _ s))

/-- No minute boundary waits behind what the start takes. -/
theorem settleStart_boundary (s : State) : (settleStart s).due.boundary = none := by
  unfold settleStart
  rw [(settleQuiet_owed _).2]
  show (settleEmitter _).due.boundary = none
  rw [(emitterClosed_owedKept.rel_settleEmitter _).due, settleExpiries_boundary, settleLinks_due,
    (takeBoundary_owed _).2]

/-! ### The counts of the timers -/

theorem takeCount_setup (n : Seat) (s : State) : (takeCount n s).floor.setup = s.floor.setup := by
  unfold takeCount; split
  · split
    · exact (eventEnd_afterFloor _).setup.trans
        ((shrinks_checkTimer n _).setup.trans (shrinks_modifyOpenTimer n countTimer s).setup)
    · rfl
  · rfl

theorem takeCounts_setup (s : State) : (takeCounts s).floor.setup = s.floor.setup := by
  unfold takeCounts
  generalize seatsOf s.floor.openList = l
  induction l generalizing s with
  | nil => rfl
  | cons n l ih => exact (ih _).trans (takeCount_setup n s)

/-- Whether or not the counts are taken, the other blocks stay. -/
theorem counted_frame (limitsFirst : Bool) (v : State) :
    floorFrame v (if limitsFirst then takeCounts v else v) ∧
      (if limitsFirst then takeCounts v else v).seats = v.seats ∧
      (if limitsFirst then takeCounts v else v).floor.setup = v.floor.setup := by
  cases limitsFirst with
  | true => exact ⟨floorFrame_takeCounts v, eventClosed_seats.rel_takeCounts v, takeCounts_setup v⟩
  | false => exact ⟨floorFrame_refl v, rfl, rfl⟩

/-! ### The room time -/

/-- The room time counts milliseconds of the week and stays a time of day (R156). -/
theorem advanceTime_spec {r : RoomTime} (hday : r.day ≤ 6) (hhour : r.hour ≤ 23) (hminute : r.minute ≤ 59)
    (hsecond : r.second ≤ 59) (hms : r.ms ≤ 999) :
    weekMs (advanceTime r) = (weekMs r + 1) % 604800000 ∧ (advanceTime r).day ≤ 6 ∧ (advanceTime r).hour ≤ 23 ∧
      (advanceTime r).minute ≤ 59 ∧ (advanceTime r).second ≤ 59 ∧ (advanceTime r).ms ≤ 999 := by
  have hweek : ∀ x : RoomTime, weekMs x = (x.day * 1440 + x.hour * 60 + x.minute) * 60000 + x.second * 1000 + x.ms :=
    fun _ => rfl
  rw [hweek, hweek]
  unfold advanceTime
  split
  · dsimp only; omega
  split
  · dsimp only; omega
  split
  · dsimp only; omega
  split
  · dsimp only; omega
  dsimp only; split <;> omega

/-! ### The new superframe -/

/-- The state in which a superframe owes its counts. -/
def opening (u : State) : State := oweCounts (tickClock (nextSuperframe (reachBoundary u)))

theorem tickClock_eq (s : State) :
    tickClock s = (s.withClock { s.clock with time := advanceTime s.clock.time }).withDue
      { s.due with
        boundary := if (advanceTime s.clock.time).second = 0 ∧ (advanceTime s.clock.time).ms = 0 then
          some (weekMinute (advanceTime s.clock.time)) else s.due.boundary } := by
  unfold tickClock; dsimp only
  split
  · rfl
  · rfl

/-- What a superframe has opened. -/
structure Opened (u v : State) : Prop where
  time : v.time = { stamp := u.time.stamp + 1, frame := 0 }
  clock : v.clock = { u.clock with time := advanceTime u.clock.time }
  boundary : v.due.boundary = if (advanceTime u.clock.time).second = 0 ∧ (advanceTime u.clock.time).ms = 0 then
    some (weekMinute (advanceTime u.clock.time)) else u.due.boundary
  floor : v.floor = { u.floor with openList := u.floor.openList.map (fun e => { e with timer := oweCount e.timer }) }
  displays : v.displays = { u.displays with now := max u.displays.now 625 }
  mixer : v.mixer = u.mixer
  seats : v.seats = u.seats
  port : v.port = u.port
  sched : v.sched = u.sched
  links : v.links = u.links
  screens : v.screens = u.screens
  log : v.log = u.log
  notices : v.notices = u.notices

theorem opened_opening (u : State) : Opened u (opening u) := by
  obtain ⟨w, hw⟩ : ∃ w, w = nextSuperframe (reachBoundary u) := ⟨_, rfl⟩
  have hopening : opening u = oweCounts (tickClock w) := by rw [hw]; rfl
  obtain ⟨hclock, hdue, hfloor⟩ : w.clock = u.clock ∧ w.due = u.due ∧ w.floor = u.floor := by
    rw [hw]; exact ⟨rfl, rfl, rfl⟩
  rw [hopening, tickClock_eq, hclock, hdue]
  constructor
  case floor => rw [← hfloor]; rfl
  case clock => rfl
  case boundary => rfl
  all_goals exact hw ▸ rfl

theorem superframeStart_eq (limitsFirst : Bool) (s : State) : superframeStart limitsFirst s =
    copyThreshold (capture (if limitsFirst then takeCounts (opening (settleStart s)) else opening (settleStart s))) :=
  rfl

theorem mem_contributionSet {s : State} {n : Seat} :
    n ∈ contributionSet s ↔ hasEntry s.floor.openList n = true ∧ takesPart (presenceOf s n) = true := by
  unfold contributionSet
  rw [List.mem_filter, Bool.and_eq_true]
  exact ⟨fun h => h.2, fun h => ⟨List.mem_finRange n, h⟩⟩

/-- Settles O26: the opened superframe, its counts, and the capture that reads them. -/
theorem superframeStartCaptures : Obligations.SuperframeStartCaptures := by
  refine ⟨settleStart_rows, fun limitsFirst s h => ?_, fun limitsFirst before s h => ?_⟩
  · refine congrArg Host.Outcome.next ?_
    rw [superframeStart_eq, superframeStart_eq, h]
  have hboundary : s.due.boundary = none := by rw [h]; exact settleStart_boundary before
  obtain ⟨v, hv⟩ : ∃ v, v = opening s := ⟨_, rfl⟩
  obtain ⟨c, hc⟩ : ∃ c, c = if limitsFirst then takeCounts v else v := ⟨_, rfl⟩
  have opened : Opened s v := hv ▸ opened_opening s
  obtain ⟨frame, hseats, hsetup⟩ : floorFrame v c ∧ c.seats = v.seats ∧ c.floor.setup = v.floor.setup :=
    hc ▸ counted_frame limitsFirst v
  have hexec : exec (.superframeStart limitsFirst) before = .next (copyThreshold (capture c)) := by
    rw [hc, hv, h]; rfl
  have hmixer : c.mixer = s.mixer := frame.mixer.trans opened.mixer
  have hclock : c.clock = { s.clock with time := advanceTime s.clock.time } := frame.clock.trans opened.clock
  have hsetups : c.floor.setup = s.floor.setup := by rw [hsetup, opened.floor]
  have hbound := opened.boundary
  rw [hboundary, ← frame.due] at hbound
  refine ⟨copyThreshold (capture c), hexec, frame.time.trans opened.time, hclock, ?_⟩
  obtain ⟨t, ht⟩ : ∃ t, t = copyThreshold (capture c) := ⟨_, rfl⟩
  obtain ⟨tmixer, tfloor, tlog, tnotices, tseats⟩ :
      t.mixer = { landBank s.mixer with
        capGains := activeBank (landBank s.mixer), capSeats := contributionSet c
        capFactor := nomFactor (landBank s.mixer) (contributionSet c).length } ∧
      t.floor = c.floor ∧ t.log = c.log ∧ t.notices = c.notices ∧ t.seats = c.seats := by
    rw [ht, ← hmixer]; exact ⟨rfl, rfl, rfl, rfl, rfl⟩
  obtain ⟨tgate, tdue, tclock, tport, tsched⟩ :
      (t.gate.threshold = c.floor.setup.threshold ∧ t.gate.hold = c.floor.setup.hold) ∧
      t.due = c.due ∧ t.clock = c.clock ∧ t.port = c.port ∧ t.sched = c.sched := by
    rw [ht]; exact ⟨⟨rfl, rfl⟩, rfl, rfl, rfl, rfl⟩
  obtain ⟨tlinks, tscreens, tdisplays⟩ :
      t.links = c.links ∧ t.screens = c.screens ∧ t.displays = c.displays := by
    rw [ht]; exact ⟨rfl, rfl, rfl⟩
  have hmem : ∀ n, n ∈ contributionSet c ↔ hasEntry t.floor.openList n = true ∧ takesPart (presenceOf t n) = true := by
    intro n
    rw [mem_contributionSet, tfloor]; unfold presenceOf; rw [tseats]
  have ttime : t.clock.time = advanceTime s.clock.time := by rw [tclock, hclock]
  rw [← ht, tmixer, ttime, tdue, hbound]
  refine ⟨rfl, rfl, rfl, rfl, rfl, rfl, hmem, fun hnil => ?_, fun k hk => ?_, by rw [tgate.1, hsetups],
    by rw [tgate.2, hsetups], fun hlf => ?_, fun hlf u hu => ?_, fun hz => if_pos hz, fun hz => ?_,
    by rw [tseats, hseats, opened.seats], by rw [tport, frame.port, opened.port],
    by rw [tsched, frame.sched, opened.sched], by rw [tlinks, frame.links, opened.links],
    by rw [tscreens, frame.screens, opened.screens], by rw [tdisplays, frame.displays, opened.displays],
    fun r hr h1 h2 h3 h4 h5 => ?_⟩
  · dsimp only at hnil ⊢
    rw [hnil]; rfl
  · dsimp only at hk ⊢
    rw [hk]; exact nomFactor_succ _ k
  · have hcv : c = v := by rw [hc, hlf]; rfl
    rw [tfloor, tlog, tnotices, hcv, opened.floor, opened.log, opened.notices]
    exact ⟨rfl, rfl, rfl⟩
  · have hcu : c = u := by rw [hc, hlf, hv, hu]; rfl
    rw [tfloor, tlog, tnotices, hcu]
    exact ⟨rfl, rfl, rfl⟩
  · exact if_neg (fun hno => hz.elim (fun h => h hno.1) (fun h => h hno.2))
  · rw [← hr]; exact advanceTime_spec h1 h2 h3 h4 h5

end Sys2Proof.Machine
end

section
/-!
PROOFS. THE SUPERFRAME END: O27 (R19, R106, R107, R111, R126, R146, R193).
-/

namespace Sys2Proof.Machine

theorem settleEnd_rows (s : State) : settleEnd s =
    settleQuiet (settleEmitter (settleVoice (Statements.expired (Statements.afterRows Statements.lockRows
      (Statements.afterRows [.minuteBoundary] s))))) := by
  rw [afterRows_lockRows, expired_eq]; rfl

/-! ### The counters -/

theorem countDown_of_high {n : Nat} (h : 1 < n) : countDown n = n - 1 := if_pos h

theorem countDown_of_low {n : Nat} (h : n ≤ 1) : countDown n = n := if_neg (Nat.not_lt.mpr h)

/-- A message whose time is at its last count, or that stays until cleared, does not move (R126). -/
theorem countMessage_of_low {m : Message} (h : ∀ k, m.left = some k → k ≤ 1) : countMessage (some m) = some m := by
  have hleft : m.left.map countDown = m.left := by
    cases hm : m.left with
    | none => rfl
    | some k => exact congrArg some (countDown_of_low (h k hm))
  unfold countMessage
  rw [Option.map_some, hleft]

theorem countMessage_of_high {m : Message} {k : Nat} (hm : m.left = some k) (h : 1 < k) :
    countMessage (some m) = some { m with left := some (k - 1) } := by
  unfold countMessage
  rw [Option.map_some, hm, Option.map_some, countDown_of_high h]

theorem messageDue_iff {m : Option Message} : messageDue m = true ↔ ∃ x, m = some x ∧ x.left = some 1 := by
  unfold messageDue
  cases m with
  | none => simp
  | some x => simp

/-! ### The end of one superframe -/

/-- What the end of a superframe leaves, `u` being the state in which what it owes is taken. -/
structure Ended (u t : State) : Prop where
  lastPeak : t.gate.lastPeak = u.gate.forming
  meters : ∀ i, look t.gate.meters i = max (look u.gate.meters i) (look u.gate.forming i)
  forming : ∀ i, look t.gate.forming i = 0
  filters : t.gate.filters = u.gate.filters
  seats : ∀ n, look t.seats n = { look u.seats n with refused := countDown (look u.seats n).refused }
  messages : ∀ n, look t.screens.messages n = countMessage (look u.screens.messages n)
  records : ∀ d, look t.displays.records d =
    { look u.displays.records d with timer := countDown (look u.displays.records d).timer }
  refusedDue : t.due.refused = allSeats.filter (fun n => decide ((look u.seats n).refused = 1))
  messagesDue : t.due.messages = allSeats.filter (fun n => messageDue (look u.screens.messages n))
  displaysDue : t.due.displays = allDisplays.filter (fun d => decide ((look u.displays.records d).timer = 1))
  quietDue : t.due.quiet = true
  voiceDue : t.due.voice = some { stamp := u.time.stamp, threshold := u.gate.threshold, hold := u.gate.hold }
  notices : t.notices = u.notices
  floor : t.floor = u.floor
  log : t.log = u.log
  port : t.port = u.port
  time : t.time = u.time

/-- What the counts of a superframe leave. -/
structure Counted (u c : State) : Prop where
  gate : c.gate = u.gate
  seats : c.seats = u.seats.map (fun x => { x with refused := countDown x.refused })
  screens : c.screens = { u.screens with messages := u.screens.messages.map countMessage }
  records : c.displays.records = u.displays.records.map (fun r => { r with timer := countDown r.timer })
  due : c.due =
    { u.due with
      refused := allSeats.filter (fun n => decide ((look u.seats n).refused = 1))
      messages := allSeats.filter (fun n => messageDue (look u.screens.messages n))
      displays := allDisplays.filter (fun d => decide ((look u.displays.records d).timer = 1))
      quiet := true }
  notices : c.notices = u.notices
  floor : c.floor = u.floor
  log : c.log = u.log
  port : c.port = u.port
  time : c.time = u.time

theorem counted_countSuperframe (w : State) : Counted w (countSuperframe w) :=
  ⟨rfl, rfl, rfl, rfl, rfl, rfl, rfl, rfl, rfl, rfl⟩

theorem ended_of_counted {u c : State} (h : Counted u c) : Ended u (voiceComesDue (completePeaks c)) where
  lastPeak := h.gate ▸ rfl
  meters i := h.gate ▸ look_ofFn _ i
  forming i := look_replicate 66 0 i
  filters := h.gate ▸ rfl
  seats n := (congrArg (fun v => look v n) h.seats).trans (look_map _ _ n)
  messages n := (congrArg (fun v => look v.messages n) h.screens).trans (look_map _ _ n)
  records d := (congrArg (fun v => look v d) h.records).trans (look_map _ _ d)
  refusedDue := congrArg Due.refused h.due
  messagesDue := congrArg Due.messages h.due
  displaysDue := congrArg Due.displays h.due
  quietDue := congrArg Due.quiet h.due
  voiceDue := by rw [← h.time, ← h.gate]; rfl
  notices := h.notices
  floor := h.floor
  log := h.log
  port := h.port
  time := h.time

theorem ended_superframeEnd (u : State) :
    Ended u (voiceComesDue (completePeaks (countSuperframe (reachBoundary u)))) := by
  have h := counted_countSuperframe (reachBoundary u)
  exact ended_of_counted ⟨h.gate, h.seats, h.screens, h.records, h.due, h.notices, h.floor, h.log, h.port, h.time⟩

/-! ### The quiet count -/

theorem settleQuiet_of_idle {s : State} (h : s.due.quiet = false) : settleQuiet s = s := if_neg (by rw [h]; nofun)

theorem settleQuiet_stepped {s : State} (h : s.due.quiet = true) : settleQuiet s =
    (s.withNotices (if s.notices.quiet < 32 then quietStep s.notices s.log.unread else s.notices)).withDue
      { s.due with quiet := false } := if_pos h

/-- The start of a superframe leaves no step of the quiet count behind. -/
theorem superframeStart_quiet (s : State) : (superframeStart false s).due.quiet = false := by
  have hquiet : (settleStart s).due.quiet = false := by unfold settleStart; rw [settleQuiet_due]
  have heq : superframeStart false s =
      copyThreshold (capture (oweCounts (tickClock (nextSuperframe (reachBoundary (settleStart s)))))) := rfl
  rw [heq, tickClock_eq]
  generalize settleStart s = u at *
  exact hquiet

/-- Settles O27: the counters, the peaks and the marks of the end, and the step of the quiet count. -/
theorem superframeEndCompletesPeaks : Obligations.SuperframeEndCompletesPeaks := by
  refine ⟨settleEnd_rows, fun s h => ?_, fun before s h => ?_, fun s h => settleQuiet_of_idle h,
    fun s h => settleQuiet_stepped h, fun s h hq => ?_⟩
  · refine congrArg Host.Outcome.next ?_
    unfold superframeEnd; rw [h]
  · have hended := ended_superframeEnd s
    have hexec : exec .superframeEnd before =
        .next (voiceComesDue (completePeaks (countSuperframe (reachBoundary s)))) := by rw [h]; rfl
    generalize voiceComesDue (completePeaks (countSuperframe (reachBoundary s))) = t at *
    refine ⟨t, hexec, hended.lastPeak, hended.meters, hended.forming, fun n hn => ?_, fun n hn => ?_,
      fun n m k hm hk hlt => ?_, fun n m hm hlow => ?_, fun n hn => ?_, fun d hd => ?_, fun d hd => ?_, fun n => ?_,
      fun n => ?_, fun d => ?_, hended.notices, hended.quietDue, hended.voiceDue, hended.filters, hended.floor,
      hended.log, hended.port, hended.time⟩
    · rw [hended.seats, countDown_of_high hn]
    · rw [hended.seats, countDown_of_low hn]
    · rw [hended.messages, hm]; exact countMessage_of_high hk hlt
    · rw [hended.messages, hm]; exact countMessage_of_low hlow
    · rw [hended.messages, hn]; rfl
    · rw [hended.records, countDown_of_high hd]
    · rw [hended.records, countDown_of_low hd]
    · rw [hended.refusedDue, List.mem_filter, decide_eq_true_eq]
      exact ⟨fun hx => hx.2, fun hx => ⟨List.mem_finRange n, hx⟩⟩
    · rw [hended.messagesDue, List.mem_filter, messageDue_iff]
      exact ⟨fun hx => hx.2, fun hx => ⟨List.mem_finRange n, hx⟩⟩
    · rw [hended.displaysDue, List.mem_filter, decide_eq_true_eq]
      exact ⟨fun hx => hx.2, fun hx => ⟨List.mem_finRange d, hx⟩⟩
  · have hsettled : settleStart s = settleQuiet s := by unfold settleStart; rw [h]
    obtain ⟨hlog, hnotices, -, -⟩ := superframeStart_parts s
    rw [hsettled, settleQuiet_stepped hq] at hlog hnotices
    refine ⟨superframeStart false s, rfl, superframeStart_quiet s, hlog, fun hhigh => ?_, fun hlow => ?_⟩
    · exact hnotices.trans (if_neg (Nat.not_lt.mpr hhigh))
    · exact hnotices.trans (if_pos hlow)

end Sys2Proof.Machine
end

section
/-!
PROOFS. THE LINKS: a change of lock state (O20), the trunk's frame (O18) and the lock runs (O19).
-/

namespace Sys2Proof.Machine

/-! ### A change of lock state -/

/-- A change of lock state is logged and raises LINK. -/
def lockLogged (e : LogEvent) (w : State) : State := (record e none w).withNotices (raiseLink (record e none w).notices)

section lockLogged
variable (e : LogEvent) (w : State)

theorem lockLogged_frame : (lockLogged e w).floor = w.floor ∧ (lockLogged e w).seats = w.seats ∧
    (lockLogged e w).port = w.port ∧ (lockLogged e w).links = w.links ∧
    (lockLogged e w).notices.summary.link = true := ⟨rfl, rfl, rfl, rfl, rfl⟩

theorem lockLogged_newest : newestIs (lockLogged e w) e none (meetingId w.floor.meeting) :=
  newestIs_record e none w

/-- The rise of LINK makes the notice pending, and a notice that was pending stays so (R194). -/
theorem lockLogged_pending
    (h : w.notices.pending = true ∨ w.notices.summary.link = false ∧ w.notices.mask.link = true) :
    (lockLogged e w).notices.pending = true := by
  have hpending : (lockLogged e w).notices.pending =
      ((w.notices.pending ||
        (w.notices.mask.log && decide (w.log.unread < 256) && decide (w.log.unread + 1 = w.notices.trigger))) ||
        (!w.notices.summary.link && w.notices.mask.link)) := rfl
  rw [hpending]
  rcases h with h | ⟨h1, h2⟩
  · rw [h]; rfl
  · rw [h1, h2]; exact Bool.or_true _

end lockLogged

/-- What a trunk that unlocks gives back leaves the notices but for the flag, which it never clears. -/
theorem releaseSlot_notices (s : State) : (releaseSlot s).notices.summary = s.notices.summary ∧
    (releaseSlot s).notices.mask = s.notices.mask ∧
    (s.notices.pending = true → (releaseSlot s).notices.pending = true) := by
  unfold releaseSlot
  split
  · exact ⟨rfl, rfl, id⟩
  · split
    · exact ⟨rfl, rfl, id⟩
    · exact ⟨rfl, rfl, id⟩
  · exact ⟨rfl, rfl, fun _ => rfl⟩
  · exact ⟨rfl, rfl, id⟩

theorem releaseSlot_of_none {s : State} (h : s.port.slot = none) : releaseSlot s = s := by
  unfold releaseSlot; rw [h]

theorem releaseSlot_of_notice {s : State} {x : Notice} (h : s.port.slot = some (.notice x)) :
    releaseSlot s = (s.withPort { s.port with slot := none }).withNotices { s.notices with pending := true } := by
  unfold releaseSlot; rw [h]

theorem releaseSlot_of_answer {s : State} {a : Answer} (h : s.port.slot = some (.answer a))
    (hlen : s.port.answers.length < 8) :
    releaseSlot s = s.withPort { s.port with answers := a :: s.port.answers, slot := none } := by
  unfold releaseSlot; rw [h]; exact if_pos hlen

/-- The links after the change that a link owes. -/
def linkChanged (link : Link) (s : State) : State :=
  s.withLinks (setLink s.links link (lockTo (!(linkState s.links link).locked) (linkState s.links link)))

theorem changeLock_of_unlocked {link : Link} {s : State} (h : (linkState s.links link).locked = false) :
    changeLock link s = lockLogged (.chainLock link) (linkChanged link s) := by
  unfold changeLock linkChanged; dsimp only; rw [h]
  rw [if_neg (by nofun), if_neg (fun hc => by cases hc.2)]; rfl

theorem changeLock_of_chain {link : Link} {s : State} (h : (linkState s.links link).locked = true)
    (hchain : link ≠ .trunk) :
    changeLock link s = lockLogged (.chainUnlock link) (linkChanged link s) := by
  unfold changeLock linkChanged; dsimp only; rw [h]
  rw [if_pos rfl, if_neg (fun hc => hchain hc.1)]; rfl

theorem changeLock_of_trunk {s : State} (h : (linkState s.links .trunk).locked = true) :
    changeLock .trunk s = lockLogged (.chainUnlock .trunk) (releaseSlot (linkChanged .trunk s)) := by
  unfold changeLock linkChanged; dsimp only; rw [h]
  rw [if_pos rfl, if_pos ⟨rfl, rfl⟩]; rfl

theorem exec_chainLock {link : Link} {s : State} (hc : (linkState s.links link).change = true)
    (hl : (linkState s.links link).locked = false) : exec (.chainLock link) s = .next (changeLock link s) := by
  refine congrArg Host.Outcome.next ?_
  rw [if_neg (by rw [hl]; nofun)]; exact if_pos hc

theorem exec_chainUnlock {link : Link} {s : State} (hc : (linkState s.links link).change = true)
    (hl : (linkState s.links link).locked = true) : exec (.chainUnlock link) s = .next (changeLock link s) := by
  refine congrArg Host.Outcome.next ?_
  rw [if_pos hl]; exact if_pos hc

theorem changeLock_state (link : Link) (s : State) :
    linkState (changeLock link s).links link = lockTo (!(linkState s.links link).locked) (linkState s.links link) ∧
      ∀ other, other ≠ link → linkState (changeLock link s).links other = linkState s.links other := by
  rw [changeLock_links]
  exact ⟨by rw [linkState_setLink, if_pos rfl], fun other h => by rw [linkState_setLink, if_neg h]⟩

/-- A change is logged in a state that differs from `s` in the links, the slot, the answers and the flag. -/
structure GivenBack (s w : State) : Prop where
  floor : w.floor = s.floor
  seats : w.seats = s.seats
  summary : w.notices.summary = s.notices.summary
  mask : w.notices.mask = s.notices.mask
  pending : s.notices.pending = true → w.notices.pending = true

theorem givenBack_linkChanged (link : Link) (s : State) : GivenBack s (linkChanged link s) :=
  ⟨rfl, rfl, rfl, rfl, id⟩

theorem givenBack_releaseSlot (s : State) : GivenBack s (releaseSlot (linkChanged .trunk s)) := by
  obtain ⟨h1, h2, h3⟩ := releaseSlot_notices (linkChanged .trunk s)
  obtain ⟨p, pending, heq, -⟩ := releaseSlot_eq (linkChanged .trunk s)
  exact ⟨by rw [heq]; rfl, by rw [heq]; rfl, h1, h2, h3⟩

theorem GivenBack.logged {s w : State} (h : GivenBack s w) (e : LogEvent) :
    (lockLogged e w).notices.summary.link = true ∧
      (s.notices.pending = true ∨ s.notices.summary.link = false ∧ s.notices.mask.link = true →
        (lockLogged e w).notices.pending = true) ∧
      newestIs (lockLogged e w) e none (meetingId s.floor.meeting) ∧ (lockLogged e w).floor = s.floor ∧
      (lockLogged e w).seats = s.seats := by
  obtain ⟨hfloor, hseats, -, -, hlink⟩ := lockLogged_frame e w
  refine ⟨hlink, fun hp => lockLogged_pending e w ?_, h.floor ▸ lockLogged_newest e w, hfloor.trans h.floor,
    hseats.trans h.seats⟩
  rw [h.summary, h.mask]
  exact hp.imp_left h.pending

/-- Settles O20: the change as a record and a rise of LINK, by the link and its lock state. -/
theorem lockChangeIsLogged : Obligations.LockChangeIsLogged := by
  intro link s hc
  obtain ⟨hstate, hothers⟩ := changeLock_state link s
  refine ⟨fun hl => ?_, fun hl => ?_⟩
  · obtain ⟨h1, h2, h3, h4, h5⟩ := (givenBack_linkChanged link s).logged (.chainLock link)
    rw [← changeLock_of_unlocked hl] at h1 h2 h3 h4 h5
    refine ⟨_, exec_chainLock hc hl, ?_, ?_, ?_, h1, h2, h3, h4, h5, ?_, hothers⟩
    · rw [hstate, hl]; rfl
    · rw [hstate]; rfl
    · rw [hstate]; rfl
    · rw [changeLock_of_unlocked hl]; rfl
  · have hlocked : (linkState (changeLock link s).links link).locked = false ∧
        (linkState (changeLock link s).links link).goodRun = 0 ∧
        (linkState (changeLock link s).links link).badRun = 0 := by
      rw [hstate, hl]; exact ⟨rfl, rfl, rfl⟩
    obtain ⟨g1, g2, g3⟩ := hlocked
    by_cases hlink : link = .trunk
    · subst hlink
      obtain ⟨h1, h2, h3, h4, h5⟩ := (givenBack_releaseSlot s).logged (.chainUnlock .trunk)
      rw [← changeLock_of_trunk hl] at h1 h2 h3 h4 h5
      refine ⟨_, exec_chainUnlock hc hl, g1, g2, g3, h1, h2, h3, h4, h5, fun hn => ?_,
        fun _ => ⟨fun x hx => ⟨?_, ?_⟩, fun a ha hlen => ?_⟩, hothers⟩
      · rw [changeLock_of_trunk hl, releaseSlot_of_none (s := linkChanged .trunk s) (hn.resolve_left (not_not.mpr rfl))]
        rfl
      · rw [changeLock_of_trunk hl, releaseSlot_of_notice (s := linkChanged .trunk s) hx]; rfl
      · rw [changeLock_of_trunk hl, releaseSlot_of_notice (s := linkChanged .trunk s) hx]
        exact lockLogged_pending _ _ (Or.inl rfl)
      · rw [changeLock_of_trunk hl, releaseSlot_of_answer (s := linkChanged .trunk s) ha hlen]; rfl
    · obtain ⟨h1, h2, h3, h4, h5⟩ := (givenBack_linkChanged link s).logged (.chainUnlock link)
      rw [← changeLock_of_chain hl hlink] at h1 h2 h3 h4 h5
      refine ⟨_, exec_chainUnlock hc hl, g1, g2, g3, h1, h2, h3, h4, h5, fun _ => ?_, fun ht => absurd ht hlink,
        hothers⟩
      rw [changeLock_of_chain hl hlink]; rfl

end Sys2Proof.Machine
end

section
/-!
PROOFS. INCOMING FRAMES: what a report leaves alone, the trunk's frame (O18) and the lock runs (O19).
-/

namespace Sys2Proof.Machine

/-! ### What a report leaves alone -/

/-- A relation across the writes of the Floor Controller that also holds across a write to the seat units. -/
structure ReportClosed (R : State → State → Prop) : Prop extends FloorClosed R where
  seats (s : State) (x : Vector SeatUnit 64) : R s (s.withSeats x)

section reports
variable {R : State → State → Prop} (hR : ReportClosed R)
include hR

theorem ReportClosed.rel_missingReport (n : Seat) (s : State) : R s (missingReport n s) := by
  unfold missingReport; split
  · exact hR.refl s
  · exact hR.seats s _
  · exact hR.seats s _
  · exact hR.seats s _
  · split
    · exact hR.seats s _
    · exact hR.trans (hR.seats s _) (hR.trans (hR.rel_floorSeatLost n _)
        (hR.trans (hR.rel_record .seatLost (some n) _) (hR.seats _ _)))

theorem ReportClosed.rel_sampleButton (n : Seat) (r : Report) (s : State) (b : ButtonName) :
    R s (sampleButton n r s b) := by
  unfold sampleButton; dsimp only; split
  · exact hR.seats s _
  · exact hR.trans (hR.seats s _) (hR.rel_buttonEvent _ _ _ _ _)

theorem ReportClosed.rel_sampleButtons (n : Seat) (r : Report) (s : State) : R s (sampleButtons n r s) :=
  hR.rel_foldl _ (fun t b => hR.rel_sampleButton n r t b) _ s

/-- Only a seat that joins has its shown image written (R12). -/
theorem ReportClosed.rel_takeReport (hscreens : ∀ (s : State) (x : Screens), R s (s.withScreens x)) (n : Seat)
    (r : Option Report) (s : State) : R s (takeReport n r s) := by
  cases r with
  | none => exact hR.rel_missingReport n s
  | some r =>
    refine hR.trans ?_ (hR.seats _ _)
    split
    · exact hR.seats s _
    · exact hR.seats s _
    · exact hR.trans (hR.seats s _) (hR.trans (hscreens _ _) (hR.rel_record .seatJoin (some n) _))
    · exact hR.rel_sampleButtons n r s
    · exact hR.trans (hR.seats s _) (hR.rel_sampleButtons n r _)

end reports

/-- The blocks that no report reaches. -/
structure ReportKept (s t : State) : Prop where
  time : t.time = s.time
  links : t.links = s.links
  audio : t.audio = s.audio
  mixer : t.mixer = s.mixer
  displays : t.displays = s.displays
  clock : t.clock = s.clock
  sched : t.sched = s.sched
  port : t.port = s.port

theorem reportClosed_reportKept : ReportClosed ReportKept where
  refl _ := ⟨rfl, rfl, rfl, rfl, rfl, rfl, rfl, rfl⟩
  trans h k := ⟨k.time.trans h.time, k.links.trans h.links, k.audio.trans h.audio, k.mixer.trans h.mixer,
    k.displays.trans h.displays, k.clock.trans h.clock, k.sched.trans h.sched, k.port.trans h.port⟩
  append _ _ _ _ := ⟨rfl, rfl, rfl, rfl, rfl, rfl, rfl, rfl⟩
  floor _ _ := ⟨rfl, rfl, rfl, rfl, rfl, rfl, rfl, rfl⟩
  gate _ _ := ⟨rfl, rfl, rfl, rfl, rfl, rfl, rfl, rfl⟩
  refuse _ _ := ⟨rfl, rfl, rfl, rfl, rfl, rfl, rfl, rfl⟩
  seats _ _ := ⟨rfl, rfl, rfl, rfl, rfl, rfl, rfl, rfl⟩

theorem reportKept_takeReport (n : Seat) (r : Option Report) (s : State) : ReportKept s (takeReport n r s) :=
  reportClosed_reportKept.rel_takeReport (fun _ _ => ⟨rfl, rfl, rfl, rfl, rfl, rfl, rfl, rfl⟩) n r s

/-! ### The lock runs -/

theorem linkState_noteFrame (link other : Link) (good : Bool) (s : State) :
    linkState (noteFrame link good s).links other =
      if other = link then { linkState s.links link with sfBad := (linkState s.links link).sfBad || !good }
      else linkState s.links other := linkState_setLink ..

/-- The lock runs of one link, judged with the last frame of the superframe (R7). -/
theorem linkState_endLink (link other : Link) (s : State) :
    linkState (endLink link s).links other =
      if other = link ∧ s.time.frame = 0 then judgeLink (linkState s.links link) else linkState s.links other := by
  have hindex : partnerIndex s = 31 ↔ s.time.frame = 0 := by
    unfold partnerIndex
    generalize s.time.frame = k
    revert k; decide
  unfold endLink
  by_cases hf : s.time.frame = 0
  · rw [if_pos (hindex.mpr hf)]
    refine (linkState_setLink ..).trans ?_
    by_cases ho : other = link
    · rw [if_pos ho, if_pos ⟨ho, hf⟩]
    · rw [if_neg ho, if_neg (fun h => ho h.1)]
  · rw [if_neg (fun h => hf (hindex.mp h)), if_neg (fun h => hf h.2)]

/-- A frame's links: the frame noted, then judged. -/
structure LinksOfFrame (link : Link) (good : Bool) (s t : State) : Prop where
  eq : ∀ other, linkState t.links other =
    if other = link then
      if s.time.frame = 0 then
        judgeLink { linkState s.links link with sfBad := (linkState s.links link).sfBad || !good }
      else { linkState s.links link with sfBad := (linkState s.links link).sfBad || !good }
    else linkState s.links other

theorem linksOfFrame_endLink {link : Link} {good : Bool} {s v : State}
    (hlinks : v.links = (noteFrame link good s).links) (htime : v.time = s.time) :
    LinksOfFrame link good s (endLink link v) := by
  refine ⟨fun other => ?_⟩
  rw [linkState_endLink, htime, hlinks, linkState_noteFrame, linkState_noteFrame, if_pos rfl]
  by_cases ho : other = link
  · rw [if_pos ho]
    by_cases hf : s.time.frame = 0
    · rw [if_pos ⟨ho, hf⟩, if_pos hf, if_pos ho]
    · rw [if_neg (fun h => hf h.2), if_neg hf, if_pos ho]
  · rw [if_neg (fun h => ho h.1), if_neg ho, if_neg ho]

theorem linksOfFrame_chain (link : Link) (bytes : List Byte) (s : State) :
    LinksOfFrame link (goodFrame 86 (s.time.frame - 1) bytes) s (chainFrameIn link bytes s) := by
  have kept := reportKept_takeReport (seatAt link (partnerIndex s))
    (if goodFrame 86 (partnerIndex s) bytes && (linkState s.links link).locked then report? (bytes.drop 83) else none)
    (takeMics link (goodFrame 86 (partnerIndex s) bytes && (linkState s.links link).locked) bytes
      (noteFrame link (goodFrame 86 (partnerIndex s) bytes) s))
  exact linksOfFrame_endLink kept.links kept.time

theorem linksOfFrame_trunk (bytes : List Byte) (s : State) :
    LinksOfFrame .trunk (goodFrame 520 (s.time.frame - 1) bytes) s (trunkFrameIn bytes s) :=
  linksOfFrame_endLink rfl rfl

/-! ### A cell that waits -/

theorem takeCell_of_none {s : State} (h : s.port.arrived = none) : takeCell s = s := by
  unfold takeCell; rw [h]

theorem offerCell_port (c : CommandCell) (s : State) :
    ∃ p, offerCell c s = s.withPort p ∧ p.arrived = s.port.arrived := by
  unfold offerCell; split
  · exact ⟨_, rfl, rfl⟩
  · split
    · exact ⟨_, rfl, rfl⟩
    · exact ⟨s.port, rfl, rfl⟩

/-- The cell that waited is gone, and only the Command Port has moved. -/
theorem takeCell_port (s : State) : ∃ p, takeCell s = s.withPort p ∧ p.arrived = none := by
  cases h : s.port.arrived with
  | none => exact ⟨s.port, takeCell_of_none h, h⟩
  | some cell =>
    unfold takeCell; rw [h]; dsimp only
    split
    · next c _ =>
      obtain ⟨p, hp, harrived⟩ := offerCell_port c (s.withPort { s.port with arrived := none })
      exact ⟨p, hp, harrived⟩
    · exact ⟨_, rfl, rfl⟩

theorem judgeLink_cases (l : LinkState) :
    (l.locked = false → l.sfBad = true → judgeLink l = { l with sfBad := false, goodRun := 0 }) ∧
    (l.locked = false → l.sfBad = false → l.goodRun < 3 →
      judgeLink l = { l with sfBad := false, goodRun := l.goodRun + 1 }) ∧
    (l.locked = false → l.sfBad = false → l.goodRun = 3 → judgeLink l = { l with sfBad := false, change := true }) ∧
    (l.locked = true → l.sfBad = false → judgeLink l = { l with sfBad := false, badRun := 0 }) ∧
    (l.locked = true → l.sfBad = true → l.badRun = 0 → judgeLink l = { l with sfBad := false, badRun := 1 }) ∧
    (l.locked = true → l.sfBad = true → l.badRun = 1 →
      judgeLink l = { l with sfBad := false, change := true }) := by
  unfold judgeLink
  refine ⟨fun h1 h2 => ?_, fun h1 h2 h3 => ?_, fun h1 h2 h3 => ?_, fun h1 h2 => ?_, fun h1 h2 h3 => ?_,
    fun h1 h2 h3 => ?_⟩
  · simp only [h1, h2, if_true, if_false, Bool.false_eq_true]
  · simp only [h1, h2, h3, if_true, if_false, Bool.false_eq_true]
  · simp only [h1, h2, h3, if_false, Bool.false_eq_true, Nat.lt_irrefl]
  · simp only [h1, h2, if_true, if_false, Bool.false_eq_true]
  · simp only [h1, h2, h3, if_true]
  · simp only [h1, h2, h3, if_true, if_false, Nat.one_ne_zero]

/-- Settles O19: the frame noted and judged, from the links of a chain's or the trunk's frame. -/
theorem linkJudgedAtFrame31 : Obligations.LinkJudgedAtFrame31 := by
  intro link bytes s
  obtain ⟨t, hexec, hlinks⟩ : ∃ t, exec (.incomingFrame link bytes) s = .next t ∧
      LinksOfFrame link (goodFrame (if link = .trunk then 520 else 86) (s.time.frame - 1) bytes) s t := by
    cases link with
    | trunk =>
      obtain ⟨p, hp, -⟩ := takeCell_port s
      have h := linksOfFrame_trunk bytes (s.withPort p)
      exact ⟨trunkFrameIn bytes (takeCell s), rfl, by rw [hp]; exact ⟨h.eq⟩⟩
    | chainA => exact ⟨_, rfl, linksOfFrame_chain .chainA bytes s⟩
    | chainB => exact ⟨_, rfl, linksOfFrame_chain .chainB bytes s⟩
  refine ⟨t, hexec, fun other ho => by rw [hlinks.eq, if_neg ho], fun l bad hl hbad => ?_⟩
  have hstate := hlinks.eq link
  rw [if_pos rfl, ← hl, ← hbad] at hstate
  obtain ⟨h1, h2, h3, h4, h5, h6⟩ := judgeLink_cases { l with sfBad := bad }
  refine ⟨fun hf => by rw [hstate, if_neg hf], fun hf => ?_⟩
  rw [if_pos hf] at hstate
  rw [hstate]
  exact ⟨h1, h2, h3, h4, h5, h6⟩

end Sys2Proof.Machine
end

section
/-!
PROOFS. THE TRUNK'S FRAME: O18 (R6, R9, R215).
-/

namespace Sys2Proof.Machine

/-- Five bytes are two samples (R215). -/
theorem unpackSamples_pair {l : List Byte} (h : l.length = 5) :
    [(unpackSamples l).getD 0 0, (unpackSamples l).getD 1 0] = unpackSamples l := by
  match l, h with
  | [_, _, _, _, _], _ => rfl

theorem length_of_goodFrame {len : Nat} {i : Fin 32} {l : List Byte} (h : goodFrame len i l = true) :
    l.length = len := by
  unfold goodFrame at h
  simp only [Bool.and_eq_true, decide_eq_true_eq] at h
  exact h.1.1.1

/-- The last frame of a superframe moves the links only. -/
theorem endLink_links (link : Link) (s : State) : ∃ l, endLink link s = s.withLinks l := by
  unfold endLink; split
  · exact ⟨_, rfl⟩
  · exact ⟨s.links, rfl⟩

/-- The trunk's frame by what makes it usable (R6, R9). -/
theorem trunkFrameIn_eq (bytes : List Byte) (s : State) (usable : Bool)
    (h : usable = (goodFrame 520 (s.time.frame - 1) bytes && s.links.trunk.locked)) :
    ∃ l, trunkFrameIn bytes s =
      ((s.withAudio
          { s.audio with
            far := if usable then (unpackSamples ((bytes.drop 3).take 5)).getD 0 0 else 0
            announce := if usable then (unpackSamples ((bytes.drop 3).take 5)).getD 1 0 else 0 }).withPort
        { s.port with arrived := if usable then some (bytes.drop 8) else none }).withLinks l := by
  unfold trunkFrameIn
  dsimp only
  rw [show (goodFrame 520 (partnerIndex s) bytes && s.links.trunk.locked) = usable from h.symm]
  obtain ⟨l, hl⟩ := endLink_links .trunk
    (((noteFrame .trunk (goodFrame 520 (partnerIndex s) bytes) s).withAudio
      { s.audio with
        far := if usable then (unpackSamples ((bytes.drop 3).take 5)).getD 0 0 else 0
        announce := if usable then (unpackSamples ((bytes.drop 3).take 5)).getD 1 0 else 0 }).withPort
      { s.port with arrived := if usable then some (bytes.drop 8) else none })
  exact ⟨l, hl⟩

/-- Settles O18: a cell that waits is taken first, and the frame delivers by its usability. -/
theorem trunkFrameDelivers : Obligations.TrunkFrameDelivers := by
  refine ⟨fun bytes s u h => ?_, fun bytes s hnone => ⟨fun hgood hlocked => ?_, fun hbad => ?_⟩⟩
  · have hu : takeCell s = u := Host.Outcome.next.inj h
    obtain ⟨p, hp, harrived⟩ := takeCell_port s
    have hnone : u.port.arrived = none := by rw [← hu, hp]; exact harrived
    exact ⟨hnone, congrArg (fun x => Host.Outcome.next (trunkFrameIn bytes x)) (hu.trans (takeCell_of_none hnone).symm)⟩
  · obtain ⟨l, hl⟩ := trunkFrameIn_eq bytes s true (by rw [hgood, hlocked]; rfl)
    have hlen : ((bytes.drop 3).take 5).length = 5 := by
      rw [List.length_take, List.length_drop, length_of_goodFrame hgood]; rfl
    refine ⟨trunkFrameIn bytes (takeCell s), rfl, ?_⟩
    rw [takeCell_of_none hnone, hl]
    exact ⟨unpackSamples_pair hlen, rfl, rfl, rfl, rfl, rfl, rfl⟩
  · have husable : (goodFrame 520 (s.time.frame - 1) bytes && s.links.trunk.locked) = false := by
      rw [Bool.and_eq_false_iff]; exact hbad
    obtain ⟨l, hl⟩ := trunkFrameIn_eq bytes s false husable.symm
    have hport : ({ s.port with arrived := none } : Port) = s.port := by rw [← hnone]
    refine ⟨trunkFrameIn bytes (takeCell s), rfl, ?_⟩
    rw [takeCell_of_none hnone, hl]
    exact ⟨rfl, rfl, rfl, hport, rfl, rfl, rfl⟩

end Sys2Proof.Machine
end

section
/-!
PROOFS. THE REPORTS OF A SEAT: missing ones (O15) and valid ones (O16) (R10 to R17, R51, R60).
-/

namespace Sys2Proof.Machine

/-! ### The meeting stays -/

theorem meeting_foldl {α : Type} {step : State → α → State} (h : ∀ s a, (step s a).floor.meeting = s.floor.meeting)
    (l : List α) (s : State) : (l.foldl step s).floor.meeting = s.floor.meeting := by
  induction l generalizing s with
  | nil => rfl
  | cons a l ih => exact (ih _).trans (h s a)

theorem voiceCheck_meeting (s : State) (n : Seat) : (voiceCheck s n).floor.meeting = s.floor.meeting := by
  unfold voiceCheck; split
  · rfl
  · unfold closeVoiceHold; split
    · rfl
    · rfl

theorem holdEnd_meeting (s : State) : (holdEnd s).floor.meeting = s.floor.meeting := by
  unfold holdEnd; dsimp only
  refine (eventEnd_afterFloor _).meeting.trans ?_
  have hchecked := fun l u => (shrinks_checkTimers l u).meeting
  have hrestored := (shrinks_closeShadowSeats .restoreFull
    (seatsOf (s.floor.shadow.drop (s.floor.setup.maxOpen - delegates s.floor)))
    ((s.floor.shadow.take (s.floor.setup.maxOpen - delegates s.floor)).foldl restoreEntry s)).meeting.trans
    (meeting_foldl (step := restoreEntry) (fun _ _ => rfl) _ s)
  split
  · exact (meeting_foldl voiceCheck_meeting _ _).trans ((hchecked _ _).trans hrestored)
  · exact (hchecked _ _).trans hrestored

theorem leaveHolders_meeting (n : Seat) (s : State) : (leaveHolders n s).floor.meeting = s.floor.meeting := by
  unfold leaveHolders endHoldIfFree; split
  · split
    · exact holdEnd_meeting _
    · rfl
  · rfl

theorem withLeft_meeting (close : CloseReason) (cancel : CancelReason) (n : Seat) (s : State) :
    (withLeft close cancel n s).floor.meeting = s.floor.meeting := by
  rw [← takeOut_eq]
  unfold takeOut
  split
  · exact (shrinks_closeOpen _ n s).meeting
  · exact (shrinks_leaveQueue _ n s).meeting
  · exact (shrinks_closeShadow _ n s).meeting
  · exact (shrinks_disarm n s).meeting
  · rfl

/-! ### The frame of a chain -/

theorem exec_chainFrame {link : Link} (h : link ≠ .trunk) (bytes : List Byte) (s : State) :
    exec (.incomingFrame link bytes) s = .next (chainFrameIn link bytes s) := by
  cases link with
  | trunk => exact absurd rfl h
  | chainA => rfl
  | chainB => rfl

/-- The frame with its report taken, but for the links. -/
theorem chainFrameIn_eq (link : Link) (bytes : List Byte) (s : State) {n : Seat} {good usable : Bool}
    (hn : seatAt link (s.time.frame - 1) = n) (hgood : good = goodFrame 86 (s.time.frame - 1) bytes)
    (husable : usable = (good && (linkState s.links link).locked)) :
    ∃ l, chainFrameIn link bytes s =
      (takeReport n (if usable then report? (bytes.drop 83) else none)
        (takeMics link usable bytes (noteFrame link good s))).withLinks l := by
  rw [husable, hgood, ← hn]
  exact endLink_links link _

theorem chainOf_seatAt {link : Link} (h : link ≠ .trunk) (k : Fin 32) : chainOf (seatAt link k) = link := by
  cases link with
  | trunk => exact absurd rfl h
  | chainA => exact if_pos k.isLt
  | chainB => exact if_neg (Nat.not_lt.mpr (Nat.le_add_left 32 k.val))

theorem seatAt_mod (link : Link) (k : Fin 32) : (seatAt link k).val % 32 = k.val := by
  have hk := k.isLt
  cases link with
  | chainA => show k.val % 32 = k.val; omega
  | chainB => show (k.val + 32) % 32 = k.val; omega
  | trunk => show (k.val + 32) % 32 = k.val; omega

/-- The microphone samples of a chain's frame (R6, R8). -/
theorem takeMics_mic (link : Link) (usable : Bool) (bytes : List Byte) (s : State) :
    (link ≠ .trunk → ∀ k : Fin 32, look (takeMics link usable bytes s).audio.mic (seatAt link k) =
      if usable then (unpackSamples ((bytes.drop 3).take 80)).getD k.val 0 else 0) ∧
    (∀ m : Seat, chainOf m ≠ link → look (takeMics link usable bytes s).audio.mic m = look s.audio.mic m) := by
  refine ⟨fun h k => ?_, fun m hm => ?_⟩
  · refine (look_ofFn _ _).trans ?_
    rw [if_pos (chainOf_seatAt h k), seatAt_mod]
  · exact (look_ofFn _ _).trans (if_neg hm)

/-! ### A missing report -/

/-- The presence that a missing report leaves, but for the eighth (R11). -/
def faded : Presence → Presence
  | .present => .fading 0
  | .fading m => if h : m.val < 6 then .fading ⟨m.val + 1, by omega⟩ else .absent
  | _ => .absent

theorem missingReport_eq {n : Seat} {s : State} (h : presenceOf s n ≠ .fading 6) :
    missingReport n s = setPresence n (faded (presenceOf s n)) s := by
  have hsame : ∀ p, presenceOf s n = p → setPresence n p s = s := by
    intro p hp
    have hseats : upd s.seats n { look s.seats n with presence := p } = s.seats := by rw [← hp]; exact upd_look _ _
    unfold setPresence setSeat; rw [hseats]; rfl
  unfold missingReport faded
  split
  · next hp => rw [hp]; exact (hsame _ hp).symm
  · next hp => rw [hp]
  · next hp => rw [hp]
  · next hp => rw [hp]
  · next m hp =>
    rw [hp]
    have hlt : m.val < 6 := by
      have hne : m ≠ 6 := fun hm => h (by rw [hp, hm])
      have := m.isLt
      have : m.val ≠ 6 := fun hm => hne (Fin.ext hm)
      omega
    rw [dif_pos hlt]; dsimp only; rw [dif_pos hlt]

theorem look_setSeat (n m : Seat) (x : SeatUnit) (s : State) :
    look (setSeat n x s).seats m = if n = m then x else look s.seats m := look_upd ..

theorem presenceOf_setPresence (n : Seat) (p : Presence) (s : State) : presenceOf (setPresence n p s) n = p := by
  unfold presenceOf setPresence; rw [look_setSeat, if_pos rfl]

theorem faded_fading (m : Fin 6) : faded (.fading m.castSucc) = .fading m.succ :=
  dif_pos m.isLt

/-- A seat is lost, and SEAT_LOST is appended (R13). -/
def lostSeat (n : Seat) (w : State) : State := record .seatLost (some n) (floorSeatLost n (setPresence n .absent w))

theorem ReportClosed.rel_lostSeat {R : State → State → Prop} (hR : ReportClosed R) (n : Seat) (w : State) :
    R w (lostSeat n w) :=
  hR.trans (hR.seats w _) (hR.trans (hR.rel_floorSeatLost n _) (hR.rel_record .seatLost (some n) _))

theorem lostSeat_seats (n : Seat) (w : State) :
    (lostSeat n w).seats = upd w.seats n { look w.seats n with presence := .absent } :=
  (eventClosed_seats.rel_record .seatLost (some n) _).trans
    (eventClosed_seats.rel_floorSeatLost n (setPresence n .absent w))

/-- The eighth missing report in a row (R13, R51, R60). -/
theorem seatIsLost_eq (n : Seat) (w : State) : seatIsLost n w =
    setSeat n
      { look w.seats n with
        presence := .absent, mic := .released, priority := .released, next := .released, refused := 0 }
      (record .seatLost (some n) (afterFloor (Statements.withoutHolder n
        (withLeft .lost .lost n (setPresence n .absent w))))) := by
  rw [← leaveHolders_eq, ← takeOut_eq]
  show setSeat n { look (lostSeat n w).seats n with
    mic := .released, priority := .released, next := .released, refused := 0 } (lostSeat n w) = _
  rw [lostSeat_seats, look_upd_self]
  rfl

theorem missingReport_of_eighth {n : Seat} {s : State} (h : presenceOf s n = .fading 6) :
    missingReport n s = seatIsLost n s := by
  unfold missingReport; rw [h]; exact dif_neg (by decide)

/-- What a frame's samples and notes leave. -/
theorem takeMics_frame (link : Link) (usable good : Bool) (bytes : List Byte) (s : State) :
    (takeMics link usable bytes (noteFrame link good s)).seats = s.seats ∧
    (takeMics link usable bytes (noteFrame link good s)).floor = s.floor ∧
    (takeMics link usable bytes (noteFrame link good s)).log = s.log ∧
    (takeMics link usable bytes (noteFrame link good s)).notices = s.notices ∧
    (takeMics link usable bytes (noteFrame link good s)).screens = s.screens ∧
    (takeMics link usable bytes (noteFrame link good s)).gate = s.gate := ⟨rfl, rfl, rfl, rfl, rfl, rfl⟩

theorem reportClosed_screens : ReportClosed (fun s t => t.screens = s.screens) where
  refl _ := rfl
  trans h k := k.trans h
  append _ _ _ _ := rfl
  floor _ _ := rfl
  gate _ _ := rfl
  refuse _ _ := rfl
  seats _ _ := rfl

/-- Settles O15: the presence by its transition, and the eighth missing report by the loss of the seat. -/
theorem missingReportsFade : Obligations.MissingReportsFade := by
  intro link bytes s n hlink hn
  dsimp only
  intro hmissing
  obtain ⟨good, hgood⟩ : ∃ good, good = goodFrame 86 (s.time.frame - 1) bytes := ⟨_, rfl⟩
  obtain ⟨usable, husable⟩ : ∃ usable, usable = (good && (linkState s.links link).locked) := ⟨_, rfl⟩
  rw [← hgood] at hmissing ⊢
  rw [← husable]
  obtain ⟨l, hframe⟩ := chainFrameIn_eq link bytes s hn hgood husable
  have hnone : (if usable then report? (bytes.drop 83) else none) = none := by
    split
    · next hu =>
      rw [husable, Bool.and_eq_true] at hu
      exact (hmissing.resolve_left (by rw [hu.1]; nofun)).resolve_left (by rw [hu.2]; nofun)
    · rfl
  rw [hnone] at hframe
  obtain ⟨w, hw⟩ : ∃ w, w = takeMics link usable bytes (noteFrame link good s) := ⟨_, rfl⟩
  have hexec := exec_chainFrame hlink bytes s
  rw [hframe, ← hw] at hexec
  obtain ⟨hmics, hothers⟩ := takeMics_mic link usable bytes (noteFrame link good s)
  obtain ⟨hseats, hfloor, hlog, hnotices, hscreens, hgate⟩ := takeMics_frame link usable good bytes s
  rw [← hw] at hmics hothers hseats hfloor hlog hnotices hscreens hgate
  have hpres : presenceOf w n = presenceOf s n := by unfold presenceOf; rw [hseats]
  have kept := reportKept_takeReport n none w
  have hwkept : w.mixer = s.mixer ∧ w.displays = s.displays ∧ w.sched = s.sched ∧ w.clock = s.clock ∧
      w.port = s.port := by rw [hw]; exact ⟨rfl, rfl, rfl, rfl, rfl⟩
  obtain ⟨kmixer, kdisplays, ksched, kclock, kport⟩ := hwkept
  refine ⟨fun hne => ?_, fun heq u hu v hv => ?_⟩
  · have hrep : takeReport n none w = setPresence n (faded (presenceOf s n)) w := by
      rw [← hpres] at hne ⊢; exact missingReport_eq hne
    have hafter : presenceOf ((takeReport n none w).withLinks l) n = faded (presenceOf s n) := by
      rw [hrep]; exact presenceOf_setPresence n _ w
    have hseat : ∀ m, look ((takeReport n none w).withLinks l).seats m =
        if n = m then { look w.seats n with presence := faded (presenceOf s n) } else look w.seats m := by
      rw [hrep]; exact fun m => look_setSeat n m _ w
    have hsame : (takeReport n none w).floor = w.floor ∧ (takeReport n none w).log = w.log ∧
        (takeReport n none w).notices = w.notices ∧ (takeReport n none w).screens = w.screens ∧
        (takeReport n none w).gate = w.gate := by rw [hrep]; exact ⟨rfl, rfl, rfl, rfl, rfl⟩
    obtain ⟨sfloor, slog, snotices, sscreens, sgate⟩ := hsame
    refine ⟨_, hexec, ?_⟩
    rw [hafter]
    refine ⟨fun h => by rw [h]; rfl, fun h => by rw [h]; rfl, fun h => by rw [h]; rfl, fun h => by rw [h]; rfl,
      fun m h => by rw [h]; exact faded_fading m, ?_, fun m hm => ?_, fun k => ?_, fun m hm => ?_,
      sfloor.trans hfloor, slog.trans hlog, snotices.trans hnotices, sscreens.trans hscreens,
      kept.port.trans kport, kept.mixer.trans kmixer, sgate.trans hgate, kept.displays.trans kdisplays,
      kept.sched.trans ksched, kept.clock.trans kclock⟩
    · rw [hseat, if_pos rfl, hseats]
    · rw [hseat, if_neg hm.symm, hseats]
    · show look (takeReport n none w).audio.mic _ = _
      rw [kept.audio, hmics hlink, husable]
      simp only [Bool.and_eq_true]
    · show look (takeReport n none w).audio.mic _ = _
      rw [kept.audio, hothers m hm]; rfl
  · have hlost : takeReport n none w = seatIsLost n w := missingReport_of_eighth (hpres.trans heq)
    rw [← hw] at hu
    rw [hlost, seatIsLost_eq, ← hu, ← hv] at hexec
    have hloss : v = lostSeat n w := by
      rw [hv, hu, ← leaveHolders_eq, ← takeOut_eq]; rfl
    have hkept : ReportKept w v := by rw [hloss]; exact reportClosed_reportKept.rel_lostSeat n w
    have hvscreens : v.screens = w.screens := by rw [hloss]; exact reportClosed_screens.rel_lostSeat n w
    have hvseats := lostSeat_seats n w
    rw [← hloss] at hvseats
    have hmeeting : (afterFloor (Statements.withoutHolder n u)).floor.meeting = s.floor.meeting := by
      rw [← leaveHolders_eq, (eventEnd_afterFloor _).meeting, leaveHolders_meeting, hu, withLeft_meeting, ← hfloor]
      rfl
    have hnewest := newestIs_record .seatLost (some n) (afterFloor (Statements.withoutHolder n u))
    rw [hmeeting, ← hv] at hnewest
    have hseat : ∀ m, look ((setSeat n
        { look w.seats n with
          presence := .absent, mic := .released, priority := .released, next := .released, refused := 0 }
        v).withLinks l).seats m =
        if n = m then { look w.seats n with
          presence := .absent, mic := .released, priority := .released, next := .released, refused := 0 }
        else look v.seats m := fun m => look_setSeat n m _ v
    have hself := (hseat n).trans (if_pos rfl)
    refine ⟨_, hexec, rfl, rfl, rfl, rfl, ?_, ?_, ?_, ?_, ?_, ?_, hnewest, fun m hm => ?_, hvscreens.trans hscreens,
      hkept.port.trans kport, hkept.mixer.trans kmixer, hkept.displays.trans kdisplays⟩
    · unfold presenceOf; rw [hself]
    · rw [hself]
    · rw [hself]
    · rw [hself]
    · rw [hself]
    · rw [hself, hseats]
    · rw [hseat, if_neg hm.symm, hvseats, look_upd, if_neg hm.symm, hseats]

end Sys2Proof.Machine
end

section
/-!
PROOFS. VALID REPORTS: O16 (R10 to R12, R15 to R17).
-/

namespace Sys2Proof.Machine

section valid
variable {n : Seat} {r : Report} {s : State}

theorem validReport_of_absent (h : presenceOf s n = .absent) :
    validReport n r s = setVolume n r.volume (setPresence n .joining1 s) := by
  unfold validReport; rw [h]

theorem validReport_of_joining1 (h : presenceOf s n = .joining1) :
    validReport n r s = setVolume n r.volume (setPresence n .joining2 s) := by
  unfold validReport; rw [h]

theorem validReport_of_joining2 (h : presenceOf s n = .joining2) :
    validReport n r s = setVolume n r.volume (seatJoins n r s) := by
  unfold validReport; rw [h]

/-- A seat that takes part is PRESENT, and its samples go through the filters (R11, R15). -/
theorem validReport_of_part (h : presenceOf s n = .present ∨ ∃ m, presenceOf s n = .fading m) :
    validReport n r s = setVolume n r.volume (sampleButtons n r (setPresence n .present s)) := by
  unfold validReport
  rcases h with h | ⟨m, h⟩
  · have hsame : setPresence n .present s = s := by
      have hseats : upd s.seats n { look s.seats n with presence := .present } = s.seats := by
        rw [← h]; exact upd_look _ _
      unfold setPresence setSeat; rw [hseats]; rfl
    rw [h, hsame]
  · rw [h]

theorem look_setVolume (v : Nat) (m : Seat) : look (setVolume n v s).seats m =
    if n = m then { look s.seats n with volume := v } else look s.seats m := look_setSeat ..

theorem look_setPresence (p : Presence) (m : Seat) : look (setPresence n p s).seats m =
    if n = m then { look s.seats n with presence := p } else look s.seats m := look_setSeat ..

end valid

/-! ### The samples keep the presence -/

theorem floorClosed_presence : FloorClosed (fun s t => ∀ m, presenceOf t m = presenceOf s m) where
  refl _ _ := rfl
  trans h k m := (k m).trans (h m)
  append _ _ _ _ _ := rfl
  floor _ _ _ := rfl
  gate _ _ _ := rfl
  refuse n s m := by
    show (look (setSeat n _ s).seats m).presence = _
    rw [look_setSeat]
    split
    · next h => rw [← h]; rfl
    · rfl

theorem presenceOf_withButton (n m : Seat) (b : ButtonName) (x : Button) (s : State) :
    presenceOf (setSeat n (withButton (look s.seats n) b x) s) m = presenceOf s m := by
  unfold presenceOf; rw [look_setSeat]
  split
  · next h => rw [← h]; cases b <;> rfl
  · rfl

theorem presenceOf_sampleButton (n m : Seat) (r : Report) (s : State) (b : ButtonName) :
    presenceOf (sampleButton n r s b) m = presenceOf s m := by
  unfold sampleButton; dsimp only; split
  · exact presenceOf_withButton n m b _ s
  · exact (floorClosed_presence.rel_buttonEvent _ _ _ _ _ m).trans (presenceOf_withButton n m b _ s)

theorem presenceOf_sampleButtons (n m : Seat) (r : Report) (s : State) :
    presenceOf (sampleButtons n r s) m = presenceOf s m := by
  unfold sampleButtons
  rw [List.foldl_cons, List.foldl_cons, List.foldl_cons, List.foldl_nil, presenceOf_sampleButton,
    presenceOf_sampleButton, presenceOf_sampleButton]

/-! ### A seat that joins -/

/-- The unit of a seat that joins (R12). -/
def joinedUnit (u : SeatUnit) (r : Report) : SeatUnit :=
  { u with presence := .present, mic := baseline u.mic r.mic, priority := baseline u.priority r.priority
           next := baseline u.next r.next }

theorem seatJoins_parts (n : Seat) (r : Report) (s : State) :
    (∀ m, look (seatJoins n r s).seats m = if n = m then joinedUnit (look s.seats n) r else look s.seats m) ∧
      (∀ m, look (seatJoins n r s).screens.shown m = if n = m then .unknown else look s.screens.shown m) ∧
      (seatJoins n r s).floor = s.floor ∧ (seatJoins n r s).log.nextSeq = s.log.nextSeq + 1 ∧
      newestIs (seatJoins n r s) .seatJoin (some n) (meetingId s.floor.meeting) := by
  have hjoin : seatJoins n r s =
      record .seatJoin (some n) (setShown n .unknown (setSeat n (joinedUnit (look s.seats n) r) s)) := rfl
  rw [hjoin]
  refine ⟨fun m => look_setSeat n m _ s, fun m => look_upd _ _ _ _, rfl, rfl, ?_⟩
  exact newestIs_record .seatJoin (some n) (setShown n .unknown (setSeat n (joinedUnit (look s.seats n) r) s))

/-- Settles O16: the four presence states of a valid report, the samples by the three filters in turn. -/
theorem validReportsJoinAndPress : Obligations.ValidReportsJoinAndPress := by
  intro link bytes r s n hlink hn hgood hlocked hreport
  obtain ⟨l, hframe⟩ := chainFrameIn_eq link bytes s hn hgood.symm (husable := rfl)
  rw [hlocked, Bool.true_and, if_pos rfl, hreport] at hframe
  have hexec := exec_chainFrame hlink bytes s
  rw [hframe] at hexec
  obtain ⟨w, hw⟩ : ∃ w, w = takeMics link true bytes (noteFrame link true s) := ⟨_, rfl⟩
  obtain ⟨hseats, hfloor, hlog, hnotices, hscreens, hgate⟩ := takeMics_frame link true true bytes s
  rw [← hw] at hexec hseats hfloor hlog hnotices hscreens hgate
  have hmixer : w.mixer = s.mixer := by rw [hw]; rfl
  have hpres : presenceOf w n = presenceOf s n := by unfold presenceOf; rw [hseats]
  refine ⟨fun h => ?_, fun h => ?_, fun h => ?_⟩
  · obtain ⟨p, hp, hvalid⟩ : ∃ p, p = (if presenceOf s n = .absent then Presence.joining1 else .joining2) ∧
        takeReport n (some r) w = setVolume n r.volume (setPresence n p w) := by
      rcases h with h | h
      · exact ⟨.joining1, by rw [h]; rfl, validReport_of_absent (hpres.trans h)⟩
      · exact ⟨.joining2, by rw [h]; rfl, validReport_of_joining1 (hpres.trans h)⟩
    rw [hvalid] at hexec
    rw [← hp]
    have hseat : ∀ m, look ((setVolume n r.volume (setPresence n p w)).withLinks l).seats m =
        if n = m then { look w.seats n with presence := p, volume := r.volume } else look w.seats m := by
      intro m
      refine (look_setVolume r.volume m).trans ?_
      rw [look_setPresence, look_setPresence, if_pos rfl]
      split <;> rfl
    refine ⟨_, hexec, ?_, fun m hm => ?_, hfloor, hlog, hnotices, hscreens⟩
    · rw [hseat, if_pos rfl, hseats]
    · rw [hseat, if_neg hm.symm, hseats]
  · have hvalid : takeReport n (some r) w = setVolume n r.volume (seatJoins n r w) :=
      validReport_of_joining2 (hpres.trans h)
    rw [hvalid] at hexec
    obtain ⟨jseats, jshown, jfloor, jseq, jnewest⟩ := seatJoins_parts n r w
    have hseat : ∀ m, look ((setVolume n r.volume (seatJoins n r w)).withLinks l).seats m =
        if n = m then { joinedUnit (look w.seats n) r with volume := r.volume } else look w.seats m := by
      intro m
      refine (look_setVolume r.volume m).trans ?_
      rw [jseats, jseats, if_pos rfl]
      split <;> rfl
    have hself := (hseat n).trans (if_pos rfl)
    have hshown : ∀ m, look ((setVolume n r.volume (seatJoins n r w)).withLinks l).screens.shown m =
        if n = m then .unknown else look w.screens.shown m := jshown
    rw [hfloor] at jfloor jnewest
    rw [hlog] at jseq
    refine ⟨_, hexec, ?_, ?_, ?_, ?_, ?_, ?_, ?_, ?_, (hshown n).trans (if_pos rfl), fun m hm => ⟨?_, ?_⟩, jfloor,
      jnewest, jseq⟩
    · unfold presenceOf; rw [hself]; rfl
    · rw [hself]; rfl
    · rw [hself]; rfl
    · rw [hself]; rfl
    · rw [hself]; rfl
    · rw [hself]; rfl
    · rw [hself]; rfl
    · rw [hself]
    · rw [hseat, if_neg hm.symm, hseats]
    · rw [hshown, if_neg hm.symm, hscreens]
  · intro button u hu
    have hsamples : u = sampleButtons n r (setPresence n .present w) := by rw [hu, hw]; rfl
    have hvalid : takeReport n (some r) w = setVolume n r.volume u := by
      rw [hsamples]
      exact validReport_of_part (h.imp (fun h => hpres.trans h) (fun ⟨m, h⟩ => ⟨m, hpres.trans h⟩))
    rw [hvalid] at hexec
    have hscreensu : u.screens = w.screens := by
      rw [hsamples]; exact reportClosed_screens.rel_sampleButtons n r (setPresence n .present w)
    have hkept : ReportKept w u := by
      rw [hsamples]
      exact reportClosed_reportKept.trans (reportClosed_reportKept.seats w _)
        (reportClosed_reportKept.rel_sampleButtons n r _)
    have hpresent : presenceOf u n = .present := by
      rw [hsamples, presenceOf_sampleButtons]; exact presenceOf_setPresence n _ w
    have hseat : ∀ m, look ((setVolume n r.volume u).withLinks l).seats m =
        if n = m then { look u.seats n with volume := r.volume } else look u.seats m :=
      fun m => look_setVolume r.volume m
    have hself := (hseat n).trans (if_pos rfl)
    refine ⟨_, hexec, rfl, rfl, rfl, rfl, hscreensu.trans hscreens, hkept.mixer.trans hmixer, hself, ?_,
      fun m hm => (hseat m).trans (if_neg hm.symm)⟩
    unfold presenceOf; rw [hself]; exact hpresent

end Sys2Proof.Machine
end

section
/-!
PROOFS. STATUS: O50 (R210 to R212).
-/

namespace Sys2Proof.Machine

/-! ### The bytes of STATUS -/

/-- The lock states and the stamp come first. -/
theorem take_statusBytes (s : State) : (statusBytes s).take 7 =
    b1 (if s.links.chainA.locked then 0 else 1) ++ b1 (if s.links.chainB.locked then 0 else 1) ++
      b1 (if s.links.trunk.locked then 0 else 1) ++ b4 s.time.stamp.toNat := by
  unfold statusBytes
  simp only [List.append_assoc]
  exact List.take_left' rfl

/-- What follows the floor's values. -/
theorem drop_statusBytes (s : State) : (statusBytes s).drop (7 + (floorStatus s).length) =
    audioStatus s ++ (clockStatus s ++ (displayStatus s ++ (noticeStatus s ++ portStatus s))) := by
  unfold statusBytes
  simp only [List.append_assoc]
  rw [← List.append_assoc (linkStatus s)]
  exact List.drop_left' (by rw [List.length_append]; rfl)

/-- The byte of the pending bank codes that bank, and the one for none is no bank's (R89). -/
theorem pendingByte_spec (p : Option (Fin 2)) : (∀ b : Fin 2, p = some b → pendingByte p = BitVec.ofNat 8 b.val) ∧
    (p = none → pendingByte p ≠ 0 ∧ pendingByte p ≠ 1) := by
  refine ⟨fun b h => by rw [h]; rfl, fun h => ?_⟩
  rw [h]
  have hfree : ∀ k : Fin 254, BitVec.ofNat 8 (k.val + 2) ≠ 0 ∧ BitVec.ofNat 8 (k.val + 2) ≠ 1 := by
    intro k
    have hk := k.isLt
    exact ⟨by bv_omega, by bv_omega⟩
  exact hfree Config.noPendingBank

/-! ### The bytes of STATUS with a seat number -/

theorem take_statusSeatBytes (s : State) (n : Seat) : (statusSeatBytes s n).take 5 =
    b1 (presenceByte (presenceOf s n)) ++ b1 (if (look s.seats n).mic.pressed then 0 else 1) ++
      b1 (if (look s.seats n).priority.pressed then 0 else 1) ++
      b1 (if (look s.seats n).next.pressed then 0 else 1) ++ b1 (look s.seats n).volume := by
  unfold statusSeatBytes
  simp only [List.append_assoc]
  exact List.take_left' rfl

theorem getLast?_statusSeatBytes (s : State) (n : Seat) :
    (statusSeatBytes s n).getLast? = some (BitVec.ofNat 8 (sourceBits s.notices.summary)) :=
  List.getLast?_concat

/-- Settles O50: the two answers from the parts of their bytes. -/
theorem statusAnswers : Obligations.StatusAnswers := by
  refine ⟨fun s rest tag h => ?_, fun s rest tag k h => ⟨fun hk => ?_, fun n hn => ?_⟩⟩
  · have hexec := exec_of_ready rfl h (r := statusReply (taken s rest)) rfl
    obtain ⟨hbank, hnone⟩ := pendingByte_spec s.mixer.pending
    refine ⟨_, statusBytes (taken s rest), hexec, rfl, take_statusBytes (taken s rest), ⟨pendingByte s.mixer.pending,
      b3 (look s.gate.meters 64) ++ b3 (look s.gate.meters 65) ++ (clockStatus (taken s rest) ++
        (displayStatus (taken s rest) ++ (noticeStatus (taken s rest) ++ portStatus (taken s rest)))), ?_, hbank,
      hnone⟩, ?_⟩
    · refine (drop_statusBytes (taken s rest)).trans ?_
      unfold audioStatus
      simp only [List.append_assoc]
      rfl
    · refine ⟨linkStatus (taken s rest) ++ floorStatus (taken s rest) ++ audioStatus (taken s rest) ++
        clockStatus (taken s rest) ++ displayStatus (taken s rest), ?_⟩
      rfl
  · refine exec_refused rfl h ?_
    unfold statusSeatReply
    rw [index?_of_le hk]
  · have hreply : statusSeatReply k (taken s rest) =
        { state := clearSeen (taken s rest), code := .done, result := statusSeatBytes (taken s rest) n } := by
      unfold statusSeatReply
      rw [hn, index?_val]
    refine ⟨statusSeatBytes (taken s rest) n, exec_of_ready rfl h hreply, take_statusSeatBytes (taken s rest) n,
      getLast?_statusSeatBytes (taken s rest) n⟩

end Sys2Proof.Machine
end

section
/-!
PROOFS. WHAT EVERY COMMAND SHARES: O11 (R201, R204, R219).
-/

namespace Sys2Proof.Machine

/-! ### A command that is not carried out -/

theorem runCommand_of_untaken {i : Instr} {s : State} (h : takeCommand i s = none) (tag code : Byte)
    (act : State → Reply) : runCommand i tag code act s = s := by
  unfold runCommand; rw [h]

/-- No command comes on an UNLOCKED trunk with the Command FIFO empty (R9). -/
theorem takeCommand_of_unlocked {i : Instr} {s : State} (hf : s.port.fifo = [])
    (hl : s.links.trunk.locked = false) : takeCommand i s = none := by
  simp [takeCommand, hf, hl]

theorem exec_of_untaken {i : Instr} {s : State} (hrow : (rowCell i).isSome = true) (h : takeCommand i s = none) :
    exec i s = .next s := by
  cases i
  case resetPin | incomingFrame | outgoingFrame | answerSent | noticeSent | superframeStart | speakingWarning |
    speakingLimitClose | speakingLimitNotify | minuteBoundary | superframeEnd | chainLock | chainUnlock |
    alertSample | refusedTimerExpiry | messageExpiry | voiceEvaluation | presenceEnd | quietTimeout | warmExpiry |
    coolExpiry | irTransmissionStart | irTransmissionComplete | commandCellArrival =>
    exact absurd hrow Bool.false_ne_true
  case restart tag p =>
    show execRestart tag p s = _
    unfold execRestart; rw [h]
  case unknownCommand tag code =>
    refine congrArg Host.Outcome.next ?_
    split
    · rfl
    · exact runCommand_of_untaken h _ _ _
  case listClearAssign | listClearIrcode | listAddAssign | listAddIrcode | listGetAssign | listGetIrcode | status |
    seatOpen | seatClose | grantNext | queueClear | floorSet | priorityOn | priorityOff | bankSelect | clipRead |
    meterRead | seatMessage | messageClear | displayPowerOn | displayPowerOff | displayInput | clockSet | clockGet |
    commit | extend | endNow | cancel | logRead | noticeSet | select | get | putSeat | putName | putGain | putNom |
    putBooking | putIdle | putDisplay | statusSeat =>
    exact congrArg Host.Outcome.next (runCommand_of_untaken h _ _ _)

/-! ### Form errors -/

theorem exec_restart_formless {s : State} {rest : List CommandCell} {tag : Byte}
    (h : Ready (.restart tag none) s rest) :
    exec (.restart tag none) s = .next (s.withPort (portAfter s.port rest tag 0x09 .range [])) := by
  show execRestart tag none s = _
  unfold execRestart; rw [takeCommand_of_ready h]; rfl

/-- Parameters without the command's form are answered `RANGE` (R204). -/
theorem exec_of_formError {i : Instr} {s : State} {rest : List CommandCell} {tag code : Byte}
    (hf : isFormError i = true) (hrow : rowCell i = some (tag, code)) (h : Ready i s rest) :
    exec i s = .next (s.withPort (portAfter s.port rest tag code .range [])) := by
  cases i
  case resetPin | incomingFrame | outgoingFrame | answerSent | noticeSent | superframeStart | speakingWarning |
    speakingLimitClose | speakingLimitNotify | minuteBoundary | superframeEnd | chainLock | chainUnlock |
    alertSample | refusedTimerExpiry | messageExpiry | voiceEvaluation | presenceEnd | quietTimeout | warmExpiry |
    coolExpiry | irTransmissionStart | irTransmissionComplete | commandCellArrival | unknownCommand | select | get |
    putSeat | putName | putGain | putNom | putBooking | putIdle | putDisplay | statusSeat =>
    exact absurd hf Bool.false_ne_true
  case restart tag p =>
    obtain rfl := Option.isNone_iff_eq_none.mp hf
    cases hrow
    exact exec_restart_formless h
  case listClearAssign | listClearIrcode | listAddAssign | listAddIrcode | listGetAssign | listGetIrcode | status |
    seatOpen | seatClose | grantNext | queueClear | floorSet | priorityOn | priorityOff | bankSelect | clipRead |
    meterRead | seatMessage | messageClear | displayPowerOn | displayPowerOff | displayInput | clockSet | clockGet |
    commit | extend | endNow | cancel | logRead | noticeSet tag p =>
    obtain rfl := Option.isNone_iff_eq_none.mp hf
    cases hrow
    exact exec_refused rfl h rfl

/-- A form error of the cursor's commands carries the cursor, which stays (R204, notes/assumptions/26.md). -/
theorem exec_of_putFormless {α : Type} {i : Instr} {s : State} {rest : List CommandCell} {tag : Byte}
    {ofTable : TableName → Bool} {store : TableName → Nat → α → State → Reply}
    (hi : exec i s = .next (runCommand i tag 0x03 (putAtCursor ofTable none store) s)) (h : Ready i s rest) :
    exec i s = .next (s.withPort (portAfter s.port rest tag 0x03 .range (actedAt s.port.cursor s.port.cursor))) :=
  exec_of_ready hi h rfl

/-- Settles O11: commands that are not taken, form errors with and without the cursor, and unlisted codes. -/
theorem waitingAndFormErrors : Obligations.WaitingAndFormErrors := by
  refine ⟨fun i s hrow h => exec_of_untaken hrow ?_, fun i s rest tag code hf hrow h => exec_of_formError hf hrow h,
    fun s rest tag h => (exec_of_ready rfl h (r := selectReply none (taken s rest)) rfl).trans rfl,
    fun s rest tag h => (exec_of_ready rfl h (r := getReply none (taken s rest)) rfl).trans rfl,
    fun i s rest tag hi h => ?_, fun s rest tag code hk h => ?_⟩
  · exact h.elim takeCommand_of_full (fun hu => takeCommand_of_unlocked hu.1 hu.2)
  · simp only [List.mem_cons, List.not_mem_nil, or_false] at hi
    rcases hi with rfl | rfl | rfl | rfl | rfl | rfl | rfl
    all_goals exact exec_of_putFormless rfl h
  · have hexec : exec (.unknownCommand tag code) s =
        .next (runCommand (.unknownCommand tag code) tag code (refusal .unknown) s) :=
      congrArg Host.Outcome.next (if_neg (by rw [hk]; nofun))
    exact exec_refused hexec h rfl

end Sys2Proof.Machine
end

section
/-!
PROOFS. THE WANTED IMAGE: O24, the rows of R123 and R124 read in order.
-/

namespace Sys2Proof.Machine

/-! ### The booking of the current meeting -/

theorem currentSlot_eq_some {s : State} {x : Slot} : currentSlot s = some x ↔
    ∃ k id chair, s.floor.meeting = .booking k id chair ∧ look s.sched.slots k = x := by
  unfold currentSlot
  cases s.floor.meeting with
  | booking k id chair =>
    refine ⟨fun h => ⟨k, id, chair, rfl, Option.some.inj h⟩, fun ⟨k', id', chair', hm, hx⟩ => ?_⟩
    cases hm; exact congrArg some hx
  | idle => exact ⟨nofun, fun ⟨_, _, _, hm, _⟩ => nomatch hm⟩
  | none => exact ⟨nofun, fun ⟨_, _, _, hm, _⟩ => nomatch hm⟩

/-! ### Line 1 -/

theorem assignedName_of_item {s : State} {n : Seat} {x : Slot} {i : Item} (hx : currentSlot s = some x)
    (hi : (slotItems x).find? (fun j => decide (j.seat = n)) = some i) : assignedName s n = some i.name := by
  unfold assignedName; rw [hx]; dsimp only; rw [hi]; rfl

theorem assignedName_of_none {s : State} {n : Seat}
    (h : ∀ x, currentSlot s = some x → ∀ i ∈ slotItems x, i.seat ≠ n) : assignedName s n = none := by
  unfold assignedName
  cases hx : currentSlot s with
  | none => rfl
  | some x =>
    have hfind : (slotItems x).find? (fun i => decide (i.seat = n)) = none :=
      List.find?_eq_none.mpr fun i hi => by simpa using h x hx i hi
    dsimp only; rw [hfind]; rfl

section name
variable {s : State} {n : Seat}

theorem wantedLine1_of_assigned {k : NameNo} (h : assignedName s n = some k) :
    wantedLine1 s n = padLine (look s.screens.names k) := by
  unfold wantedLine1 shownName; rw [h]

theorem wantedLine1_of_standing {k : NameNo} (h : assignedName s n = none)
    (hk : (look s.seatTable n).name = some k) : wantedLine1 s n = padLine (look s.screens.names k) := by
  unfold wantedLine1 shownName; rw [h, hk]

theorem wantedLine1_of_default (h : assignedName s n = none) (hk : (look s.seatTable n).name = none) :
    wantedLine1 s n = padLine (chars ['S', 'e', 'a', 't', ' '] ++ twoDigits n.val) := by
  unfold wantedLine1 shownName; rw [h, hk]

end name

/-! ### Line 2 -/

section line2
variable {s : State} {n : Seat}

theorem line2Text_of_alert (h : s.floor.phase = .alert) : line2Text s n =
    chars ['A', 'L', 'E', 'R', 'T', ' ', '-', ' ', 'P', 'L', 'E', 'A', 'S', 'E', ' ', 'L', 'I', 'S', 'T', 'E', 'N'] :=
  if_pos h

theorem line2Text_of_message {m : Message} (h : s.floor.phase ≠ .alert) (hm : look s.screens.messages n = some m) :
    line2Text s n = m.text := by
  unfold line2Text; rw [if_neg h, hm]

theorem line2Text_of_closed (h : s.floor.phase = .closed) (hm : look s.screens.messages n = none) :
    line2Text s n = chars ['N', 'o', ' ', 'm', 'e', 'e', 't', 'i', 'n', 'g'] := by
  unfold line2Text; rw [if_neg (by rw [h]; nofun), hm]; exact if_pos h

theorem line2Text_of_meeting (h : s.floor.phase = .running ∨ s.floor.phase = .hold)
    (hm : look s.screens.messages n = none) : line2Text s n = micText s n := by
  have halert : s.floor.phase ≠ .alert := by rcases h with h | h <;> rw [h] <;> nofun
  have hclosed : s.floor.phase ≠ .closed := by rcases h with h | h <;> rw [h] <;> nofun
  unfold line2Text; rw [if_neg halert, hm]; exact if_neg hclosed

theorem micText_of_held (h : micState s.floor n = .held) : micText s n =
    chars ['C', 'h', 'a', 'i', 'r', ' ', 'p', 'r', 'i', 'o', 'r', 'i', 't', 'y'] := by
  unfold micText; rw [h]

theorem micText_of_opened {x : Timer} (h : micState s.floor n = .opened) (hx : openTimer s.floor n = some x) :
    micText s n = openText x := by
  unfold micText; rw [h, hx]

theorem micText_of_waiting (h : micState s.floor n = .waiting) : micText s n =
    chars ['Q', 'u', 'e', 'u', 'e', ' '] ++ decimal (micText.queuePos n s.floor.queue) ++
      chars [' ', 'o', 'f', ' '] ++ decimal s.floor.queue.length := by
  unfold micText; rw [h]

theorem micText_of_rest (h : micState s.floor n = .off ∨ micState s.floor n = .armed) :
    micText s n = restText s n := by
  unfold micText
  rcases h with h | h <;> rw [h]

theorem queuePos_of_split {a b : List Request} {r : Request} (hr : r.seat = n) (ha : ∀ e ∈ a, e.seat ≠ n) :
    micText.queuePos n (a ++ r :: b) = a.length + 1 := by
  have hfind : (a ++ r :: b).findIdx (fun e => decide (e.seat = n)) = a.length := by
    induction a with
    | nil => simp [List.findIdx_cons, hr]
    | cons e a ih =>
      have he : decide (e.seat = n) = false := decide_eq_false (ha e List.mem_cons_self)
      rw [List.cons_append, List.findIdx_cons, he]
      simp only [cond_false, List.length_cons]
      rw [ih fun x hx => ha x (List.mem_cons_of_mem _ hx)]
  unfold micText.queuePos; rw [hfind]

/-! ### Rows 9 to 13 -/

theorem endsIn_of_ending {f : Fixed} {items : List Item} {booked current : Nat}
    (h : currentSlot s = some (.committed .ending f items booked current)) :
    endsIn s = some ((current * 60000 - weekMs s.clock.time + 59999) / 60000) := by
  unfold endsIn; rw [h]

theorem endsIn_of_not (h : ∀ f items booked current,
    currentSlot s ≠ some (.committed .ending f items booked current)) : endsIn s = none := by
  unfold endsIn
  split
  · next hx => exact absurd hx (h _ _ _ _)
  · rfl

theorem currentTitle_of_title {x : Slot} {f : Fixed} (hx : currentSlot s = some x) (hf : slotFixed x = some f) :
    currentTitle s = f.title := by
  unfold currentTitle; rw [hx]; dsimp only; rw [hf]; rfl

theorem currentTitle_of_none (h : ∀ x f, currentSlot s = some x → slotFixed x = some f → f.title = none) :
    currentTitle s = none := by
  unfold currentTitle
  cases hx : currentSlot s with
  | none => rfl
  | some x =>
    dsimp only
    cases hf : slotFixed x with
    | none => rfl
    | some f => exact h x f hx hf

theorem restText_of_ending {k : Nat} (h : endsIn s = some k) : restText s n =
    chars ['E', 'n', 'd', 's', ' ', 'i', 'n', ' '] ++ decimal k ++ chars [' ', 'm', 'i', 'n'] := by
  unfold restText; rw [h]

theorem restText_of_armed (h : endsIn s = none) (ha : micState s.floor n = .armed) : restText s n =
    chars ['V', 'o', 'i', 'c', 'e', ' ', 'a', 'r', 'm', 'e', 'd'] := by
  unfold restText; rw [h]; exact if_pos ha

theorem restText_of_chair (h : endsIn s = none) (ha : micState s.floor n = .off) (hc : effectiveRole s n = .chair)
    (hm : s.floor.setup.mode = .direct ∨ s.floor.setup.mode = .queued) : restText s n =
    chars ['R', 'e', 'q', 'u', 'e', 's', 't', 's', ':', ' '] ++ decimal s.floor.queue.length := by
  unfold restText; rw [h]; exact (if_neg (by rw [ha]; nofun)).trans (if_pos ⟨hc, hm⟩)

theorem restText_of_title (h : endsIn s = none) (ha : micState s.floor n = .off)
    (hno : ¬ (effectiveRole s n = .chair ∧ (s.floor.setup.mode = .direct ∨ s.floor.setup.mode = .queued))) :
    (∀ k, currentTitle s = some k → restText s n = look s.screens.names k) ∧
      (currentTitle s = none → restText s n = []) := by
  unfold restText; rw [h]; dsimp only
  rw [if_neg (by rw [ha]; nofun), if_neg hno]
  exact ⟨fun k hk => by rw [hk], fun hk => by rw [hk]⟩

end line2

/-! ### Numbers -/

theorem clockText_of_le {t : Nat} (h : t ≤ 5999) : clockText t =
    [digit (t / 60 / 10), digit (t / 60), 0x3A, digit (t % 60 / 10), digit (t % 60)] := by
  unfold clockText; dsimp only
  rw [Nat.min_eq_left h]; rfl

section open_text
variable {x : Timer}

theorem openText_of_over (h : x.overtime = true) : openText x =
    chars ['O', 'v', 'e', 'r', ' ', 't', 'i', 'm', 'e', ' '] ++ clockText (x.elapsed / 1000) := if_pos h

theorem openText_of_warned {l : Nat} (h : x.overtime = false) (hw : x.warned = true) (hl : x.limit = some l) :
    openText x = chars ['L', 'e', 'f', 't', ' '] ++ clockText ((l - x.elapsed + 999) / 1000) := by
  unfold openText
  rw [if_neg (by rw [h]; nofun), if_pos hw, hl]; rfl

theorem openText_of_plain (h : x.overtime = false) (hw : x.warned = false) : openText x =
    chars ['S', 'p', 'e', 'a', 'k', 'i', 'n', 'g', ' '] ++ clockText (x.elapsed / 1000) := by
  unfold openText
  rw [if_neg (by rw [h]; nofun), if_neg (by rw [hw]; nofun)]

end open_text

/-- Settles O24: the rows of both lines by what each of them asks. -/
theorem wantedImage : Obligations.WantedImage := by
  intro s n
  dsimp only
  have line2 : ∀ x, line2Text s n = x → wantedLine2 s n = padLine x := fun x h => congrArg padLine h
  refine ⟨fun x i hx hi => ?_, fun hno => ⟨fun k hk => ?_, fun hk => ?_⟩, fun h => ?_, fun h m hm => ?_, fun h hm => ?_,
    fun h hm => ?_, fun t ht => clockText_of_le ht⟩
  · exact wantedLine1_of_assigned (assignedName_of_item (currentSlot_eq_some.mpr hx) hi)
  · exact wantedLine1_of_standing (assignedName_of_none fun x hx => hno x (currentSlot_eq_some.mp hx)) hk
  · exact wantedLine1_of_default (assignedName_of_none fun x hx => hno x (currentSlot_eq_some.mp hx)) hk
  · refine (line2 _ (line2Text_of_alert h)).trans ?_
    rfl
  · exact line2 _ (line2Text_of_message h hm)
  · exact line2 _ (line2Text_of_closed h hm)
  have htext := line2Text_of_meeting h hm
  refine ⟨fun hheld => ?_, fun x hopen hx => ⟨fun ho => ?_, fun l ho hw hl => ?_, fun ho hw => ?_⟩,
    fun a b r hwait hq hr ha => ?_, fun hrest => ?_⟩
  · exact line2 _ (htext.trans (micText_of_held hheld))
  · exact line2 _ (htext.trans ((micText_of_opened hopen hx).trans (openText_of_over ho)))
  · exact line2 _ (htext.trans ((micText_of_opened hopen hx).trans (openText_of_warned ho hw hl)))
  · exact line2 _ (htext.trans ((micText_of_opened hopen hx).trans (openText_of_plain ho hw)))
  · refine line2 _ (htext.trans ((micText_of_waiting hwait).trans ?_))
    rw [hq, queuePos_of_split hr ha]; rfl
  have hrow := htext.trans (micText_of_rest hrest)
  refine ⟨fun f items booked current hb => ?_, fun hno => ?_⟩
  · exact line2 _ (hrow.trans (restText_of_ending (endsIn_of_ending (currentSlot_eq_some.mpr hb))))
  have hends : endsIn s = none :=
    endsIn_of_not fun f items booked current hx => hno f items booked current (currentSlot_eq_some.mp hx)
  refine ⟨fun ha => ?_, fun ha hc hmode => ?_, fun ha hother => ?_⟩
  · exact line2 _ (hrow.trans (restText_of_armed hends ha))
  · exact line2 _ (hrow.trans (restText_of_chair hends ha hc hmode))
  have hneither : ¬ (effectiveRole s n = .chair ∧
      (s.floor.setup.mode = .direct ∨ s.floor.setup.mode = .queued)) := by
    rintro ⟨hc, hm⟩
    rcases hother with h1 | h1 | h1
    · exact h1 hc
    · rw [h1] at hm; simp at hm
    · rw [h1] at hm; simp at hm
  obtain ⟨htitle, hnone⟩ := restText_of_title hends ha hneither
  refine ⟨fun x f k hx hf hk => ?_, fun hall => ?_⟩
  · exact line2 _ (hrow.trans (htitle k ((currentTitle_of_title (currentSlot_eq_some.mpr hx) hf).trans hk)))
  · exact line2 _ (hrow.trans
      (hnone (currentTitle_of_none fun x f hx hf => hall x f (currentSlot_eq_some.mp hx) hf)))

end Sys2Proof.Machine
end

section
/-!
PROOFS. THE RUNS OF A TEXT AND THE LAST OF A ROW OF MARKS (R130): what the fragment engine counts with.
-/

namespace Sys2Proof.Machine

/-! ### The runs of a text -/

theorem runsOf_ne_nil (b : Byte) (l : List Byte) : runsOf (b :: l) ≠ [] := by
  unfold runsOf; split
  · nofun
  · split <;> nofun

theorem runsOf_eq_nil {l : List Byte} : runsOf l = [] ↔ l = [] := by
  cases l with
  | nil => exact ⟨fun _ => rfl, fun _ => rfl⟩
  | cons b l => exact ⟨fun h => absurd h (runsOf_ne_nil b l), nofun⟩

/-- A character in front begins a run of its own or lengthens the first one. -/
theorem runsOf_cons_cases (b : Byte) (l : List Byte) :
    (l = [] ∧ runsOf (b :: l) = [(b, 1)]) ∨
      (∃ k r, runsOf l = (b, k) :: r ∧ runsOf (b :: l) = (b, k + 1) :: r) ∨
      ∃ c k r, c ≠ b ∧ runsOf l = (c, k) :: r ∧ runsOf (b :: l) = (b, 1) :: (c, k) :: r := by
  cases h : runsOf l with
  | nil =>
    refine Or.inl ⟨runsOf_eq_nil.mp h, ?_⟩
    unfold runsOf; rw [h]
  | cons x r =>
    obtain ⟨c, k⟩ := x
    right
    by_cases hc : c = b
    · subst hc
      refine Or.inl ⟨k, r, rfl, ?_⟩
      unfold runsOf; rw [h]; exact if_pos rfl
    · refine Or.inr ⟨c, k, r, hc, rfl, ?_⟩
      conv_lhs => unfold runsOf
      rw [h]; exact if_neg hc

/-- The first run is of the first character. -/
theorem head?_of_runsOf {l : List Byte} {c : Byte} {k : Nat} {r : List (Byte × Nat)} (h : runsOf l = (c, k) :: r) :
    l[0]? = some c := by
  cases l with
  | nil => exact nomatch h
  | cons b l =>
    rcases runsOf_cons_cases b l with ⟨-, hb⟩ | ⟨k', r', -, hb⟩ | ⟨c', k', r', -, -, hb⟩
    all_goals rw [hb] at h; cases h; rfl

/-- The runs written out are the text. -/
theorem flatMap_runsOf (l : List Byte) : (runsOf l).flatMap (fun r => List.replicate r.2 r.1) = l := by
  induction l with
  | nil => rfl
  | cons b l ih =>
    rcases runsOf_cons_cases b l with ⟨rfl, hb⟩ | ⟨k, r, hl, hb⟩ | ⟨c, k, r, -, hl, hb⟩
    · rw [hb]; rfl
    · rw [hl, List.flatMap_cons] at ih
      rw [hb, List.flatMap_cons, List.replicate_succ, List.cons_append, ih]
    · rw [hl] at ih
      rw [hb, List.flatMap_cons, ih]; rfl

theorem sum_runsOf (l : List Byte) : ((runsOf l).map Prod.snd).sum = l.length := by
  conv_rhs => rw [← flatMap_runsOf l]
  rw [List.length_flatMap]
  simp only [List.length_replicate]

theorem runsOf_pos {l : List Byte} {r : Byte × Nat} (h : r ∈ runsOf l) : 1 ≤ r.2 := by
  induction l with
  | nil => exact nomatch h
  | cons b l ih =>
    rcases runsOf_cons_cases b l with ⟨-, hb⟩ | ⟨k, t, hl, hb⟩ | ⟨c, k, t, -, hl, hb⟩
    all_goals rw [hb] at h
    · rw [List.mem_singleton.mp h]
    · rcases List.mem_cons.mp h with rfl | hr
      · exact Nat.le_add_left 1 k
      · exact ih (by rw [hl]; exact List.mem_cons_of_mem _ hr)
    · rcases List.mem_cons.mp h with rfl | hr
      · exact Nat.le_refl 1
      · exact ih (by rw [hl]; exact hr)

/-- Neighbouring runs are of different characters. -/
theorem runsOf_chain (l : List Byte) : (runsOf l).IsChain (fun x y => x.1 ≠ y.1) := by
  induction l with
  | nil => exact List.IsChain.nil
  | cons b l ih =>
    rcases runsOf_cons_cases b l with ⟨-, hb⟩ | ⟨k, r, hl, hb⟩ | ⟨c, k, r, hc, hl, hb⟩
    · rw [hb]; exact List.isChain_singleton _
    · rw [hl] at ih
      rw [hb]
      cases r with
      | nil => exact List.isChain_singleton _
      | cons x r => exact List.isChain_cons_cons.mpr (List.isChain_cons_cons.mp ih)
    · rw [hl] at ih
      rw [hb]
      exact List.isChain_cons_cons.mpr ⟨hc.symm, ih⟩

theorem runsOf_neighbours {l : List Byte} {a b : List (Byte × Nat)} {x y : Byte × Nat}
    (h : runsOf l = a ++ x :: y :: b) : x.1 ≠ y.1 := by
  have hchain := runsOf_chain l
  rw [h] at hchain
  exact (List.isChain_cons_cons.mp (List.isChain_append.mp hchain).2.1).1

/-! ### A stretch within the first runs -/

/-- The columns of the first `k` runs. -/
def runReach (k : Nat) (l : List Byte) : Nat := (((runsOf l).take k).map Prod.snd).sum

theorem length_runsOf_cons_le (b : Byte) (l : List Byte) : (runsOf (b :: l)).length ≤ (runsOf l).length + 1 := by
  rcases runsOf_cons_cases b l with ⟨-, hb⟩ | ⟨k, r, hl, hb⟩ | ⟨c, k, r, -, hl, hb⟩
  · rw [hb]; exact Nat.le_add_left 1 _
  · rw [hb, hl]; exact Nat.le_succ _
  · rw [hb, hl]; exact Nat.le_refl _

/-- A stretch within the first `k` runs has at most `k` runs. -/
theorem length_runsOf_take_le {k w : Nat} {l : List Byte} (h : w ≤ runReach k l) :
    (runsOf (l.take w)).length ≤ k := by
  induction l generalizing k w with
  | nil => rw [List.take_nil]; exact Nat.zero_le k
  | cons b l ih =>
    cases w with
    | zero => exact Nat.zero_le k
    | succ w =>
      cases k with
      | zero => exact absurd h (Nat.not_succ_le_zero w)
      | succ k =>
        rw [List.take_succ_cons]
        unfold runReach at h ih
        rcases runsOf_cons_cases b l with ⟨rfl, -⟩ | ⟨j, r, hl, hb⟩ | ⟨c, j, r, -, hl, hb⟩
        · rw [List.take_nil]; exact Nat.succ_le_succ (Nat.zero_le k)
        · rw [hb, List.take_succ_cons, List.map_cons, List.sum_cons] at h
          have hw : (runsOf (l.take w)).length ≤ k + 1 := by
            refine ih ?_
            rw [hl, List.take_succ_cons, List.map_cons, List.sum_cons]
            dsimp only at h ⊢; omega
          cases w with
          | zero => exact Nat.succ_le_succ (Nat.zero_le k)
          | succ w =>
            have hhead : (l.take (w + 1))[0]? = some b := by
              rw [List.getElem?_take_of_lt (Nat.succ_pos w)]; exact head?_of_runsOf hl
            rcases runsOf_cons_cases b (l.take (w + 1)) with ⟨-, hb'⟩ | ⟨j', r', hl', hb'⟩ | ⟨c', j', r', hc', hl', -⟩
            · rw [hb']; exact Nat.succ_le_succ (Nat.zero_le k)
            · rw [hl'] at hw; rw [hb']; exact hw
            · exact absurd (Option.some.inj ((head?_of_runsOf hl').symm.trans hhead)) hc'
        · rw [hb, List.take_succ_cons, List.map_cons, List.sum_cons] at h
          refine Nat.le_trans (length_runsOf_cons_le b _) (Nat.succ_le_succ (ih ?_))
          rw [hl]; dsimp only at h ⊢; omega

/-- How often the character changes among the first `m` neighbours. -/
def changes (l : List Byte) (m : Nat) : Nat :=
  ((List.range m).filter (fun j => decide (l[j]? ≠ l[j + 1]?))).length

theorem changes_cons (b : Byte) (l : List Byte) (m : Nat) :
    changes (b :: l) (m + 1) = (if some b ≠ l[0]? then 1 else 0) + changes l m := by
  unfold changes
  rw [List.range_succ_eq_map, List.filter_cons, List.filter_map, List.getElem?_cons_zero]
  have htail : (fun j => decide ((b :: l)[j]? ≠ (b :: l)[j + 1]?)) ∘ Nat.succ =
      fun j => decide (l[j]? ≠ l[j + 1]?) := by
    funext j; rfl
  rw [htail]
  by_cases h : some b ≠ l[0]?
  · have hd : decide (some b ≠ (b :: l)[0 + 1]?) = true := decide_eq_true h
    rw [if_pos h, if_pos hd, List.length_cons, List.length_map, Nat.add_comm]
  · have hd : ¬ decide (some b ≠ (b :: l)[0 + 1]?) = true := by
      rw [decide_eq_true_eq]; exact h
    rw [if_neg h, if_neg hd, List.length_map, Nat.zero_add]

/-- Behind the columns of the first `k` runs the character has changed `k` times. -/
theorem le_changes {k m : Nat} {l : List Byte} (h : runReach k l ≤ m) (hm : m < l.length) : k ≤ changes l m := by
  induction l generalizing k m with
  | nil => exact absurd hm (Nat.not_lt_zero m)
  | cons b l ih =>
    cases k with
    | zero => exact Nat.zero_le _
    | succ k =>
      unfold runReach at h ih
      rcases runsOf_cons_cases b l with ⟨rfl, hb⟩ | ⟨j, r, hl, hb⟩ | ⟨c, j, r, hc, hl, hb⟩
      all_goals
        rw [hb, List.take_succ_cons, List.map_cons, List.sum_cons] at h
        dsimp only at h
      · rw [List.length_singleton] at hm; omega
      · obtain ⟨m, rfl⟩ : ∃ x, m = x + 1 := ⟨m - 1, by omega⟩
        rw [changes_cons]
        refine Nat.le_trans (ih (m := m) ?_ (Nat.lt_of_succ_lt_succ hm)) (Nat.le_add_left _ _)
        rw [hl, List.take_succ_cons, List.map_cons, List.sum_cons]
        dsimp only; omega
      · obtain ⟨m, rfl⟩ : ∃ x, m = x + 1 := ⟨m - 1, by omega⟩
        have hne : some b ≠ l[0]? := by
          rw [head?_of_runsOf hl]; exact fun he => hc (Option.some.inj he).symm
        have hrest := ih (k := k) (m := m) (by rw [hl]; omega) (Nat.lt_of_succ_lt_succ hm)
        rw [changes_cons, if_pos hne]; omega

/-! ### The last of a row of marks -/

theorem spanToLast_le (d : List Bool) : spanToLast d ≤ d.length := by
  induction d with
  | nil => exact Nat.le_refl 0
  | cons b d ih =>
    unfold spanToLast; rw [List.length_cons]
    split
    · split <;> omega
    · omega

/-- A mark at a place reaches behind it. -/
theorem lt_spanToLast {d : List Bool} {i : Nat} (h : d[i]? = some true) : i < spanToLast d := by
  induction d generalizing i with
  | nil => exact nomatch h
  | cons b d ih =>
    unfold spanToLast
    cases i with
    | zero =>
      cases h
      split
      · exact Nat.zero_lt_one
      · exact Nat.succ_pos _
    | succ i =>
      have := ih (i := i) h
      rw [if_neg (by omega)]; omega

/-- The last column of the span is marked. -/
theorem spanToLast_last {d : List Bool} (h : spanToLast d ≠ 0) : d[spanToLast d - 1]? = some true := by
  induction d with
  | nil => exact absurd rfl h
  | cons b d ih =>
    by_cases hd : spanToLast d = 0
    · have hspan : spanToLast (b :: d) = if b then 1 else 0 := by
        conv_lhs => unfold spanToLast
        exact if_pos hd
      cases b with
      | true => rw [hspan]; rfl
      | false => exact absurd hspan h
    · have hspan : spanToLast (b :: d) = spanToLast d + 1 := by
        conv_lhs => unfold spanToLast
        exact if_neg hd
      obtain ⟨k, hk⟩ : ∃ k, spanToLast d = k + 1 := ⟨spanToLast d - 1, by omega⟩
      have := ih hd
      rw [hk] at this
      rw [hspan, hk]; exact this

end Sys2Proof.Machine
end

section
/-!
PROOFS. THE FRAGMENT ENGINE: O25 (R129 to R131, R134, R217).
-/

namespace Sys2Proof.Machine

/-! ### The positions that differ -/

/-- A column of a line differs from the wanted text (R129). -/
def colDiffers (w : List Byte) (v : Vector (Option Byte) 24) (i : Fin 24) : Bool := decide (look v i ≠ w[i.val]?)

theorem length_padLine (t : Text) : (padLine t).length = 24 := by
  unfold padLine
  rw [List.length_take, List.length_append, List.length_replicate]; omega

theorem differs_eq {w : List Byte} (hw : w.length = 24) (v : Vector (Option Byte) 24) :
    differs w v.toList = (List.finRange 24).map (colDiffers w v) := by
  refine List.ext_getElem ?_ fun i h1 h2 => ?_
  · simp [differs, hw]
  · have hi : i < 24 := by simpa using h2
    simp only [differs, List.getElem_zipWith, List.getElem_map, List.getElem_finRange, colDiffers, look]
    rw [List.getElem?_eq_getElem (by omega)]
    rfl

theorem differs_getElem? {w : List Byte} (hw : w.length = 24) (v : Vector (Option Byte) 24) (i : Fin 24) :
    (differs w v.toList)[i.val]? = some (colDiffers w v i) := by
  rw [differs_eq hw, List.getElem?_map, List.getElem?_eq_getElem (by rw [List.length_finRange]; exact i.isLt),
    List.getElem_finRange]
  rfl

theorem length_differs {w : List Byte} (hw : w.length = 24) (v : Vector (Option Byte) 24) :
    (differs w v.toList).length = 24 := by
  rw [differs_eq hw, List.length_map, List.length_finRange]

theorem colDiffers_iff {w : List Byte} {v : Vector (Option Byte) 24} {i : Fin 24} :
    colDiffers w v i = true ↔ look v i ≠ w[i.val]? := decide_eq_true_iff

theorem colDiffers_false {w : List Byte} {v : Vector (Option Byte) 24} {i : Fin 24} :
    colDiffers w v i = false ↔ look v i = w[i.val]? := by
  rw [← Bool.not_eq_true, colDiffers_iff, not_not]

/-! ### The span of a line -/

/-- What the span of a line is: from the first column that differs to the last one within six runs (R129, R130). -/
structure LineSpan (w : List Byte) (v : Vector (Option Byte) 24) (span : Nat × Nat) : Prop where
  pos : 1 ≤ span.2
  fits : span.1 + span.2 ≤ 24
  before : ∀ i : Fin 24, i.val < span.1 → look v i = w[i.val]?
  ends : ∀ i : Fin 24, i.val = span.1 ∨ i.val + 1 = span.1 + span.2 → look v i ≠ w[i.val]?
  reach : span.2 ≤ runReach 6 (w.drop span.1)
  beyond : ∀ i : Fin 24, span.1 + span.2 ≤ i.val → look v i ≠ w[i.val]? → runReach 6 (w.drop span.1) ≤ i.val - span.1

theorem fragmentSpan_eq_none {w : List Byte} (hw : w.length = 24) {v : Vector (Option Byte) 24} :
    fragmentSpan w v.toList = none ↔ ∀ i : Fin 24, look v i = w[i.val]? := by
  have hnone : fragmentSpan w v.toList = none ↔ (differs w v.toList).findIdx? (fun b => b) = none := by
    unfold fragmentSpan; dsimp only
    split
    · next h => exact ⟨fun _ => h, fun _ => rfl⟩
    · next h => exact ⟨nofun, fun hn => absurd (h.symm.trans hn) nofun⟩
  rw [hnone, List.findIdx?_eq_none_iff, differs_eq hw]
  refine ⟨fun h i => colDiffers_false.mp (h _ (List.mem_map_of_mem (List.mem_finRange i))), fun h b hb => ?_⟩
  obtain ⟨i, -, rfl⟩ := List.mem_map.mp hb
  exact colDiffers_false.mpr (h i)

theorem lineSpan_of_fragmentSpan {w : List Byte} (hw : w.length = 24) {v : Vector (Option Byte) 24} {span : Nat × Nat}
    (h : fragmentSpan w v.toList = some span) : LineSpan w v span := by
  obtain ⟨start, hstart, hspan⟩ : ∃ start, (differs w v.toList).findIdx? (fun b => b) = some start ∧
      span = (start, spanToLast (((differs w v.toList).drop start).take (runReach 6 (w.drop start)))) := by
    unfold fragmentSpan at h; dsimp only at h
    split at h
    · exact nomatch h
    · next start hs => exact ⟨start, hs, (Option.some.inj h).symm⟩
  obtain ⟨hlt, hfirst, hbefore⟩ := List.findIdx?_eq_some_iff_getElem.mp hstart
  rw [length_differs hw] at hlt
  obtain ⟨marks, hmarks⟩ : ∃ marks, marks = ((differs w v.toList).drop start).take (runReach 6 (w.drop start)) :=
    ⟨_, rfl⟩
  rw [← hmarks] at hspan
  subst hspan
  have hat : ∀ i : Fin 24, start ≤ i.val → i.val - start < runReach 6 (w.drop start) →
      marks[i.val - start]? = some (colDiffers w v i) := by
    intro i hi hr
    rw [hmarks, List.getElem?_take_of_lt hr, List.getElem?_drop, Nat.add_sub_cancel' hi]
    exact differs_getElem? hw v i
  have hstartDiffers : colDiffers w v ⟨start, hlt⟩ = true := by
    have := differs_getElem? hw v ⟨start, hlt⟩
    rw [List.getElem?_eq_getElem (by rw [length_differs hw]; exact hlt)] at this
    exact (Option.some.inj this).symm.trans hfirst
  have hreachPos : 0 < runReach 6 (w.drop start) := by
    by_contra hno
    have := le_changes (k := 6) (m := 0) (l := w.drop start) (by omega) (by rw [List.length_drop]; omega)
    exact absurd this (by unfold changes; simp)
  have hpos : 0 < spanToLast marks :=
    lt_spanToLast (i := 0) (by
      have := hat ⟨start, hlt⟩ (Nat.le_refl _) (by rw [Nat.sub_self]; exact hreachPos)
      rw [Nat.sub_self] at this
      rw [this, hstartDiffers])
  have hle := spanToLast_le marks
  have hlen : marks.length ≤ runReach 6 (w.drop start) ∧ marks.length ≤ 24 - start := by
    rw [hmarks, List.length_take, List.length_drop, length_differs hw]
    exact ⟨Nat.min_le_left _ _, Nat.min_le_right _ _⟩
  refine ⟨hpos, ?_, fun i hi => ?_, fun i hi => ?_, Nat.le_trans hle hlen.1, fun i hi hd => ?_⟩
  · dsimp only; omega
  · have hfalse := hbefore i.val hi
    have := differs_getElem? hw v i
    rw [List.getElem?_eq_getElem (by rw [length_differs hw]; exact i.isLt)] at this
    rw [Option.some.inj this, Bool.not_eq_true] at hfalse
    exact colDiffers_false.mp hfalse
  · rw [← colDiffers_iff]
    rcases hi with hi | hi
    · rw [show i = ⟨start, hlt⟩ from Fin.ext hi]; exact hstartDiffers
    · have hlast := spanToLast_last (Nat.ne_of_gt hpos)
      dsimp only at hi
      have := hat i (by omega) (by omega)
      rw [show i.val - start = spanToLast marks - 1 by omega] at this
      exact Option.some.inj (this.symm.trans hlast)
  · by_contra hno
    rw [Nat.not_le] at hno
    dsimp only at hi hno
    have := lt_spanToLast ((hat i (by omega) hno).trans (congrArg some (colDiffers_iff.mpr hd)))
    omega

/-! ### The delivery -/

theorem look_deliverSpan (w : List Byte) (span : Nat × Nat) (v : Vector (Option Byte) 24) (i : Fin 24) :
    look (deliverSpan w span v) i =
      if span.1 ≤ i.val ∧ i.val < span.1 + span.2 then w[i.val]? else look v i := look_ofFn _ i

theorem countP_lt_of_imp {α : Type} {p q : α → Bool} {l : List α} (himp : ∀ x ∈ l, p x = true → q x = true) {a : α}
    (ha : a ∈ l) (hq : q a = true) (hp : p a = false) : l.countP p < l.countP q := by
  have hfilter : l.countP p = (l.filter q).countP p := by
    rw [List.countP_filter]
    refine List.countP_congr fun x hx => ?_
    rw [Bool.and_eq_true]
    exact ⟨fun h => ⟨h, himp x hx h⟩, fun h => h.1⟩
  rw [hfilter, List.countP_eq_length_filter (p := q)]
  exact List.countP_lt_length_iff.mpr ⟨a, List.mem_filter.mpr ⟨ha, hq⟩, hp⟩

theorem LineSpan.fewer {w : List Byte} {v : Vector (Option Byte) 24} {span : Nat × Nat} (hw : w.length = 24)
    (h : LineSpan w v span) :
    (differs w (deliverSpan w span v).toList).count true < (differs w v.toList).count true := by
  have hcount : ∀ u : Vector (Option Byte) 24,
      (differs w u.toList).count true = (List.finRange 24).countP (colDiffers w u) := by
    intro u
    rw [differs_eq hw, List.count, List.countP_map]
    refine List.countP_congr fun i _ => ?_
    simp
  have hfits := h.fits
  have hpos := h.pos
  rw [hcount, hcount]
  refine countP_lt_of_imp (a := ⟨span.1, by omega⟩) (fun i _ hi => ?_) (List.mem_finRange _)
    (colDiffers_iff.mpr (h.ends _ (Or.inl rfl))) (colDiffers_false.mpr ?_)
  · rw [colDiffers_iff, look_deliverSpan] at hi
    rw [colDiffers_iff]
    split at hi
    · exact absurd rfl hi
    · exact hi
  · rw [look_deliverSpan]
    exact if_pos ⟨Nat.le_refl _, by dsimp only; omega⟩

/-! ### The fragment of a line -/

/-- What a fragment does for the line it carries. -/
structure LineFragment (w : List Byte) (v : Vector (Option Byte) 24) (start : Nat) (runs : List (Byte × Nat))
    (new : Vector (Option Byte) 24) : Prop where
  runsPos : 1 ≤ runs.length
  runsMax : runs.length ≤ 6
  counts : ∀ r ∈ runs, 1 ≤ r.2 ∧ r.2 ≤ 24
  fits : start + (runs.map Prod.snd).sum ≤ 24
  before : ∀ i : Fin 24, i.val < start → look v i = w[i.val]?
  ends : ∀ i : Fin 24, i.val = start ∨ i.val + 1 = start + (runs.map Prod.snd).sum → look v i ≠ w[i.val]?
  written : runs.flatMap (fun r => List.replicate r.2 r.1) = (w.drop start).take (runs.map Prod.snd).sum
  neighbours : ∀ (a b : List (Byte × Nat)) (x y : Byte × Nat), runs = a ++ x :: y :: b → x.1 ≠ y.1
  beyond : ∀ i : Fin 24, start + (runs.map Prod.snd).sum ≤ i.val → look v i ≠ w[i.val]? →
    6 ≤ ((List.range (i.val - start)).filter (fun j => decide (w[start + j]? ≠ w[start + j + 1]?))).length
  inside : ∀ i : Fin 24, start ≤ i.val ∧ i.val < start + (runs.map Prod.snd).sum → look new i = w[i.val]?
  outside : ∀ i : Fin 24, i.val < start ∨ start + (runs.map Prod.snd).sum ≤ i.val → look new i = look v i

theorem LineSpan.fragment {w : List Byte} {v : Vector (Option Byte) 24} {span : Nat × Nat} (hw : w.length = 24)
    (h : LineSpan w v span) :
    LineFragment w v span.1 (runsOf ((w.drop span.1).take span.2)) (deliverSpan w span v) := by
  obtain ⟨hpos, hfits, hbefore, hends, hreach, hbeyond⟩ := h
  have hsum : ((runsOf ((w.drop span.1).take span.2)).map Prod.snd).sum = span.2 := by
    rw [sum_runsOf, List.length_take, List.length_drop, hw]; omega
  refine ⟨?_, length_runsOf_take_le hreach, fun r hr => ⟨runsOf_pos hr, ?_⟩, ?_, hbefore, ?_, ?_,
    fun a b x y => runsOf_neighbours, fun i hi hd => ?_, fun i hi => ?_, fun i hi => ?_⟩
  · refine List.length_pos_iff.mpr fun hnil => ?_
    rw [hnil] at hsum
    exact absurd hsum.symm (Nat.ne_of_gt hpos)
  · have := List.le_sum_of_mem (List.mem_map_of_mem (f := Prod.snd) hr)
    rw [hsum] at this; omega
  · rw [hsum]; exact hfits
  · rw [hsum]; exact hends
  · rw [hsum]; exact flatMap_runsOf _
  · rw [hsum] at hi
    have := le_changes (hbeyond i hi hd) (by rw [List.length_drop, hw]; omega)
    unfold changes at this
    simp only [List.getElem?_drop] at this
    exact this
  · rw [hsum] at hi
    rw [look_deliverSpan, if_pos hi]
  · rw [hsum] at hi
    rw [look_deliverSpan, if_neg (by omega)]

/-! ### The choice of a line -/

section chosen
variable {s : State} {n : Seat}

theorem nextFragment_of_line1 {span : Nat × Nat}
    (h : fragmentSpan (wantedLine1 s n) (look s.screens.shown n).line1.toList = some span) :
    nextFragment s n = some (spanFragment 1 (wantedLine1 s n) span,
      { look s.screens.shown n with
        line1 := deliverSpan (wantedLine1 s n) span (look s.screens.shown n).line1 }) := by
  unfold nextFragment; dsimp only; rw [h]

theorem nextFragment_of_line2 {span : Nat × Nat}
    (h1 : fragmentSpan (wantedLine1 s n) (look s.screens.shown n).line1.toList = none)
    (h : fragmentSpan (wantedLine2 s n) (look s.screens.shown n).line2.toList = some span) :
    nextFragment s n = some (spanFragment 2 (wantedLine2 s n) span,
      { look s.screens.shown n with
        line2 := deliverSpan (wantedLine2 s n) span (look s.screens.shown n).line2 }) := by
  unfold nextFragment; dsimp only; rw [h1]; dsimp only; rw [h]

theorem nextFragment_of_neither
    (h1 : fragmentSpan (wantedLine1 s n) (look s.screens.shown n).line1.toList = none)
    (h2 : fragmentSpan (wantedLine2 s n) (look s.screens.shown n).line2.toList = none) : nextFragment s n = none := by
  unfold nextFragment; dsimp only; rw [h1]; dsimp only; rw [h2]

end chosen

theorem differingPositions_setShown (n : Seat) (x : Shown) (s : State) : differingPositions (setShown n x s) n =
    (differs (wantedLine1 s n) x.line1.toList).count true + (differs (wantedLine2 s n) x.line2.toList).count true := by
  unfold differingPositions
  rw [look_setShown_self]
  rfl

/-- Settles O25: the span of the line that is chosen, its runs and its delivery. -/
theorem fragmentsFitAndProgress : Obligations.FragmentsFitAndProgress := by
  have hw1 : ∀ s n, (wantedLine1 s n).length = 24 := fun s n => length_padLine _
  have hw2 : ∀ s n, (wantedLine2 s n).length = 24 := fun s n => length_padLine _
  refine ⟨fun s n f shown h => ?_, fun s n => ?_⟩
  · dsimp only
    cases h1 : fragmentSpan (wantedLine1 s n) (look s.screens.shown n).line1.toList with
    | some span =>
      rw [nextFragment_of_line1 h1] at h
      cases h
      have hspan := lineSpan_of_fragmentSpan (hw1 s n) h1
      obtain ⟨k1, k2, k3, k4, k5, k6, k7, k8, k9, k10, k11⟩ := hspan.fragment (hw1 s n)
      refine ⟨Or.inl rfl, k1, k2, k3, k4, nofun, k5, k6, k7, k8, k9, k10, k11, fun _ => rfl, nofun, ?_⟩
      rw [differingPositions_setShown]
      exact Nat.add_lt_add_right (hspan.fewer (hw1 s n)) _
    | none =>
      cases h2 : fragmentSpan (wantedLine2 s n) (look s.screens.shown n).line2.toList with
      | none => rw [nextFragment_of_neither h1 h2] at h; exact nomatch h
      | some span =>
        rw [nextFragment_of_line2 h1 h2] at h
        cases h
        have hspan := lineSpan_of_fragmentSpan (hw2 s n) h2
        obtain ⟨k1, k2, k3, k4, k5, k6, k7, k8, k9, k10, k11⟩ := hspan.fragment (hw2 s n)
        refine ⟨Or.inr rfl, k1, k2, k3, k4, fun _ => (fragmentSpan_eq_none (hw1 s n)).mp h1, k5, k6, k7, k8, k9, k10,
          k11, nofun, fun _ => rfl, ?_⟩
        rw [differingPositions_setShown]
        exact Nat.add_lt_add_left (hspan.fewer (hw2 s n)) _
  · refine ⟨fun h i => ?_, fun h => ?_⟩
    · cases h1 : fragmentSpan (wantedLine1 s n) (look s.screens.shown n).line1.toList with
      | some span => rw [nextFragment_of_line1 h1] at h; exact nomatch h
      | none =>
        cases h2 : fragmentSpan (wantedLine2 s n) (look s.screens.shown n).line2.toList with
        | some span => rw [nextFragment_of_line2 h1 h2] at h; exact nomatch h
        | none => exact ⟨(fragmentSpan_eq_none (hw1 s n)).mp h1 i, (fragmentSpan_eq_none (hw2 s n)).mp h2 i⟩
    · exact nextFragment_of_neither ((fragmentSpan_eq_none (hw1 s n)).mpr fun i => (h i).1)
        ((fragmentSpan_eq_none (hw2 s n)).mpr fun i => (h i).2)

end Sys2Proof.Machine
end

section
/-!
PROOFS. THE VOICE GATE: its evaluation and its reports, O41 (R42, R110, R111, R113, R114).
-/

namespace Sys2Proof.Machine

/-! ### What is owed does not move the floor -/

/-- The end of a floor event reads nothing of what is owed. -/
theorem afterFloor_withDue (s : State) (x : Due) : afterFloor (s.withDue x) = (afterFloor s).withDue x := by
  have hgraft : afterFloor (s.withDue x) = graft (s.withDue x) (afterFloor s) := graft_afterFloor (s.withDue x) s
  rw [hgraft]
  obtain ⟨-, hlinks, haudio, -, halert, hmixer, hscreens, hdisplays, -, hsched, hport, hsent, -, hdraws, hpending⟩ :=
    floorFrame_afterFloor s
  generalize afterFloor s = t at *
  unfold graft State.withDue
  rw [← hlinks, ← haudio, ← halert, ← hmixer, ← hscreens, ← hdisplays, ← hsched, ← hport, ← hsent, ← hdraws, ← hpending]

theorem closeVoiceHold_withDue (n : Seat) (s : State) (x : Due) :
    closeVoiceHold n (s.withDue x) = (closeVoiceHold n s).withDue x := by
  unfold closeVoiceHold
  by_cases h : hasEntry s.floor.openList n = true
  · rw [if_pos h, if_pos (show hasEntry (s.withDue x).floor.openList n = true from h)]; rfl
  · rw [if_neg h, if_neg (show ¬ hasEntry (s.withDue x).floor.openList n = true from h)]

theorem presenceStarts_withDue (n : Seat) (s : State) (x : Due) :
    presenceStarts n (s.withDue x) = (presenceStarts n s).withDue x := by
  unfold presenceStarts
  by_cases h : s.floor.phase = .running ∧ micState s.floor n = .armed
  · rw [if_pos h, if_pos (show (s.withDue x).floor.phase = .running ∧ micState (s.withDue x).floor n = .armed from h)]
    exact afterFloor_withDue s x
  · rw [if_neg h, if_neg (show ¬ ((s.withDue x).floor.phase = .running ∧
      micState (s.withDue x).floor n = .armed) from h)]

theorem presenceEnds_withDue (n : Seat) (s : State) (x : Due) :
    presenceEnds n (s.withDue x) = (presenceEnds n s).withDue x := by
  unfold presenceEnds
  by_cases h : s.floor.phase = .running ∧ micState s.floor n = .opened ∧ inFilteredSet s n = true ∧
      (look s.gate.filters n).present = false
  · rw [if_pos h, if_pos (show (s.withDue x).floor.phase = .running ∧ micState (s.withDue x).floor n = .opened ∧
      inFilteredSet (s.withDue x) n = true ∧ (look (s.withDue x).gate.filters n).present = false from h),
      closeVoiceHold_withDue, afterFloor_withDue]
  · rw [if_neg h, if_neg (show ¬ ((s.withDue x).floor.phase = .running ∧ micState (s.withDue x).floor n = .opened ∧
      inFilteredSet (s.withDue x) n = true ∧ (look (s.withDue x).gate.filters n).present = false) from h)]

theorem floorFrame_presenceStarts (n : Seat) (s : State) : floorFrame s (presenceStarts n s) := by
  unfold presenceStarts; split
  · exact floorFrame_afterFloor s
  · exact floorFrame_refl s

/-! ### The reports handed over -/

/-- Nothing waits for the Floor Controller. -/
def withoutReports (s : State) : State := s.withDue { s.due with reports := [] }

theorem handAll_eq (s : State) :
    handAll s = s.due.reports.foldl (fun t r => handOne r t) (withoutReports s) := rfl

theorem withoutReports_of_nil {s : State} (h : s.due.reports = []) : withoutReports s = s := by
  unfold withoutReports; rw [← h]; rfl

theorem handAll_of_nil {s : State} (h : s.due.reports = []) : handAll s = s := by
  rw [handAll_eq, h]; exact withoutReports_of_nil h

/-- The starts are handed over in turn, and what begins with an end waits (R113, notes/assumptions/16.md). -/
theorem handStarts_eq {rest : List VoiceReport} (h : ∀ r, rest.head? = some r → r.started = false) (starts : List Seat)
    (s : State) : handStarts (starts.map (fun n => { seat := n, started := true }) ++ rest) s =
      Statements.startsTaken starts rest s := by
  induction starts generalizing s with
  | nil =>
    cases rest with
    | nil => rfl
    | cons r rest => exact if_neg (by rw [h r rfl]; nofun)
  | cons n starts ih => exact ih (presenceStarts n s)

theorem handStarts_due (l : List VoiceReport) (s : State) : (handStarts l s).due.voice = s.due.voice := by
  induction l generalizing s with
  | nil => rfl
  | cons r l ih =>
    unfold handStarts; split
    · rw [ih, (floorFrame_presenceStarts r.seat s).due]
    · rfl

/-- Handing over the starts first changes nothing of what handing over every report comes to. -/
theorem handAll_handStarts (l : List VoiceReport) (s : State) :
    handAll (handStarts l s) = l.foldl (fun t r => handOne r t) (withoutReports s) := by
  induction l generalizing s with
  | nil => rfl
  | cons r l ih =>
    cases hr : r.started with
    | false =>
      have hwait : handStarts (r :: l) s = s.withDue { s.due with reports := r :: l } := if_neg (by rw [hr]; nofun)
      rw [hwait]; rfl
    | true =>
      have hstep : handStarts (r :: l) s = handStarts l (presenceStarts r.seat s) := if_pos hr
      have hone : handOne r (withoutReports s) = withoutReports (presenceStarts r.seat s) := by
        have : handOne r (withoutReports s) = presenceStarts r.seat (withoutReports s) := if_pos hr
        rw [this]
        unfold withoutReports
        rw [presenceStarts_withDue, (floorFrame_presenceStarts r.seat s).due]
      rw [hstep, ih, List.foldl_cons, hone]

theorem settleVoice_of_sameHand {s u : State} (hv : u.due.voice = s.due.voice) (h : handAll u = handAll s) :
    settleVoice s = settleVoice u := by
  unfold settleVoice; rw [hv, h]

end Sys2Proof.Machine
end

section
/-!
PROOFS. VOICE REPORTS MOVE THE FLOOR: O41 (R42, R110, R111, R113, R114).
-/

namespace Sys2Proof.Machine

/-! ### One filter -/

theorem moveFilter_cases (e : VoiceDue) (p : Nat) (f : VoiceFilter) :
    (f.present = false → p < e.threshold → moveFilter e p f = { f with run := 0 }) ∧
    (f.present = false → e.threshold ≤ p → f.run = 0 →
      moveFilter e p f = { f with run := 1, runStamp := e.stamp }) ∧
    (f.present = false → e.threshold ≤ p → f.run = 1 → moveFilter e p f = { f with run := 2 }) ∧
    (f.present = false → e.threshold ≤ p → f.run = 2 →
      moveFilter e p f = { f with present := true, start := f.runStamp, run := 0, hold := e.hold }) ∧
    (f.present = true → e.threshold ≤ p → moveFilter e p f = { f with hold := e.hold }) ∧
    (f.present = true → p < e.threshold → 1 < f.hold → moveFilter e p f = { f with hold := f.hold - 1 }) ∧
    (f.present = true → p < e.threshold → f.hold = 1 →
      moveFilter e p f = { f with present := false, run := 0, hold := 0 }) := by
  unfold moveFilter
  refine ⟨fun h1 h2 => ?_, fun h1 h2 h3 => ?_, fun h1 h2 h3 => ?_, fun h1 h2 h3 => ?_, fun h1 h2 => ?_,
    fun h1 h2 h3 => ?_, fun h1 h2 h3 => ?_⟩
  · rw [if_neg (by rw [h1]; nofun), if_neg (Nat.not_le.mpr h2)]
  · rw [if_neg (by rw [h1]; nofun), if_pos h2, if_pos h3]
  · rw [if_neg (by rw [h1]; nofun), if_pos h2, if_neg (by omega), if_pos h3]
  · rw [if_neg (by rw [h1]; nofun), if_pos h2, if_neg (by omega), if_neg (by omega)]
  · rw [if_pos h1, if_pos h2]
  · rw [if_pos h1, if_neg (Nat.not_le.mpr h2), if_neg (Nat.not_le.mpr h3)]
  · rw [if_pos h1, if_neg (Nat.not_le.mpr h2), if_pos (by omega)]

theorem evaluated_of_filtered {s : State} {e : VoiceDue} {n : Seat} (h : inFilteredSet s n = true) :
    evaluated s e n = moveFilter e (look s.gate.lastPeak ⟨n.val, by omega⟩) (look s.gate.filters n) := if_pos h

theorem evaluated_of_outside {s : State} {e : VoiceDue} {n : Seat} (h : inFilteredSet s n = false) :
    evaluated s e n = look s.gate.filters n := if_neg (by rw [h]; nofun)

theorem look_evaluate (s : State) (e : VoiceDue) (n : Seat) :
    look (evaluate e s).gate.filters n = evaluated s e n := look_ofFn _ n

/-- What an evaluation leaves alone. -/
theorem evaluate_frame (e : VoiceDue) (s : State) : (evaluate e s).floor = s.floor ∧ (evaluate e s).log = s.log ∧
    (evaluate e s).gate.meters = s.gate.meters ∧ (evaluate e s).gate.lastPeak = s.gate.lastPeak ∧
    (evaluate e s).due.voice = none ∧ ∀ n, inFilteredSet (evaluate e s) n = inFilteredSet s n := by
  unfold evaluate; dsimp only
  generalize Vector.ofFn (evaluated s e) = filters
  exact ⟨rfl, rfl, rfl, rfl, rfl, fun _ => rfl⟩

/-! ### The reports of an evaluation -/

/-- The reports that an evaluation makes (R113). -/
def evaluationReports (e : VoiceDue) (s : State) : List VoiceReport :=
  allSeats.filterMap (fun n => reportOf n (look s.gate.filters n) (evaluated s e n))

theorem reportOf_eq_some {n : Seat} {old new : VoiceFilter} {r : VoiceReport} :
    reportOf n old new = some r ↔ old.present ≠ new.present ∧ r = { seat := n, started := new.present } := by
  unfold reportOf
  by_cases h : old.present = new.present
  · rw [if_pos h]; exact ⟨nofun, fun hr => absurd h hr.1⟩
  · rw [if_neg h, Option.some_inj]; exact ⟨fun hr => ⟨h, hr.symm⟩, fun hr => hr.2.symm⟩

theorem mem_evaluationReports {e : VoiceDue} {s : State} {r : VoiceReport} : r ∈ evaluationReports e s ↔
    (look s.gate.filters r.seat).present ≠ (evaluated s e r.seat).present ∧
      r.started = (evaluated s e r.seat).present := by
  unfold evaluationReports
  rw [List.mem_filterMap]
  constructor
  · rintro ⟨n, -, hn⟩
    obtain ⟨hne, rfl⟩ := reportOf_eq_some.mp hn
    exact ⟨hne, rfl⟩
  · rintro ⟨hne, hstart⟩
    exact ⟨r.seat, List.mem_finRange _, reportOf_eq_some.mpr ⟨hne, by rw [← hstart]⟩⟩

/-- The reports stand in ascending seat number (R113). -/
theorem evaluationReports_sorted (e : VoiceDue) (s : State) :
    (evaluationReports e s).Pairwise (fun a b => a.seat < b.seat) := by
  unfold evaluationReports
  refine (List.pairwise_lt_finRange 64).filterMap _ fun a b hab x hx y hy => ?_
  obtain ⟨-, rfl⟩ := reportOf_eq_some.mp hx
  obtain ⟨-, rfl⟩ := reportOf_eq_some.mp hy
  exact hab

theorem evaluate_due (e : VoiceDue) (s : State) : (evaluate e s).due =
    { s.due with voice := none, reports := s.due.reports ++ evaluationReports e s } := by
  unfold evaluate evaluationReports; dsimp only
  generalize Vector.ofFn (evaluated s e) = filters
  rfl

/-! ### Reports with every slot taken -/

/-- The floor, the log, the peaks and the filters of the filtered set stay. -/
structure VoiceStill (s t : State) : Prop where
  floor : t.floor = s.floor
  log : t.log = s.log
  meters : t.gate.meters = s.gate.meters
  lastPeak : t.gate.lastPeak = s.gate.lastPeak
  filtered : ∀ n, inFilteredSet t n = inFilteredSet s n
  filters : ∀ n, inFilteredSet s n = true → look t.gate.filters n = look s.gate.filters n

theorem VoiceStill.trans {s t u : State} (h : VoiceStill s t) (k : VoiceStill t u) : VoiceStill s u where
  floor := k.floor.trans h.floor
  log := k.log.trans h.log
  meters := k.meters.trans h.meters
  lastPeak := k.lastPeak.trans h.lastPeak
  filtered n := (k.filtered n).trans (h.filtered n)
  filters n hn := (k.filters n ((h.filtered n).trans hn)).trans (h.filters n hn)

theorem voiceStill_presenceStarts {s : State} (h : slotFree s.floor = false) (n : Seat) :
    VoiceStill s (presenceStarts n s) := by
  unfold presenceStarts; split
  · rw [afterFloor_of_done (advanceOnce_of_notFree h)]
    obtain ⟨-, hpeak, hmeters, -, -, -⟩ := gateFrame_restFilters s
    exact ⟨restFilters_floor s, withGate_log s _, hmeters, hpeak, inFilteredSet_restFilters s,
      fun n hn => by rw [look_restFilters, if_pos hn]⟩
  · exact ⟨rfl, rfl, rfl, rfl, fun _ => rfl, fun _ _ => rfl⟩

theorem voiceStill_handStarts {s : State} (h : slotFree s.floor = false) (l : List VoiceReport) :
    VoiceStill s (handStarts l s) := by
  induction l generalizing s with
  | nil => exact ⟨rfl, rfl, rfl, rfl, fun _ => rfl, fun _ _ => rfl⟩
  | cons r l ih =>
    unfold handStarts; split
    · have hone := voiceStill_presenceStarts h r.seat
      exact hone.trans (ih (by rw [hone.floor]; exact h))
    · exact ⟨rfl, rfl, rfl, rfl, fun _ => rfl, fun _ _ => rfl⟩

/-! ### A presence end -/

theorem mem_insertSeat {n m : Seat} {l : List Seat} : m ∈ insertSeat n l ↔ m = n ∨ m ∈ l := by
  induction l with
  | nil => unfold insertSeat; simp
  | cons a l ih =>
    unfold insertSeat
    split
    · simp
    · split
      · next h => subst h; simp
      · rw [List.mem_cons, ih, List.mem_cons]
        exact ⟨fun h => h.elim (fun ha => Or.inr (Or.inl ha)) (fun h => h.imp_right Or.inr),
          fun h => h.elim (fun hn => Or.inr (Or.inl hn)) (fun h => h.imp_right Or.inr)⟩

/-- The floor in which a seat's entry is closed and the seat armed (R114). -/
def voiceClosedFloor (n : Seat) (f : Floor) : Floor :=
  { f with openList := f.openList.filter (fun x => decide (x.seat ≠ n)), armed := insertSeat n f.armed }

theorem micState_voiceClosedFloor {n m : Seat} (h : m ≠ n) (f : Floor) :
    micState (voiceClosedFloor n f) m = micState f m := by
  have hopen : hasEntry (voiceClosedFloor n f).openList m = hasEntry f.openList m := by
    rw [Bool.eq_iff_iff, hasEntry_iff, hasEntry_iff]
    simp only [voiceClosedFloor, List.mem_map, List.mem_filter, decide_eq_true_eq]
    exact ⟨fun ⟨x, ⟨hx, _⟩, hm⟩ => ⟨x, hx, hm⟩, fun ⟨x, hx, hm⟩ => ⟨x, ⟨hx, hm ▸ h⟩, hm⟩⟩
  have harmed : (voiceClosedFloor n f).armed.contains m = f.armed.contains m := by
    rw [Bool.eq_iff_iff, List.contains_iff_mem, List.contains_iff_mem]
    exact mem_insertSeat.trans ⟨fun hm => hm.resolve_left h, Or.inr⟩
  unfold micState
  rw [hopen, harmed]
  rfl

/-- The state in which a presence end has closed the entry (R114). -/
def voiceClosed (n : Seat) (s : State) : State :=
  record (.micClose .voiceHold) (some n) (s.withFloor (voiceClosedFloor n s.floor))

theorem closeVoiceHold_eq {n : Seat} {s : State} (h : micState s.floor n = .opened) :
    closeVoiceHold n s = voiceClosed n s := if_pos (micState_opened.mp h)

theorem mode_of_filtered {s : State} {n : Seat} (h : inFilteredSet s n = true) : s.floor.setup.mode = .voice := by
  unfold inFilteredSet at h
  rw [Bool.and_eq_true, Bool.and_eq_true, decide_eq_true_eq] at h
  exact h.1.1

/-- With nobody ARMED whose voice is present, no slot is handed on. -/
theorem advanceOnce_voiceClosed {s : State} {n : Seat} (hmode : s.floor.setup.mode = .voice)
    (hn : (look s.gate.filters n).present = false)
    (hothers : ∀ m : Seat, micState s.floor m = .armed → (look s.gate.filters m).present = false) :
    advanceOnce (voiceClosed n s) = none := by
  have hcandidate : candidate (voiceClosed n s) = none := by
    refine candidate_eq_none fun m hm => ?_
    have hfilters : (voiceClosed n s).gate.filters = s.gate.filters := rfl
    rw [hfilters]
    by_cases h : m = n
    · rw [h]; exact hn
    · have hfloor : (voiceClosed n s).floor = voiceClosedFloor n s.floor := rfl
      rw [hfloor, micState_voiceClosedFloor h] at hm
      exact hothers m hm
  have hvoice : (voiceClosed n s).floor.setup.mode = .voice := hmode
  unfold advanceOnce
  rw [hvoice, hcandidate]
  dsimp only
  rw [Option.map_none, ite_self]

/-! ### The rows -/

theorem exec_voiceEvaluation {s : State} {e : VoiceDue} (h : s.due.voice = some e) : exec .voiceEvaluation s =
    .next (handStarts (s.due.reports ++ evaluationReports e s) (evaluate e s)) := by
  refine congrArg Host.Outcome.next ?_
  unfold voiceEvaluate; rw [h]; rfl

theorem exec_voiceEvaluation_of_none {s : State} (h : s.due.voice = none) : exec .voiceEvaluation s = .next s := by
  refine congrArg Host.Outcome.next ?_
  unfold voiceEvaluate; rw [h]

theorem exec_presenceEnd {s : State} {n : Seat} {behind : List VoiceReport}
    (h : s.due.reports = { seat := n, started := false } :: behind) : exec (.presenceEnd n) s =
      .next (handStarts behind (presenceEnds n (s.withDue { s.due with reports := behind }))) := by
  show execPresenceEnd n s = _
  unfold execPresenceEnd; rw [h]; dsimp only
  rw [if_pos ⟨rfl, rfl⟩]

theorem exec_presenceEnd_of_not {s : State} {n : Seat}
    (h : s.due.reports.head? ≠ some { seat := n, started := false }) : exec (.presenceEnd n) s = .next s := by
  show execPresenceEnd n s = _
  unfold execPresenceEnd
  cases hr : s.due.reports with
  | nil => rfl
  | cons r rest =>
    rw [hr] at h
    refine congrArg Host.Outcome.next (if_neg fun hcond => h ?_)
    obtain ⟨h1, h2⟩ := hcond
    rw [List.head?_cons, ← h1, ← h2]

theorem handStarts_of_upToEnd {l : List VoiceReport} {starts : List Seat} {rest : List VoiceReport}
    (h : Statements.startsUpToEnd l starts rest) (s : State) :
    handStarts l s = Statements.startsTaken starts rest s := by
  obtain ⟨rfl, hrest⟩ := h
  exact handStarts_eq hrest starts s

theorem presenceEnds_of_ends {s : State} {n : Seat} (h : s.floor.phase = .running ∧ micState s.floor n = .opened ∧
    inFilteredSet s n = true ∧ (look s.gate.filters n).present = false) :
    presenceEnds n s = afterFloor (voiceClosed n s) := by
  rw [← closeVoiceHold_eq h.2.1]; exact if_pos h

theorem presenceEnds_of_not {s : State} {n : Seat} (h : ¬ (s.floor.phase = .running ∧ micState s.floor n = .opened ∧
    inFilteredSet s n = true ∧ (look s.gate.filters n).present = false)) : presenceEnds n s = s := if_neg h

theorem floorFrame_presenceEnds (n : Seat) (s : State) : floorFrame s (presenceEnds n s) := by
  unfold presenceEnds; split
  · next h =>
    rw [closeVoiceHold_eq h.2.1]
    exact floorFrame_trans (floorFrame_trans (floorFrame_withFloor s _) (floorFrame_record _ _ _))
      (floorFrame_afterFloor _)
  · exact floorFrame_refl s

/-- Every report is handed over whether or not the first end has been taken by its row. -/
theorem handAll_presenceEnd {s : State} {n : Seat} {behind : List VoiceReport}
    (h : s.due.reports = { seat := n, started := false } :: behind) :
    handAll (handStarts behind (presenceEnds n (s.withDue { s.due with reports := behind }))) = handAll s := by
  have hend : withoutReports (presenceEnds n (s.withDue { s.due with reports := behind })) =
      presenceEnds n (withoutReports s) := by
    unfold withoutReports
    rw [presenceEnds_withDue, presenceEnds_withDue]
    rfl
  rw [handAll_handStarts, hend, handAll_eq, h]
  rfl

/-- Settles O41: the evaluation by its filters and reports, and the rows that hand the reports over. -/
theorem voiceReportsMoveTheFloor : Obligations.VoiceReportsMoveTheFloor := by
  refine ⟨fun s e he => ?_, fun s hv _ => exec_voiceEvaluation_of_none hv, fun s n starts behind rest hr hbehind => ?_,
    fun s n h => exec_presenceEnd_of_not h, fun s n hr hphase hmic hset hpres hothers => ?_, fun s hv hr => ?_,
    fun s u hv hr hexec => ?_, fun s u n behind hr hexec => ?_⟩
  · refine ⟨evaluate e s, evaluationReports e s, rfl, fun n f p hn hf hp => ?_, fun n hn => ?_,
      evaluationReports_sorted e s, fun r => ?_, fun starts rest h => ?_, fun hfull => ?_⟩
    · rw [look_evaluate, evaluated_of_filtered hn, ← hf, ← hp]
      exact moveFilter_cases e p f
    · rw [look_evaluate, evaluated_of_outside hn]
    · rw [look_evaluate]; exact mem_evaluationReports
    · rw [exec_voiceEvaluation he, handStarts_of_upToEnd h]
    · obtain ⟨efloor, elog, emeters, epeak, evoice, efiltered⟩ := evaluate_frame e s
      have hfull' : slotFree (evaluate e s).floor = false := by rw [efloor]; exact hfull
      have hstill := voiceStill_handStarts hfull' (s.due.reports ++ evaluationReports e s)
      have hvoice := (handStarts_due (s.due.reports ++ evaluationReports e s) (evaluate e s)).trans evoice
      exact ⟨_, exec_voiceEvaluation he, hvoice, hstill.floor.trans efloor, hstill.log.trans elog,
        hstill.meters.trans emeters, hstill.lastPeak.trans epeak,
        fun n hn => hstill.filters n ((efiltered n).trans hn)⟩
  · dsimp only
    refine ⟨fun hends => ?_, fun hends => ?_⟩
    · rw [exec_presenceEnd hr, handStarts_of_upToEnd hbehind,
        presenceEnds_of_ends (s := s.withDue { s.due with reports := behind }) hends]
      rfl
    · rw [exec_presenceEnd hr, handStarts_of_upToEnd hbehind,
        presenceEnds_of_not (s := s.withDue { s.due with reports := behind }) hends]
  · obtain ⟨w, hw⟩ : ∃ w, w = s.withDue { s.due with reports := [] } := ⟨_, rfl⟩
    obtain ⟨wfloor, wgate, wlog, wseats, wmixer, wscreens, wdue⟩ : w.floor = s.floor ∧ w.gate = s.gate ∧
        w.log = s.log ∧ w.seats = s.seats ∧ w.mixer = s.mixer ∧ w.screens = s.screens ∧
        w.due = { s.due with reports := [] } := by
      rw [hw]; exact ⟨rfl, rfl, rfl, rfl, rfl, rfl, rfl⟩
    have hset' : inFilteredSet w n = true := by rw [hw]; exact hset
    have hnone : advanceOnce (voiceClosed n w) = none :=
      advanceOnce_voiceClosed (mode_of_filtered hset') (by rw [wgate]; exact hpres)
        (by rw [wfloor, wgate]; exact hothers)
    have hend : presenceEnds n w = restFilters (voiceClosed n w) := by
      rw [presenceEnds_of_ends (s := w) (by rw [wfloor, wgate]; exact ⟨hphase, hmic, hset', hpres⟩),
        afterFloor_of_done hnone]
    have hexec := exec_presenceEnd hr
    rw [← hw, hend] at hexec
    have hnewest := newestIs_record (.micClose .voiceHold) (some n) (w.withFloor (voiceClosedFloor n w.floor))
    obtain ⟨x, hx⟩ : ∃ x, x = voiceClosed n w := ⟨_, rfl⟩
    obtain ⟨xfloor, xseq, xdue, xseats, xmixer, xscreens⟩ : x.floor = voiceClosedFloor n w.floor ∧
        x.log.nextSeq = w.log.nextSeq + 1 ∧ x.due = w.due ∧ x.seats = w.seats ∧ x.mixer = w.mixer ∧
        x.screens = w.screens := by
      rw [hx]; exact ⟨rfl, rfl, rfl, rfl, rfl, rfl⟩
    rw [← hx] at hexec
    rw [show record _ _ _ = x from hx.symm] at hnewest
    have hmeeting : meetingId (w.withFloor (voiceClosedFloor n w.floor)).floor.meeting = meetingId s.floor.meeting := by
      rw [← wfloor]; rfl
    rw [hmeeting] at hnewest
    obtain ⟨r, hr⟩ : ∃ r, r = restFilters x := ⟨_, rfl⟩
    have rfloor : r.floor = x.floor := by rw [hr]; exact restFilters_floor x
    obtain ⟨rlog, rdue, rseats, rmixer, rscreens, rclock⟩ : r.log = x.log ∧ r.due = x.due ∧ r.seats = x.seats ∧
        r.mixer = x.mixer ∧ r.screens = x.screens ∧ r.clock = x.clock := by
      rw [hr]
      exact ⟨withGate_log x _, withGate_due x _, withGate_seats x _, withGate_mixer x _, withGate_screens x _,
        withGate_clock x _⟩
    rw [← hr] at hexec
    have hleft : handStarts [] r = r.withDue { r.due with reports := [] } := rfl
    rw [hleft] at hexec
    refine ⟨_, hexec, ?_, ?_, ?_, ?_, rseats.trans (xseats.trans wseats), rmixer.trans (xmixer.trans wmixer),
      rscreens.trans (xscreens.trans wscreens)⟩
    · show r.floor = _
      rw [rfloor, xfloor, wfloor]; rfl
    · unfold newestIs at hnewest ⊢
      rw [← rlog, ← rclock] at hnewest
      exact hnewest
    · show r.log.nextSeq = _
      rw [rlog, xseq, wlog]
    · show ({ r.due with reports := [] } : Due) = _
      rw [rdue, xdue, wdue]
  · unfold settleVoice; rw [hv]; exact handAll_of_nil hr
  · cases he : s.due.voice with
    | none => exact absurd he hv
    | some e =>
      rw [exec_voiceEvaluation he, hr, List.nil_append] at hexec
      have hu := Host.Outcome.next.inj hexec
      have hvoice : u.due.voice = none := by
        rw [← hu, handStarts_due, evaluate_due]
      have hleft : settleVoice s = handAll (evaluate e (handAll s)) := by unfold settleVoice; rw [he]
      have hright : settleVoice u = handAll u := by unfold settleVoice; rw [hvoice]
      have hreports : (evaluate e s).due.reports = evaluationReports e s := by
        rw [evaluate_due, hr, List.nil_append]
      rw [hleft, hright, handAll_of_nil hr, ← hu, handAll_handStarts, handAll_eq, hreports]
  · rw [exec_presenceEnd hr] at hexec
    have hu := Host.Outcome.next.inj hexec
    refine settleVoice_of_sameHand ?_ (by rw [← hu]; exact handAll_presenceEnd hr)
    rw [← hu, handStarts_due, (floorFrame_presenceEnds n _).due]
    rfl

end Sys2Proof.Machine
end

section
/-!
PROOFS. READING A COMMAND CELL, THE CODES AND THE FORMS: the first half of O12 (R204, R219, R220, Tables 12-5, 12-7).
-/

namespace Sys2Proof.Machine

/-! ### The code and the tag -/

theorem rowCell_parsePut (tag : Byte) (table : TableName) (body : Option (List Byte)) :
    rowCell (parsePut tag table body) = some (tag, 0x03) := by
  cases table <;> rfl

theorem rowCell_parseListClear (tag : Byte) (l : List Byte) :
    rowCell (parseListClear tag l) = some (tag, 0x04) := by
  unfold parseListClear; split
  · split
    · rfl
    · split <;> rfl
  · split <;> rfl
  · split <;> rfl
  · rfl

theorem rowCell_parseListAdd (tag : Byte) (l : List Byte) : rowCell (parseListAdd tag l) = some (tag, 0x05) := by
  unfold parseListAdd; split
  · split
    · rfl
    · split <;> rfl
  · split <;> rfl
  · rfl

theorem rowCell_parseListGet (tag : Byte) (l : List Byte) : rowCell (parseListGet tag l) = some (tag, 0x06) := by
  unfold parseListGet; split
  · split
    · rfl
    · split <;> rfl
  · rfl

theorem rowCell_parseStatus (tag : Byte) (l : List Byte) : rowCell (parseStatus tag l) = some (tag, 0x08) := by
  unfold parseStatus; split <;> rfl

theorem rowCell_parsePower (tag : Byte) (l : List Byte) : rowCell (parsePower tag l) = some (tag, 0x30) := by
  unfold parsePower; split
  · split
    · rfl
    · split <;> rfl
  · rfl

/-- A known code's command is of its row (Table 12-5). -/
theorem rowCell_of_known (table : TableName) (tag : Byte) (body : Option (List Byte)) :
    ∀ code ∈ knownCodes, rowCell (commandOf table { tag := tag, code := code, body := body }) = some (tag, code) := by
  have hstatus : rowCell (commandOf table { tag := tag, code := 0x08, body := body }) = some (tag, 0x08) := by
    cases body with
    | none => rfl
    | some b => exact rowCell_parseStatus tag b
  unfold knownCodes
  simp only [List.forall_mem_cons]
  exact ⟨rfl, rfl, rowCell_parsePut tag table body, rowCell_parseListClear tag _, rowCell_parseListAdd tag _,
    rowCell_parseListGet tag _, hstatus, rfl, rfl, rfl, rfl, rfl, rfl, rfl, rfl, rfl, rfl, rfl, rfl, rfl,
    rowCell_parsePower tag _, rfl, rfl, rfl, rfl, rfl, rfl, rfl, rfl, rfl, List.forall_mem_nil _⟩

theorem isKnown_of_toNat {code : Byte} {k : Nat} (h : code.toNat = k)
    (hk : isKnown (BitVec.ofNat 8 k) = true) : isKnown code = true := by
  rw [← h, BitVec.ofNat_toNat, BitVec.setWidth_eq] at hk; exact hk

theorem commandOf_of_unknown (table : TableName) {c : CommandCell} (h : isKnown c.code = false) :
    commandOf table c = .unknownCommand c.tag c.code := by
  unfold commandOf
  split
  case h_31 => rfl
  all_goals
    next hcode => exact absurd (isKnown_of_toNat hcode (by decide)) (by rw [h]; nofun)

/-! ### Form errors -/

/-- The form errors of the cursor's commands. -/
def cursorForms (tag : Byte) : List Instr :=
  [Instr.select tag none, .get tag none, .putSeat tag none, .putName tag none, .putGain tag none,
    .putNom tag none, .putBooking tag none, .putIdle tag none, .putDisplay tag none]

theorem formless_iff {tag : Byte} {i : Instr} :
    Statements.formless tag i ↔ isFormError i = true ∨ i ∈ cursorForms tag := Iff.rfl

theorem rowCell_of_cursorForms {tag : Byte} {i : Instr} (h : i ∈ cursorForms tag) :
    ∃ code ∈ [(0x01 : Byte), 0x02, 0x03], rowCell i = some (tag, code) := by
  have hall : ∀ i ∈ cursorForms tag, ∃ code ∈ [(0x01 : Byte), 0x02, 0x03], rowCell i = some (tag, code) := by
    unfold cursorForms
    simp only [List.forall_mem_cons]
    exact ⟨⟨0x01, by decide, rfl⟩, ⟨0x02, by decide, rfl⟩, ⟨0x03, by decide, rfl⟩, ⟨0x03, by decide, rfl⟩,
      ⟨0x03, by decide, rfl⟩, ⟨0x03, by decide, rfl⟩, ⟨0x03, by decide, rfl⟩, ⟨0x03, by decide, rfl⟩,
      ⟨0x03, by decide, rfl⟩, List.forall_mem_nil _⟩
  exact hall i h

/-- Behind the cursor's commands a form error is one of the row (R204). -/
theorem formless_of_code {tag code : Byte} {i : Instr} (hrow : rowCell i = some (tag, code))
    (hcode : code ∉ [(0x01 : Byte), 0x02, 0x03]) : Statements.formless tag i ↔ isFormError i = true := by
  rw [formless_iff]
  refine ⟨fun h => h.resolve_right fun hc => hcode ?_, Or.inl⟩
  obtain ⟨code', hmem, hrow'⟩ := rowCell_of_cursorForms hc
  rw [hrow] at hrow'
  cases hrow'; exact hmem

theorem formless_parsed {α : Type} {i : Instr} {p : Option α} {tag code : Byte} {q : Prop}
    (hrow : rowCell i = some (tag, code)) (hcode : code ∉ [(0x01 : Byte), 0x02, 0x03])
    (he : isFormError i = p.isNone) (hp : p = none ↔ q) : Statements.formless tag i ↔ q := by
  rw [formless_of_code hrow hcode, he, Option.isNone_iff_eq_none, hp]

/-- No body is a form error of every known code (R204). -/
theorem formless_of_noBody (table : TableName) (tag : Byte) :
    ∀ code ∈ knownCodes, Statements.formless tag (commandOf table { tag := tag, code := code, body := none }) := by
  have hput : Statements.formless tag (parsePut tag table none) := by
    refine formless_iff.mpr (Or.inr ?_)
    cases table <;> simp [cursorForms, parsePut]
  have hcursor : Instr.select tag none ∈ cursorForms tag ∧ Instr.get tag none ∈ cursorForms tag := by
    simp [cursorForms]
  unfold knownCodes
  simp only [List.forall_mem_cons]
  exact ⟨Or.inr hcursor.1, Or.inr hcursor.2, hput, Or.inl rfl, Or.inl rfl, Or.inl rfl, Or.inl rfl, Or.inl rfl,
    Or.inl rfl, Or.inl rfl, Or.inl rfl, Or.inl rfl, Or.inl rfl, Or.inl rfl, Or.inl rfl, Or.inl rfl, Or.inl rfl,
    Or.inl rfl, Or.inl rfl, Or.inl rfl, Or.inl rfl, Or.inl rfl, Or.inl rfl, Or.inl rfl, Or.inl rfl, Or.inl rfl,
    Or.inl rfl, Or.inl rfl, Or.inl rfl, Or.inl rfl, List.forall_mem_nil _⟩

/-! ### Forms by their length -/

theorem parseNone_eq_none {b : List Byte} : parseNone b = none ↔ b.length ≠ 0 := by
  unfold parseNone; split
  · simp
  · next h => simpa using h

theorem parseOne_eq_none {b : List Byte} : parseOne b = none ↔ b.length ≠ 1 := by
  unfold parseOne; split
  · simp
  · next h => simpa [List.length_eq_one_iff] using h

theorem parseTwo_eq_none {b : List Byte} : parseTwo b = none ↔ b.length ≠ 2 := by
  unfold parseTwo; split
  · simp
  · next h => simpa [List.length_eq_two] using h

theorem parseFour_eq_none {b : List Byte} : parseFour b = none ↔ b.length ≠ 4 := by
  constructor
  · intro h hlen
    match b, hlen with
    | [_, _, _, _], _ => exact nomatch h
  · intro h
    unfold parseFour; split
    · exact absurd rfl h
    · rfl

theorem parseWord_eq_none {b : List Byte} : parseWord b = none ↔ b.length ≠ 2 := by
  unfold parseWord; split
  · simp
  · next h => simpa [List.length_eq_two] using h

theorem parseSeat_eq_none {b : List Byte} : parseSeat b = none ↔ b.length ≠ 3 := by
  unfold parseSeat; split
  · simp
  · next h => simpa [List.length_eq_three] using h

theorem parsePreset_eq_none {b : List Byte} : parsePreset b = none ↔ b.length ≠ 6 := by
  constructor
  · intro h hlen
    match b, hlen with
    | [_, _, _, _, _, _], _ => exact nomatch h
  · intro h
    unfold parsePreset; split
    · exact absurd rfl h
    · rfl

theorem exists_front {k : Nat} {b : List Byte} (h : k ≤ b.length) : ∃ l rest, l.length = k ∧ b = l ++ rest :=
  ⟨b.take k, b.drop k, by rw [List.length_take]; omega, (List.take_append_drop k b).symm⟩

/-- A Floor Setup record takes twelve bytes, and leaves the rest. -/
theorem parseSetupThen_cases (b : List Byte) :
    (parseSetupThen b = none ∧ b.length < 12) ∨
      ∃ f rest, parseSetupThen b = some (f, rest) ∧ b.length = rest.length + 12 := by
  by_cases h : b.length < 12
  · refine Or.inl ⟨?_, h⟩
    unfold parseSetupThen; split
    · simp only [List.length_cons] at h; omega
    · rfl
  · obtain ⟨l, rest, hl, rfl⟩ := exists_front (Nat.not_lt.mp h)
    match l, hl with
    | [_, _, _, _, _, _, _, _, _, _, _, _], _ => exact Or.inr ⟨_, rest, rfl, rfl⟩

theorem parseSetup_eq_none {b : List Byte} : parseSetup b = none ↔ b.length ≠ 12 := by
  unfold parseSetup
  obtain ⟨hp, hlen⟩ | ⟨f, rest, hp, hlen⟩ := parseSetupThen_cases b
  · rw [hp]; exact ⟨fun _ => by omega, fun _ => rfl⟩
  · rw [hp]
    cases rest with
    | nil => exact ⟨nofun, fun h => absurd hlen h⟩
    | cons x rest => exact ⟨fun _ => by rw [hlen, List.length_cons]; omega, fun _ => rfl⟩

theorem parseIdle_eq_none {b : List Byte} : parseIdle b = none ↔ b.length ≠ 14 := by
  cases b with
  | nil => exact ⟨fun _ => nofun, fun _ => rfl⟩
  | cons e b =>
    unfold parseIdle; dsimp only
    rw [List.length_cons]
    obtain ⟨hp, hlen⟩ | ⟨f, rest, hp, hlen⟩ := parseSetupThen_cases b
    · rw [hp]; exact ⟨fun _ => by omega, fun _ => rfl⟩
    · rw [hp]
      match rest, hlen with
      | [], hlen => exact ⟨fun _ => by rw [hlen, List.length_nil]; omega, fun _ => rfl⟩
      | [_], hlen => exact ⟨nofun, fun h => absurd (by rw [hlen]; rfl) h⟩
      | _ :: _ :: rest, hlen =>
        exact ⟨fun _ => by rw [hlen, List.length_cons, List.length_cons]; omega, fun _ => rfl⟩

theorem parseBooking_eq_none {b : List Byte} : parseBooking b = none ↔ b.length ≠ 33 := by
  by_cases h : b.length < 21
  · refine ⟨fun _ => by omega, fun _ => ?_⟩
    unfold parseBooking; split
    · simp only [List.length_cons] at h; omega
    · rfl
  · obtain ⟨l, rest, hl, rfl⟩ := exists_front (Nat.not_lt.mp h)
    match l, hl with
    | [_, _, _, _, _, _, _, _, _, _, _, _, _, _, _, _, _, _, _, _, _], _ =>
      refine (Option.map_eq_none_iff (x := parseSetup rest)).trans (parseSetup_eq_none.trans ?_)
      simp only [List.cons_append, List.nil_append, List.length_cons]; omega

end Sys2Proof.Machine
end

section
/-!
PROOFS. READING A COMMAND CELL, THE ROWS: which bodies have a row's form, and strings, items and pairs by their count
(R204, R209, R220).
-/

namespace Sys2Proof.Machine

/-! ### Rows of one length -/

section cursorRows
variable {tag : Byte}

theorem formless_select {p : Option (TableName × Nat)} : Statements.formless tag (.select tag p) ↔ p = none := by
  simp [Statements.formless, isFormError]

theorem formless_get {p : Option Unit} : Statements.formless tag (.get tag p) ↔ p = none := by
  simp [Statements.formless, isFormError]

theorem formless_putSeat {p : Option SeatFields} : Statements.formless tag (.putSeat tag p) ↔ p = none := by
  simp [Statements.formless, isFormError]

theorem formless_putGain {p : Option Nat} : Statements.formless tag (.putGain tag p) ↔ p = none := by
  simp [Statements.formless, isFormError]

theorem formless_putNom {p : Option Nat} : Statements.formless tag (.putNom tag p) ↔ p = none := by
  simp [Statements.formless, isFormError]

theorem formless_putBooking {p : Option BookingFields} :
    Statements.formless tag (.putBooking tag p) ↔ p = none := by
  simp [Statements.formless, isFormError]

theorem formless_putIdle {p : Option IdleFields} : Statements.formless tag (.putIdle tag p) ↔ p = none := by
  simp [Statements.formless, isFormError]

theorem formless_putDisplay {p : Option PresetFields} :
    Statements.formless tag (.putDisplay tag p) ↔ p = none := by
  simp [Statements.formless, isFormError]

end cursorRows

/-- The commands whose parameters have one length (Table 12-5). -/
theorem formless_iff_length (table : TableName) (tag : Byte) : ∀ x ∈ [((0x02 : Byte), 0), (0x09, 0), (0x10, 1),
      (0x11, 1), (0x12, 0), (0x13, 0), (0x14, 12), (0x15, 0), (0x16, 0), (0x20, 1), (0x21, 0), (0x22, 2), (0x29, 1),
      (0x31, 2), (0x38, 4), (0x39, 0), (0x40, 1), (0x41, 2), (0x42, 1), (0x43, 1), (0x48, 0), (0x49, 2)],
    ∀ body : List Byte,
      Statements.formless tag (commandOf table { tag := tag, code := x.1, body := some body }) ↔
        body.length ≠ x.2 := by
  simp only [List.forall_mem_cons]
  exact ⟨fun _ => formless_get.trans parseNone_eq_none,
    fun b => formless_parsed (p := parseNone b) rfl (by decide) rfl parseNone_eq_none,
    fun b => formless_parsed (p := parseOne b) rfl (by decide) rfl parseOne_eq_none,
    fun b => formless_parsed (p := parseOne b) rfl (by decide) rfl parseOne_eq_none,
    fun b => formless_parsed (p := parseNone b) rfl (by decide) rfl parseNone_eq_none,
    fun b => formless_parsed (p := parseNone b) rfl (by decide) rfl parseNone_eq_none,
    fun b => formless_parsed (p := parseSetup b) rfl (by decide) rfl parseSetup_eq_none,
    fun b => formless_parsed (p := parseNone b) rfl (by decide) rfl parseNone_eq_none,
    fun b => formless_parsed (p := parseNone b) rfl (by decide) rfl parseNone_eq_none,
    fun b => formless_parsed (p := parseOne b) rfl (by decide) rfl parseOne_eq_none,
    fun b => formless_parsed (p := parseNone b) rfl (by decide) rfl parseNone_eq_none,
    fun b => formless_parsed (p := parseTwo b) rfl (by decide) rfl parseTwo_eq_none,
    fun b => formless_parsed (p := parseOne b) rfl (by decide) rfl parseOne_eq_none,
    fun b => formless_parsed (p := parseTwo b) rfl (by decide) rfl parseTwo_eq_none,
    fun b => formless_parsed (p := parseFour b) rfl (by decide) rfl parseFour_eq_none,
    fun b => formless_parsed (p := parseNone b) rfl (by decide) rfl parseNone_eq_none,
    fun b => formless_parsed (p := parseOne b) rfl (by decide) rfl parseOne_eq_none,
    fun b => formless_parsed (p := parseTwo b) rfl (by decide) rfl parseTwo_eq_none,
    fun b => formless_parsed (p := parseOne b) rfl (by decide) rfl parseOne_eq_none,
    fun b => formless_parsed (p := parseOne b) rfl (by decide) rfl parseOne_eq_none,
    fun b => formless_parsed (p := parseNone b) rfl (by decide) rfl parseNone_eq_none,
    fun b => formless_parsed (p := parseTwo b) rfl (by decide) rfl parseTwo_eq_none,
    List.forall_mem_nil _⟩

/-- The entry forms that have one length (Table 12-7). -/
theorem formless_put_iff_length (tag : Byte) : ∀ x ∈ [(TableName.seat, 3), (.gain0, 2), (.gain1, 2), (.nom, 2),
      (.booking, 33), (.idle, 14), (.display, 6)], ∀ body : List Byte,
    Statements.formless tag (commandOf x.1 { tag := tag, code := 0x03, body := some body }) ↔ body.length ≠ x.2 := by
  simp only [List.forall_mem_cons]
  exact ⟨fun _ => formless_putSeat.trans parseSeat_eq_none, fun _ => formless_putGain.trans parseWord_eq_none,
    fun _ => formless_putGain.trans parseWord_eq_none, fun _ => formless_putNom.trans parseWord_eq_none,
    fun _ => formless_putBooking.trans parseBooking_eq_none, fun _ => formless_putIdle.trans parseIdle_eq_none,
    fun _ => formless_putDisplay.trans parsePreset_eq_none, List.forall_mem_nil _⟩

/-! ### SELECT -/

theorem parseTable_tableByte (x : TableName) : parseTable (BitVec.ofNat 8 (tableByte x)) = some x := by
  cases x <;> rfl

theorem eq_of_parseTable {b : Byte} {x : TableName} (h : parseTable b = some x) :
    b = BitVec.ofNat 8 (tableByte x) := by
  unfold parseTable at h
  split at h
  case h_9 => exact nomatch h
  all_goals
    next hb => cases h; exact BitVec.eq_of_toNat_eq hb

theorem parseSelect_eq_none {b : List Byte} :
    parseSelect b = none ↔ ∀ (x : TableName) (i : Byte), b ≠ b1 (tableByte x) ++ [i] := by
  constructor
  · rintro h x i rfl
    have hsome : parseSelect (b1 (tableByte x) ++ [i]) = (parseTable (BitVec.ofNat 8 (tableByte x))).map
        (fun n => (n, i.toNat)) := rfl
    rw [hsome, parseTable_tableByte] at h
    exact nomatch h
  · intro h
    unfold parseSelect; split
    · next t i =>
      cases ht : parseTable t with
      | none => rfl
      | some x => exact absurd (by rw [eq_of_parseTable ht]; rfl) (h x i)
    · rfl

/-! ### STATUS and DISPLAY POWER -/

theorem formless_parseStatus {tag : Byte} (body : List Byte) :
    Statements.formless tag (parseStatus tag body) ↔ 1 < body.length := by
  rw [formless_of_code (rowCell_parseStatus tag body) (by decide)]
  match body with
  | [] => exact ⟨nofun, fun h => absurd h (Nat.not_lt_zero 1)⟩
  | [_] => exact ⟨nofun, fun h => absurd h (Nat.lt_irrefl 1)⟩
  | _ :: _ :: l => exact ⟨fun _ => Nat.succ_lt_succ (Nat.succ_pos _), fun _ => rfl⟩

theorem formless_parsePower {tag : Byte} (body : List Byte) :
    Statements.formless tag (parsePower tag body) ↔ ∀ d n : Byte, body ≠ [d, 0, n] ∧ body ≠ [d, 1, n] := by
  rw [formless_of_code (rowCell_parsePower tag body) (by decide)]
  unfold parsePower
  split
  · next d o n =>
    by_cases h1 : o = 1
    · subst h1
      rw [if_pos rfl]
      exact ⟨nofun, fun h => absurd rfl (h d n).2⟩
    · rw [if_neg h1]
      by_cases h0 : o = 0
      · subst h0
        rw [if_pos rfl]
        exact ⟨nofun, fun h => absurd rfl (h d n).1⟩
      · rw [if_neg h0]
        refine ⟨fun _ d' n' => ⟨fun he => h0 ?_, fun he => h1 ?_⟩, fun _ => rfl⟩
        · cases he; rfl
        · cases he; rfl
  · next hno => exact ⟨fun _ d n => ⟨hno d 0 n, hno d 1 n⟩, fun _ => rfl⟩

/-! ### Lists -/

/-- A list table outside the two is a form error (R204, notes/assumptions/29.md). -/
theorem formless_otherList {tag l : Byte} {body : List Byte} (h0 : l ≠ 0) (h1 : l ≠ 1) (hb : body.head? = some l) :
    Statements.formless tag (parseListClear tag body) ∧ Statements.formless tag (parseListAdd tag body) ∧
      Statements.formless tag (parseListGet tag body) := by
  obtain ⟨t, rfl⟩ : ∃ t, body = l :: t := by
    cases body with
    | nil => exact nomatch hb
    | cons x t => cases hb; exact ⟨t, rfl⟩
  have hclear : parseListClear tag (l :: t) = .listClearAssign tag none := by
    unfold parseListClear
    split
    · next heq => cases heq; rw [if_neg h0, if_neg h1]
    · next heq => cases heq; rw [if_neg h1]
    · next heq => cases heq; rw [if_neg h1]
    · rfl
  have hadd : parseListAdd tag (l :: t) = .listAddAssign tag none := by
    unfold parseListAdd
    split
    · next heq => cases heq; rw [if_neg h1, if_neg h0]
    · next heq => cases heq; rw [if_neg h1]
    · rfl
  have hget : parseListGet tag (l :: t) = .listGetAssign tag none := by
    unfold parseListGet; dsimp only
    rw [if_neg h1, if_neg h0]
  rw [hclear, hadd, hget]
  exact ⟨Or.inl rfl, Or.inl rfl, Or.inl rfl⟩

/-! ### Numbers -/

theorem toNat_byte {n : Nat} (h : n < 256) : (BitVec.ofNat 8 n).toNat = n := by
  rw [BitVec.toNat_ofNat]; exact Nat.mod_eq_of_lt h

theorem be16_b2 {n : Nat} (h : n < 65536) : be16 (BitVec.ofNat 8 (n / 256)) (BitVec.ofNat 8 n) = n := by
  unfold be16
  rw [BitVec.toNat_ofNat, BitVec.toNat_ofNat]; omega

theorem be24_b3 {n : Nat} (h : n < 16777216) :
    be24 (BitVec.ofNat 8 (n / 65536)) (BitVec.ofNat 8 (n / 256)) (BitVec.ofNat 8 n) = n := by
  unfold be24
  rw [BitVec.toNat_ofNat, BitVec.toNat_ofNat, BitVec.toNat_ofNat]; omega

theorem yesNo_bool (b : Bool) : yesNo (BitVec.ofNat 8 (if b then 1 else 0)) = b := by
  cases b <;> rfl

/-! ### Strings, items and pairs -/

theorem parseItems_flatMap (l : List (Byte × Byte)) :
    parseItems (l.flatMap (fun p => [p.1, p.2])) = some (l.map (fun p => (p.1.toNat, p.2.toNat))) := by
  induction l with
  | nil => rfl
  | cons p l ih =>
    have hcons : parseItems ((p :: l).flatMap (fun p => [p.1, p.2])) =
        (parseItems (l.flatMap (fun p => [p.1, p.2]))).map (fun l => (p.1.toNat, p.2.toNat) :: l) := rfl
    rw [hcons, ih]; rfl

theorem parsePairs_flatMap {l : List (Nat × Nat)}
    (h : l.all (fun p => decide (p.1 < 65536 ∧ p.2 < 65536)) = true) :
    parsePairs (l.flatMap (fun p => b2 p.1 ++ b2 p.2)) = some l := by
  induction l with
  | nil => rfl
  | cons p l ih =>
    rw [List.all_cons, Bool.and_eq_true, decide_eq_true_eq] at h
    have hcons : parsePairs ((p :: l).flatMap (fun p => b2 p.1 ++ b2 p.2)) =
        (parsePairs (l.flatMap (fun p => b2 p.1 ++ b2 p.2))).map (fun l =>
          (be16 (BitVec.ofNat 8 (p.1 / 256)) (BitVec.ofNat 8 p.1),
            be16 (BitVec.ofNat 8 (p.2 / 256)) (BitVec.ofNat 8 p.2)) :: l) := rfl
    rw [hcons, ih h.2, be16_b2 h.1.1, be16_b2 h.1.2]; rfl

theorem counted_some (n : Byte) (l : List (Nat × Nat)) :
    counted n (some l) = if l.length = n.toNat then some l else none := rfl

theorem parseListAdd_assign (tag a n : Byte) (items : List (Byte × Byte)) :
    parseListAdd tag ([0, a, n] ++ items.flatMap (fun p => [p.1, p.2])) =
      .listAddAssign tag (if items.length = n.toNat
        then some (a.toNat, items.map (fun p => (p.1.toNat, p.2.toNat))) else none) := by
  have hadd : ∀ rest, parseListAdd tag ([0, a, n] ++ rest) =
      .listAddAssign tag ((counted n (parseItems rest)).map (fun p => (a.toNat, p))) := fun _ => rfl
  rw [hadd, parseItems_flatMap, counted_some, List.length_map]
  split <;> rfl

theorem parseListAdd_ircode (tag a n : Byte) {pairs : List (Nat × Nat)}
    (h : pairs.all (fun p => decide (p.1 < 65536 ∧ p.2 < 65536)) = true) :
    parseListAdd tag ([1, a, n] ++ pairs.flatMap (fun p => b2 p.1 ++ b2 p.2)) =
      .listAddIrcode tag (if pairs.length = n.toNat then some (a.toNat, pairs) else none) := by
  have hadd : ∀ rest, parseListAdd tag ([1, a, n] ++ rest) =
      .listAddIrcode tag ((counted n (parsePairs rest)).map (fun p => (a.toNat, p))) := fun _ => rfl
  rw [hadd, parsePairs_flatMap h, counted_some]
  split <;> rfl

theorem parseMessage_eq (a d n : Byte) (text : Text) : parseMessage ([a, d, n] ++ text) =
    if text.length = n.toNat then some (a.toNat, d.toNat, text) else none := by
  have hmessage : parseMessage ([a, d, n] ++ text) =
      (if text.length = n.toNat then some text else none).map (fun x => (a.toNat, d.toNat, x)) := rfl
  rw [hmessage]
  split <;> rfl

end Sys2Proof.Machine
end

section
/-!
PROOFS. READING A COMMAND CELL, THE ENTRY FORMS: the bytes of an entry are read back as that entry (R28, R136,
R161, R180, R204, R219, R220, Tables 12-6, 12-7).
-/

namespace Sys2Proof.Machine

/-! ### A Floor Setup record -/

/-- A Floor Setup record in its ranges (Table 2-1). -/
structure SetupValid (x : FloorSetup) : Prop where
  maxOpen : 1 ≤ x.maxOpen ∧ x.maxOpen ≤ 6
  lead : x.lead ≤ 255
  threshold : x.threshold ≤ 524287
  hold : 50 ≤ x.hold ∧ x.hold ≤ 5000
  limit : ∀ l, x.limit = some l → 10 ≤ l ∧ l ≤ 3600

theorem limit?_valid {n : Nat} {limit : Option Nat} (h : limit? n = some limit) :
    ∀ l, limit = some l → 10 ≤ l ∧ l ≤ 3600 := by
  unfold limit? at h
  split at h
  · cases h; nofun
  · split at h
    · next hr => cases h; intro l hl; cases hl; exact hr
    · exact nomatch h

theorem setup?_valid {g : SetupFields} {x : FloorSetup} (h : setup? g = some x) : SetupValid x := by
  unfold setup? at h
  split at h
  · next hlimit _ =>
    split at h
    · next hr =>
      obtain ⟨h1, h2, h3, h4, h5, h6⟩ := hr
      cases h
      exact ⟨⟨h1, h2⟩, h3, h4, ⟨h5, h6⟩, limit?_valid hlimit⟩
    · exact nomatch h
  · exact nomatch h

/-- The fields in which a Floor Setup record is sent. -/
def setupFieldsOf (x : FloorSetup) : SetupFields :=
  { mode := modeByte x.mode, maxOpen := x.maxOpen, autoAdvance := x.autoAdvance, limit := x.limit.getD 0
    lead := x.lead, action := actionByte x.action, threshold := x.threshold, hold := x.hold }

theorem mode?_modeByte (m : Mode) : mode? (modeByte m) = some m := by cases m <;> rfl

theorem action?_actionByte (a : LimitAction) : action? (actionByte a) = some a := by cases a <;> rfl

theorem limit?_getD {limit : Option Nat} (h : ∀ l, limit = some l → 10 ≤ l ∧ l ≤ 3600) :
    limit? (limit.getD 0) = some limit := by
  cases limit with
  | none => rfl
  | some l =>
    have hl := h l rfl
    unfold limit?
    rw [Option.getD_some, if_neg (by omega), if_pos hl]

theorem setup?_setupFieldsOf {x : FloorSetup} (h : SetupValid x) : setup? (setupFieldsOf x) = some x := by
  obtain ⟨⟨h1, h2⟩, h3, h4, ⟨h5, h6⟩, hlimit⟩ := h
  have hmode : mode? (setupFieldsOf x).mode = some x.mode := mode?_modeByte _
  have haction : action? (setupFieldsOf x).action = some x.action := action?_actionByte _
  have hlim : limit? (setupFieldsOf x).limit = some x.limit := limit?_getD hlimit
  unfold setup?
  rw [hmode, hlim, haction]
  exact if_pos ⟨h1, h2, h3, h4, h5, h6⟩

theorem modeByte_lt (m : Mode) : modeByte m < 256 := by cases m <;> decide

theorem actionByte_lt (a : LimitAction) : actionByte a < 256 := by cases a <;> decide

/-- The twelve bytes of a record in its ranges are read back as its fields. -/
theorem parseSetupThen_setupBytes {x : FloorSetup} (h : SetupValid x) (rest : List Byte) :
    parseSetupThen (setupBytes x ++ rest) = some (setupFieldsOf x, rest) := by
  obtain ⟨hmax, hlead, hthreshold, hhold, hlimit⟩ := h
  have hlim : x.limit.getD 0 < 65536 := by
    cases hl : x.limit with
    | none => exact Nat.succ_pos _
    | some l => have := hlimit l hl; rw [Option.getD_some]; omega
  have hread : parseSetupThen (setupBytes x ++ rest) = some
      ({ mode := (BitVec.ofNat 8 (modeByte x.mode)).toNat, maxOpen := (BitVec.ofNat 8 x.maxOpen).toNat
         autoAdvance := yesNo (BitVec.ofNat 8 (if x.autoAdvance then 1 else 0))
         limit := be16 (BitVec.ofNat 8 (x.limit.getD 0 / 256)) (BitVec.ofNat 8 (x.limit.getD 0))
         lead := (BitVec.ofNat 8 x.lead).toNat, action := (BitVec.ofNat 8 (actionByte x.action)).toNat
         threshold := be24 (BitVec.ofNat 8 (x.threshold / 65536)) (BitVec.ofNat 8 (x.threshold / 256))
          (BitVec.ofNat 8 x.threshold)
         hold := be16 (BitVec.ofNat 8 (x.hold / 256)) (BitVec.ofNat 8 x.hold) }, rest) := rfl
  rw [hread, toNat_byte (modeByte_lt _), toNat_byte (by omega), yesNo_bool, be16_b2 hlim, toNat_byte (by omega),
    toNat_byte (actionByte_lt _), be24_b3 (by omega), be16_b2 (by omega)]
  rfl

theorem parseSetup_setupBytes {x : FloorSetup} (h : SetupValid x) :
    parseSetup (setupBytes x) = some (setupFieldsOf x) := by
  have hread := parseSetupThen_setupBytes h []
  rw [List.append_nil] at hread
  unfold parseSetup; rw [hread]

/-! ### A SEAT entry -/

/-- An index or 255 for absent, as it is sent (R220). -/
def ffOf {k : Nat} (x : Option (Fin k)) : Nat := x.elim 255 Fin.val

theorem orFF_eq {k : Nat} (x : Option (Fin k)) : orFF x = [BitVec.ofNat 8 (ffOf x)] := by
  cases x <;> rfl

theorem ffOf_lt {k : Nat} (hk : k ≤ 256) (x : Option (Fin k)) : ffOf x < 256 := by
  cases x with
  | none => exact Nat.lt_succ_self 255
  | some i => exact Nat.lt_of_lt_of_le i.isLt hk

theorem optIndex?_ffOf {k : Nat} (hk : k ≤ 255) (x : Option (Fin k)) : optIndex? k (ffOf x) = some x := by
  unfold optIndex?
  cases x with
  | none => exact if_pos rfl
  | some i =>
    have hi := i.isLt
    have hff : ffOf (some i) = i.val := rfl
    rw [hff, if_neg (by omega), index?_val]; rfl

theorem role?_roleByte (r : Role) : role? (roleByte r) = some r := by cases r <;> rfl

theorem roleByte_lt (r : Role) : roleByte r < 256 := by cases r <;> decide

theorem parseSeat_seatEntryBytes (e : SeatEntry) : parseSeat (seatEntryBytes e) =
    some { role := roleByte e.role, name := ffOf e.name, exempt := e.exempt } := by
  have hread : parseSeat (b1 (roleByte e.role) ++ [BitVec.ofNat 8 (ffOf e.name)] ++ bBool e.exempt) =
      some { role := (BitVec.ofNat 8 (roleByte e.role)).toNat, name := (BitVec.ofNat 8 (ffOf e.name)).toNat
             exempt := yesNo (BitVec.ofNat 8 (if e.exempt then 1 else 0)) } := rfl
  unfold seatEntryBytes
  rw [orFF_eq, hread, toNat_byte (roleByte_lt _), toNat_byte (ffOf_lt (by decide) _), yesNo_bool]

theorem seatEntry?_fields (e : SeatEntry) :
    seatEntry? { role := roleByte e.role, name := ffOf e.name, exempt := e.exempt } = some e := by
  unfold seatEntry?; dsimp only
  rw [role?_roleByte, optIndex?_ffOf (by decide)]

/-! ### A BOOKING entry -/

/-- The fields in which a plan entry is sent. -/
def planFieldsOf (p : PlanEntry) : PlanFields := { used := p.used, input := p.input.val + 1 }

theorem plan?_planFieldsOf (p : PlanEntry) : plan? (planFieldsOf p) = some p := by
  have hi := p.input.isLt
  have hinput : input? (p.input.val + 1) = some p.input := by
    unfold input?
    rw [dif_pos ⟨by omega, by omega⟩]; rfl
  have hplan : plan? (planFieldsOf p) = (input? (p.input.val + 1)).map (fun n => { used := p.used, input := n }) := rfl
  rw [hplan, hinput]; rfl

/-- A booking's fixed part in its ranges (Table 9-2). -/
structure FixedValid (x : Fixed) : Prop where
  id : 1 ≤ x.id ∧ x.id ≤ 65535
  start : x.start ≤ 10079
  finish : x.finish ≤ 10080
  lead : x.lead ≤ 30
  grace : x.grace ≤ 60
  endWarn : x.endWarn ≤ 30
  setup : SetupValid x.setup

theorem fixed?_valid {g : BookingFields} {x : Fixed} (h : fixed? g = some x) : FixedValid x := by
  unfold fixed? at h
  split at h
  · next hsetup =>
    split at h
    · next hr =>
      obtain ⟨h1, h2, h3, h4, h5, h6, h7⟩ := hr
      cases h
      exact ⟨⟨h1, h2⟩, h3, h4, h5, h6, h7, setup?_valid hsetup⟩
    · exact nomatch h
  · exact nomatch h

/-- The fields in which a booking's fixed part is sent, the four plan entries by name. -/
def fixedFieldsOf (x : Fixed) (a b c d : PlanEntry) : BookingFields :=
  { id := x.id, start := x.start, finish := x.finish, lead := x.lead, grace := x.grace, endWarn := x.endWarn
    weekly := x.weekly, bank := x.bank.val, chair := ffOf x.chair, title := ffOf x.title
    plan := #v[planFieldsOf a, planFieldsOf b, planFieldsOf c, planFieldsOf d], setup := setupFieldsOf x.setup }

theorem vector_four {α : Type} (v : Vector α 4) : v = #v[v[0], v[1], v[2], v[3]] := by
  ext i hi
  match i, hi with
  | 0, _ => rfl
  | 1, _ => rfl
  | 2, _ => rfl
  | 3, _ => rfl

theorem fixed?_fixedFieldsOf {x : Fixed} {a b c d : PlanEntry} (h : FixedValid x) (hplan : x.plan = #v[a, b, c, d]) :
    fixed? (fixedFieldsOf x a b c d) = some x := by
  obtain ⟨⟨h1, h2⟩, h3, h4, h5, h6, h7, hsetup⟩ := h
  have hbank : index? 2 (fixedFieldsOf x a b c d).bank = some x.bank := index?_val _
  have hchair : optIndex? 64 (fixedFieldsOf x a b c d).chair = some x.chair := optIndex?_ffOf (by decide) _
  have htitle : optIndex? 128 (fixedFieldsOf x a b c d).title = some x.title := optIndex?_ffOf (by decide) _
  have hset : setup? (fixedFieldsOf x a b c d).setup = some x.setup := setup?_setupFieldsOf hsetup
  have hplans : plans? (fixedFieldsOf x a b c d).plan = some x.plan := by
    have hparts : plans? #v[planFieldsOf a, planFieldsOf b, planFieldsOf c, planFieldsOf d] = some #v[a, b, c, d] := by
      unfold plans?
      rw [show #v[planFieldsOf a, planFieldsOf b, planFieldsOf c, planFieldsOf d][0] = planFieldsOf a from rfl,
        show #v[planFieldsOf a, planFieldsOf b, planFieldsOf c, planFieldsOf d][1] = planFieldsOf b from rfl,
        show #v[planFieldsOf a, planFieldsOf b, planFieldsOf c, planFieldsOf d][2] = planFieldsOf c from rfl,
        show #v[planFieldsOf a, planFieldsOf b, planFieldsOf c, planFieldsOf d][3] = planFieldsOf d from rfl,
        plan?_planFieldsOf, plan?_planFieldsOf, plan?_planFieldsOf, plan?_planFieldsOf]
    rw [hplan]; exact hparts
  unfold fixed?
  rw [hbank, hchair, htitle, hplans, hset]
  exact if_pos ⟨h1, h2, h3, h4, h5, h6, h7⟩

theorem planFields_read (p : PlanEntry) : (⟨yesNo (BitVec.ofNat 8 (if p.used then 1 else 0)),
    (BitVec.ofNat 8 (p.input.val + 1)).toNat⟩ : PlanFields) = planFieldsOf p := by
  have hi := p.input.isLt
  rw [yesNo_bool, toNat_byte (by omega)]; rfl

/-- The 33 bytes of a booking in its ranges are read back as its fields. -/
theorem parseBooking_fixedBytes {x : Fixed} {a b c d : PlanEntry} (h : FixedValid x) (hplan : x.plan = #v[a, b, c, d]) :
    parseBooking (fixedBytes x) = some (fixedFieldsOf x a b c d) := by
  obtain ⟨hid, hstart, hfinish, hlead, hgrace, hwarn, hsetup⟩ := h
  have hbank := x.bank.isLt
  have hbytes : fixedBytes x = b2 x.id ++ b2 x.start ++ b2 x.finish ++ b1 x.lead ++ b1 x.grace ++ b1 x.endWarn ++
      bBool x.weekly ++ b1 x.bank.val ++ [BitVec.ofNat 8 (ffOf x.chair)] ++ [BitVec.ofNat 8 (ffOf x.title)] ++
      (planBytes a ++ (planBytes b ++ (planBytes c ++ (planBytes d ++ [])))) ++ setupBytes x.setup := by
    unfold fixedBytes
    rw [orFF_eq, orFF_eq, hplan]; rfl
  have hread : parseBooking (b2 x.id ++ b2 x.start ++ b2 x.finish ++ b1 x.lead ++ b1 x.grace ++ b1 x.endWarn ++
      bBool x.weekly ++ b1 x.bank.val ++ [BitVec.ofNat 8 (ffOf x.chair)] ++ [BitVec.ofNat 8 (ffOf x.title)] ++
      (planBytes a ++ (planBytes b ++ (planBytes c ++ (planBytes d ++ [])))) ++ setupBytes x.setup) =
      (parseSetup (setupBytes x.setup)).map fun f =>
        { id := be16 (BitVec.ofNat 8 (x.id / 256)) (BitVec.ofNat 8 x.id)
          start := be16 (BitVec.ofNat 8 (x.start / 256)) (BitVec.ofNat 8 x.start)
          finish := be16 (BitVec.ofNat 8 (x.finish / 256)) (BitVec.ofNat 8 x.finish)
          lead := (BitVec.ofNat 8 x.lead).toNat, grace := (BitVec.ofNat 8 x.grace).toNat
          endWarn := (BitVec.ofNat 8 x.endWarn).toNat
          weekly := yesNo (BitVec.ofNat 8 (if x.weekly then 1 else 0)), bank := (BitVec.ofNat 8 x.bank.val).toNat
          chair := (BitVec.ofNat 8 (ffOf x.chair)).toNat, title := (BitVec.ofNat 8 (ffOf x.title)).toNat
          plan := #v[
            ⟨yesNo (BitVec.ofNat 8 (if a.used then 1 else 0)), (BitVec.ofNat 8 (a.input.val + 1)).toNat⟩,
            ⟨yesNo (BitVec.ofNat 8 (if b.used then 1 else 0)), (BitVec.ofNat 8 (b.input.val + 1)).toNat⟩,
            ⟨yesNo (BitVec.ofNat 8 (if c.used then 1 else 0)), (BitVec.ofNat 8 (c.input.val + 1)).toNat⟩,
            ⟨yesNo (BitVec.ofNat 8 (if d.used then 1 else 0)), (BitVec.ofNat 8 (d.input.val + 1)).toNat⟩]
          setup := f } := rfl
  rw [hbytes, hread, parseSetup_setupBytes hsetup, Option.map_some, planFields_read, planFields_read, planFields_read,
    planFields_read, be16_b2 (by omega), be16_b2 (by omega), be16_b2 (by omega), toNat_byte (by omega),
    toNat_byte (by omega), toNat_byte (by omega), yesNo_bool, toNat_byte (by omega),
    toNat_byte (ffOf_lt (by decide) _), toNat_byte (ffOf_lt (by decide) _)]
  rfl

/-! ### The other entries -/

theorem parseIdle_idleBytes {x : IdleSetup} (h : SetupValid x.setup) : parseIdle (idleBytes x) =
    some { enabled := x.enabled, setup := setupFieldsOf x.setup, bank := x.bank.val } := by
  have hbank := x.bank.isLt
  have hbytes : idleBytes x = BitVec.ofNat 8 (if x.enabled then 1 else 0) ::
      (setupBytes x.setup ++ [BitVec.ofNat 8 x.bank.val]) := rfl
  rw [hbytes]
  unfold parseIdle; dsimp only
  rw [parseSetupThen_setupBytes h]
  dsimp only
  rw [yesNo_bool, toNat_byte (by omega)]

theorem idle?_valid {g : IdleFields} {x : IdleSetup} (h : idle? g = some x) : SetupValid x.setup := by
  unfold idle? at h
  split at h
  · next hsetup _ => cases h; exact setup?_valid hsetup
  · exact nomatch h

theorem idle?_fields {x : IdleSetup} (h : SetupValid x.setup) :
    idle? { enabled := x.enabled, setup := setupFieldsOf x.setup, bank := x.bank.val } = some x := by
  unfold idle?; dsimp only
  rw [setup?_setupFieldsOf h, index?_val]

/-- A preset accepted is the one sent (R136). -/
theorem preset?_cases {g : PresetFields} {x : Preset} (h : preset? g = some x) :
    g = { period := x.period, high := x.high, warmUp := x.warmUp, coolDown := x.coolDown } ∧
      100 ≤ x.period ∧ x.period ≤ 1000 ∧ 10 ≤ x.high ∧ x.high ≤ 50 ∧ x.warmUp ≤ 120 ∧ x.coolDown ≤ 300 := by
  unfold preset? at h
  split at h
  · next hr => cases h; exact ⟨rfl, hr⟩
  · exact nomatch h

theorem parsePreset_presetBytes {x : Preset} (h1 : x.period ≤ 1000) (h2 : x.high ≤ 50) (h3 : x.warmUp ≤ 120)
    (h4 : x.coolDown ≤ 300) : parsePreset (presetBytes x) =
      some { period := x.period, high := x.high, warmUp := x.warmUp, coolDown := x.coolDown } := by
  have hread : parsePreset (presetBytes x) =
      some { period := be16 (BitVec.ofNat 8 (x.period / 256)) (BitVec.ofNat 8 x.period)
             high := (BitVec.ofNat 8 x.high).toNat, warmUp := (BitVec.ofNat 8 x.warmUp).toNat
             coolDown := be16 (BitVec.ofNat 8 (x.coolDown / 256)) (BitVec.ofNat 8 x.coolDown) } := rfl
  rw [hread, be16_b2 (by omega), toNat_byte (by omega), toNat_byte (by omega), be16_b2 (by omega)]

theorem parseWord_b2 {g : Nat} (h : g < 65536) : parseWord (b2 g) = some g := by
  have hread : parseWord (b2 g) = some (be16 (BitVec.ofNat 8 (g / 256)) (BitVec.ofNat 8 g)) := rfl
  rw [hread, be16_b2 h]

end Sys2Proof.Machine
end

section
/-!
PROOFS. READING A COMMAND CELL, O12: the rows of a cell, their form, and what is read from its bytes (R204, R219, R220,
Tables 12-5 and 12-7).
-/

namespace Sys2Proof.Machine

/-- Table 12-5: the row of a cell carries its tag and code; an unlisted code and a cell without a body have no form. -/
theorem commandOf_row (table : TableName) (c : CommandCell) :
    rowCell (commandOf table c) = some (c.tag, c.code) ∧
      (isKnown c.code = false → commandOf table c = .unknownCommand c.tag c.code) ∧
      (isKnown c.code = true → c.body = none → Statements.formless c.tag (commandOf table c)) := by
  obtain ⟨tag, code, body⟩ := c
  refine ⟨?_, fun h => commandOf_of_unknown table h, fun h hb => ?_⟩
  · cases h : isKnown code with
    | true => exact rowCell_of_known table tag body code (List.contains_iff_mem.mp h)
    | false => rw [commandOf_of_unknown table h]; rfl
  · cases hb
    exact formless_of_noBody table tag code (List.contains_iff_mem.mp h)

theorem select_read (table : TableName) (tag a : Byte) (x : TableName) :
    commandOf table { tag := tag, code := 0x01, body := some (b1 (tableByte x) ++ [a]) } =
      .select tag (some (x, a.toNat)) := by
  have hread : commandOf table { tag := tag, code := 0x01, body := some (b1 (tableByte x) ++ [a]) } =
      .select tag ((parseTable (BitVec.ofNat 8 (tableByte x))).map (fun n => (n, a.toNat))) := rfl
  rw [hread, parseTable_tableByte]; rfl

theorem floorSet_read (table : TableName) (tag : Byte) {x : FloorSetup} (h : ∃ g : SetupFields, setup? g = some x) :
    ∃ g : SetupFields, commandOf table { tag := tag, code := 0x14, body := some (setupBytes x) } =
      .floorSet tag (some g) ∧ setup? g = some x := by
  obtain ⟨_, hg⟩ := h
  have hvalid := setup?_valid hg
  exact ⟨setupFieldsOf x, congrArg (Instr.floorSet tag) (parseSetup_setupBytes hvalid), setup?_setupFieldsOf hvalid⟩

theorem putSeat_read (tag : Byte) (e : SeatEntry) :
    ∃ g : SeatFields, commandOf .seat { tag := tag, code := 0x03, body := some (seatEntryBytes e) } =
      .putSeat tag (some g) ∧ seatEntry? g = some e :=
  ⟨_, congrArg (Instr.putSeat tag) (parseSeat_seatEntryBytes e), seatEntry?_fields e⟩

theorem putBooking_read (tag : Byte) {x : Fixed} (h : ∃ g : BookingFields, fixed? g = some x) :
    ∃ g : BookingFields, commandOf .booking { tag := tag, code := 0x03, body := some (fixedBytes x) } =
      .putBooking tag (some g) ∧ fixed? g = some x := by
  obtain ⟨_, hg⟩ := h
  have hvalid := fixed?_valid hg
  have hplan := vector_four x.plan
  exact ⟨_, congrArg (Instr.putBooking tag) (parseBooking_fixedBytes hvalid hplan), fixed?_fixedFieldsOf hvalid hplan⟩

theorem putIdle_read (tag : Byte) {x : IdleSetup} (h : ∃ g : IdleFields, idle? g = some x) :
    ∃ g : IdleFields, commandOf .idle { tag := tag, code := 0x03, body := some (idleBytes x) } =
      .putIdle tag (some g) ∧ idle? g = some x := by
  obtain ⟨_, hg⟩ := h
  have hvalid := idle?_valid hg
  exact ⟨_, congrArg (Instr.putIdle tag) (parseIdle_idleBytes hvalid), idle?_fields hvalid⟩

theorem putDisplay_read (tag : Byte) {x : Preset} (h : ∃ g : PresetFields, preset? g = some x) :
    ∃ g : PresetFields, commandOf .display { tag := tag, code := 0x03, body := some (presetBytes x) } =
      .putDisplay tag (some g) ∧ preset? g = some x := by
  obtain ⟨g, hg⟩ := h
  obtain ⟨rfl, -, h1, -, h2, h3, h4⟩ := preset?_cases hg
  exact ⟨_, congrArg (Instr.putDisplay tag) (parsePreset_presetBytes h1 h2 h3 h4), hg⟩

theorem putGain_read {table : TableName} (htable : table = .gain0 ∨ table = .gain1) (tag : Byte) {g : Nat}
    (h : g < 65536) :
    commandOf table { tag := tag, code := 0x03, body := some (b2 g) } = .putGain tag (some g) := by
  obtain rfl | rfl := htable
  · exact congrArg (Instr.putGain tag) (parseWord_b2 h)
  · exact congrArg (Instr.putGain tag) (parseWord_b2 h)

/-- Settles O12: each row's form from its own reader, and each entry form from its bytes. -/
theorem commandCellsRead : Obligations.CommandCellsRead := by
  intro table tag
  dsimp only
  refine ⟨commandOf_row table, fun code k body h => formless_iff_length table tag (code, k) h body, ?_,
    fun body => ⟨formless_select.trans parseSelect_eq_none, formless_parseStatus body, formless_parsePower body,
      fun _ h0 h1 hb => formless_otherList h0 h1 hb⟩,
    fun a b c d n x => ⟨select_read table tag a x, rfl, rfl, rfl, rfl, rfl, rfl, rfl, rfl, rfl, rfl, rfl, rfl, rfl, rfl,
      rfl, rfl, rfl, rfl, rfl, rfl⟩,
    fun a n items pairs text => ⟨parseListAdd_assign tag a n items, fun h => parseListAdd_ircode tag a n h,
      fun d => congrArg (Instr.seatMessage tag) (parseMessage_eq a d n text), ?_⟩,
    fun x h => floorSet_read table tag h, ?_, ?_, ?_, ?_, fun ht g h => putGain_read ht tag h, ?_⟩
  case refine_1 => exact fun k body h => formless_put_iff_length tag (table, k) h body
  case refine_2 => rintro rfl; rfl
  case refine_3 => rintro rfl e; exact putSeat_read tag e
  case refine_4 => rintro rfl x h; exact putBooking_read tag h
  case refine_5 => rintro rfl x h; exact putIdle_read tag h
  case refine_6 => rintro rfl x h; exact putDisplay_read tag h
  case refine_7 => rintro rfl g h; exact congrArg (Instr.putNom tag) (parseWord_b2 h)

end Sys2Proof.Machine
end
